-- ==== Sys2Proof/Word.lean ====
section
/-! DEFINITION. The word types of the machine (00_scope.md R8, R12) and the widths of register numbers. -/

namespace Sys2Proof

/-- A byte, 8 bits (00_scope.md R12). -/
abbrev Byte := BitVec 8

/-- A word, 32 bits (00_scope.md R12). -/
abbrev Word := BitVec 32

/-- A doubleword, 64 bits: a general register, the program counter, a virtual address (10_state.md R20, R25). -/
abbrev DWord := BitVec 64

/-- A physical address, 36 bits (20_memory.md R120, R137). -/
abbrev PAddr := BitVec 36

/-- The number of a general register, 0..31 (30_encoding.md R222). -/
abbrev RegNum := BitVec 5

/-- The number of a floating-point register or floating-point control register, 0..31. -/
abbrev FpRegNum := BitVec 5

/-- The number of a CP0 register, 0..31 (11_cp0_registers.md R60). -/
abbrev Cop0RegNum := BitVec 5

end Sys2Proof
end

