-- ==== Sys2Proof/Config.lean ====
section
/-! DEFINITION. What an implementation fixes: the free values (93_implementation_defined.md), and the values
this model takes for the mode pins and the parameters the spec leaves open (00_scope.md R9, R10). -/

namespace Sys2Proof

/-- The free values: a value the spec calls undefined, `any value`, or does not state, is `freeWord n` for a fresh
`n` read from the counter `State.free`. It has no body, so a proof about it holds for every value
(log entry 10). -/
opaque Config.freeWord : Nat → BitVec 64

/-- The values a cache line holds after a SoftReset ("cache and memory state is undefined", 60_exceptions.md R641):
`freeCache n k` for word `k` of the free cache contents of reset number `n` (log entry 38). -/
opaque Config.freeCache : Nat → Nat → BitVec 64

/-- `ENDIAN`, the Endian pin: 0 little endian. DESIGN CHOICE (log entry 6). -/
def Config.endian : Bool := false

/-- `DIVMODE`: 010, so Config.EC = 0. DESIGN CHOICE, the default 92_eei_decisions.md offers (log entry 6). -/
def Config.divMode : BitVec 3 := 0b010#3

/-- `TINTDIS`: 0, the timer drives IP7. DESIGN CHOICE (log entry 6). -/
def Config.tIntDis : Bool := false

/-- `BSIZE64N`: 0, 64-bit bus. DESIGN CHOICE (log entry 6). -/
def Config.bsize64n : Bool := false

/-- `MODE43N`: 1, R5000 type protocol. DESIGN CHOICE (log entry 6). -/
def Config.mode43n : Bool := true

/-- `PRID_REV`. DESIGN CHOICE (log entry 7). -/
def Config.pridRev : BitVec 8 := 0#8

/-- `FCR0_IMP`. DESIGN CHOICE (log entry 7). -/
def Config.fcr0Imp : BitVec 8 := 0x2D#8

/-- `FCR0_REV`. DESIGN CHOICE (log entry 7). -/
def Config.fcr0Rev : BitVec 8 := 0#8

/-- `COUNT_PER_INSTR`: Count increments by 1 a step. DESIGN CHOICE, the value D3 suggests (log entry 30). -/
def Config.countPerInstr : Nat := 1

/-- What a byte of memory that nothing has written reads as. DESIGN CHOICE (log entry 8). -/
def Config.unwritten : Byte := 0#8

end Sys2Proof
end

