-- ==== Sys2Proof/Syntax.lean ====
section
/-! DEFINITION. The abstract syntax: one constructor of `Instr` per row of spec/opcode_table.json, in the table's
order. Register numbers and code fields are bit vectors of the encoded width; the format field of a
floating-point operation and the operation field of CACHE are named alternatives. Unused fields of a word are
not part of the syntax (30_encoding.md R224). -/

namespace Sys2Proof

/-- The operand format of a floating-point operation, bits 25:21 of the word with bit 25 set
(30_encoding.md R236). `reserved code` is a format the table calls Reserved, `code` being bits 24:21. -/
inductive Fmt where
  | s
  | d
  | w
  | l
  | reserved (code : BitVec 4)
  deriving DecidableEq, Repr

/-- The operations of the CACHE instruction (21_cache.md R190). `undefined code` is an op field that names none
of them. -/
inductive CacheOp where
  | indexInvalidateI
  | indexWriteBackInvalidateD
  | indexLoadTagI
  | indexLoadTagD
  | indexStoreTagI
  | indexStoreTagD
  | createDirtyExclusiveD
  | hitInvalidateI
  | hitInvalidateD
  | fillI
  | hitWriteBackInvalidateD
  | hitWriteBackD
  | fillD
  | undefined (code : BitVec 5)
  deriving DecidableEq, Repr

/-- The instructions, one constructor per row of the opcode table (30_encoding.md R222, R243). -/
inductive Instr where
  | lb (rt : RegNum) (offset : BitVec 16) (base : RegNum)
  | lbu (rt : RegNum) (offset : BitVec 16) (base : RegNum)
  | lh (rt : RegNum) (offset : BitVec 16) (base : RegNum)
  | lhu (rt : RegNum) (offset : BitVec 16) (base : RegNum)
  | lw (rt : RegNum) (offset : BitVec 16) (base : RegNum)
  | lwu (rt : RegNum) (offset : BitVec 16) (base : RegNum)
  | ld (rt : RegNum) (offset : BitVec 16) (base : RegNum)
  | sb (rt : RegNum) (offset : BitVec 16) (base : RegNum)
  | sh (rt : RegNum) (offset : BitVec 16) (base : RegNum)
  | sw (rt : RegNum) (offset : BitVec 16) (base : RegNum)
  | sd (rt : RegNum) (offset : BitVec 16) (base : RegNum)
  | lwl (rt : RegNum) (offset : BitVec 16) (base : RegNum)
  | lwr (rt : RegNum) (offset : BitVec 16) (base : RegNum)
  | swl (rt : RegNum) (offset : BitVec 16) (base : RegNum)
  | swr (rt : RegNum) (offset : BitVec 16) (base : RegNum)
  | ldl (rt : RegNum) (offset : BitVec 16) (base : RegNum)
  | ldr (rt : RegNum) (offset : BitVec 16) (base : RegNum)
  | sdl (rt : RegNum) (offset : BitVec 16) (base : RegNum)
  | sdr (rt : RegNum) (offset : BitVec 16) (base : RegNum)
  | ll (rt : RegNum) (offset : BitVec 16) (base : RegNum)
  | lld (rt : RegNum) (offset : BitVec 16) (base : RegNum)
  | sc (rt : RegNum) (offset : BitVec 16) (base : RegNum)
  | scd (rt : RegNum) (offset : BitVec 16) (base : RegNum)
  | addi (rt : RegNum) (rs : RegNum) (imm : BitVec 16)
  | addiu (rt : RegNum) (rs : RegNum) (imm : BitVec 16)
  | slti (rt : RegNum) (rs : RegNum) (imm : BitVec 16)
  | sltiu (rt : RegNum) (rs : RegNum) (imm : BitVec 16)
  | andi (rt : RegNum) (rs : RegNum) (imm : BitVec 16)
  | ori (rt : RegNum) (rs : RegNum) (imm : BitVec 16)
  | xori (rt : RegNum) (rs : RegNum) (imm : BitVec 16)
  | daddi (rt : RegNum) (rs : RegNum) (imm : BitVec 16)
  | daddiu (rt : RegNum) (rs : RegNum) (imm : BitVec 16)
  | lui (rt : RegNum) (imm : BitVec 16)
  | add (rd : RegNum) (rs : RegNum) (rt : RegNum)
  | addu (rd : RegNum) (rs : RegNum) (rt : RegNum)
  | sub (rd : RegNum) (rs : RegNum) (rt : RegNum)
  | subu (rd : RegNum) (rs : RegNum) (rt : RegNum)
  | slt (rd : RegNum) (rs : RegNum) (rt : RegNum)
  | sltu (rd : RegNum) (rs : RegNum) (rt : RegNum)
  | and (rd : RegNum) (rs : RegNum) (rt : RegNum)
  | or (rd : RegNum) (rs : RegNum) (rt : RegNum)
  | xor (rd : RegNum) (rs : RegNum) (rt : RegNum)
  | nor (rd : RegNum) (rs : RegNum) (rt : RegNum)
  | dadd (rd : RegNum) (rs : RegNum) (rt : RegNum)
  | daddu (rd : RegNum) (rs : RegNum) (rt : RegNum)
  | dsub (rd : RegNum) (rs : RegNum) (rt : RegNum)
  | dsubu (rd : RegNum) (rs : RegNum) (rt : RegNum)
  | sll (rd : RegNum) (rt : RegNum) (sa : BitVec 5)
  | srl (rd : RegNum) (rt : RegNum) (sa : BitVec 5)
  | sra (rd : RegNum) (rt : RegNum) (sa : BitVec 5)
  | dsll (rd : RegNum) (rt : RegNum) (sa : BitVec 5)
  | dsrl (rd : RegNum) (rt : RegNum) (sa : BitVec 5)
  | dsra (rd : RegNum) (rt : RegNum) (sa : BitVec 5)
  | dsll32 (rd : RegNum) (rt : RegNum) (sa : BitVec 5)
  | dsrl32 (rd : RegNum) (rt : RegNum) (sa : BitVec 5)
  | dsra32 (rd : RegNum) (rt : RegNum) (sa : BitVec 5)
  | sllv (rd : RegNum) (rt : RegNum) (rs : RegNum)
  | srlv (rd : RegNum) (rt : RegNum) (rs : RegNum)
  | srav (rd : RegNum) (rt : RegNum) (rs : RegNum)
  | dsllv (rd : RegNum) (rt : RegNum) (rs : RegNum)
  | dsrlv (rd : RegNum) (rt : RegNum) (rs : RegNum)
  | dsrav (rd : RegNum) (rt : RegNum) (rs : RegNum)
  | mult (rd : RegNum) (rs : RegNum) (rt : RegNum)
  | multu (rd : RegNum) (rs : RegNum) (rt : RegNum)
  | dmult (rd : RegNum) (rs : RegNum) (rt : RegNum)
  | dmultu (rd : RegNum) (rs : RegNum) (rt : RegNum)
  | div (rs : RegNum) (rt : RegNum)
  | divu (rs : RegNum) (rt : RegNum)
  | ddiv (rs : RegNum) (rt : RegNum)
  | ddivu (rs : RegNum) (rt : RegNum)
  | mfhi (rd : RegNum)
  | mflo (rd : RegNum)
  | mthi (rs : RegNum)
  | mtlo (rs : RegNum)
  | madd (rd : RegNum) (rs : RegNum) (rt : RegNum)
  | maddu (rd : RegNum) (rs : RegNum) (rt : RegNum)
  | jr (rs : RegNum)
  | jalr (rd : RegNum) (rs : RegNum)
  | syscall (code : BitVec 20)
  | brk (code : BitVec 20)
  | sdbbp (code : BitVec 20)
  | sync
  | tge (rs : RegNum) (rt : RegNum) (code : BitVec 10)
  | tgeu (rs : RegNum) (rt : RegNum) (code : BitVec 10)
  | tlt (rs : RegNum) (rt : RegNum) (code : BitVec 10)
  | tltu (rs : RegNum) (rt : RegNum) (code : BitVec 10)
  | teq (rs : RegNum) (rt : RegNum) (code : BitVec 10)
  | tne (rs : RegNum) (rt : RegNum) (code : BitVec 10)
  | j (target : BitVec 26)
  | jal (target : BitVec 26)
  | beq (rs : RegNum) (rt : RegNum) (offset : BitVec 16)
  | bne (rs : RegNum) (rt : RegNum) (offset : BitVec 16)
  | blez (rs : RegNum) (offset : BitVec 16)
  | bgtz (rs : RegNum) (offset : BitVec 16)
  | beql (rs : RegNum) (rt : RegNum) (offset : BitVec 16)
  | bnel (rs : RegNum) (rt : RegNum) (offset : BitVec 16)
  | blezl (rs : RegNum) (offset : BitVec 16)
  | bgtzl (rs : RegNum) (offset : BitVec 16)
  | bltz (rs : RegNum) (offset : BitVec 16)
  | bgez (rs : RegNum) (offset : BitVec 16)
  | bltzl (rs : RegNum) (offset : BitVec 16)
  | bgezl (rs : RegNum) (offset : BitVec 16)
  | bltzal (rs : RegNum) (offset : BitVec 16)
  | bgezal (rs : RegNum) (offset : BitVec 16)
  | bltzall (rs : RegNum) (offset : BitVec 16)
  | bgezall (rs : RegNum) (offset : BitVec 16)
  | tgei (rs : RegNum) (imm : BitVec 16)
  | tgeiu (rs : RegNum) (imm : BitVec 16)
  | tlti (rs : RegNum) (imm : BitVec 16)
  | tltiu (rs : RegNum) (imm : BitVec 16)
  | teqi (rs : RegNum) (imm : BitVec 16)
  | tnei (rs : RegNum) (imm : BitVec 16)
  | lwc1 (ft : FpRegNum) (offset : BitVec 16) (base : RegNum)
  | swc1 (ft : FpRegNum) (offset : BitVec 16) (base : RegNum)
  | ldc1 (ft : FpRegNum) (offset : BitVec 16) (base : RegNum)
  | sdc1 (ft : FpRegNum) (offset : BitVec 16) (base : RegNum)
  | lwc2 (rt : RegNum) (offset : BitVec 16) (base : RegNum)
  | swc2 (rt : RegNum) (offset : BitVec 16) (base : RegNum)
  | ldc2 (rt : RegNum) (offset : BitVec 16) (base : RegNum)
  | sdc2 (rt : RegNum) (offset : BitVec 16) (base : RegNum)
  | mfc0 (rt : RegNum) (rd : Cop0RegNum)
  | dmfc0 (rt : RegNum) (rd : Cop0RegNum)
  | cfc0 (rt : RegNum) (rd : Cop0RegNum)
  | mtc0 (rt : RegNum) (rd : Cop0RegNum)
  | dmtc0 (rt : RegNum) (rd : Cop0RegNum)
  | ctc0 (rt : RegNum) (rd : Cop0RegNum)
  | mfc1 (rt : RegNum) (fs : FpRegNum)
  | dmfc1 (rt : RegNum) (fs : FpRegNum)
  | cfc1 (rt : RegNum) (fs : FpRegNum)
  | mtc1 (rt : RegNum) (fs : FpRegNum)
  | dmtc1 (rt : RegNum) (fs : FpRegNum)
  | ctc1 (rt : RegNum) (fs : FpRegNum)
  | mfc2 (rt : RegNum) (rd : BitVec 5)
  | dmfc2 (rt : RegNum) (rd : BitVec 5)
  | cfc2 (rt : RegNum) (rd : BitVec 5)
  | mtc2 (rt : RegNum) (rd : BitVec 5)
  | dmtc2 (rt : RegNum) (rd : BitVec 5)
  | ctc2 (rt : RegNum) (rd : BitVec 5)
  | bc0f (offset : BitVec 16)
  | bc0t (offset : BitVec 16)
  | bc0fl (offset : BitVec 16)
  | bc0tl (offset : BitVec 16)
  | bc1f (offset : BitVec 16)
  | bc1t (offset : BitVec 16)
  | bc1fl (offset : BitVec 16)
  | bc1tl (offset : BitVec 16)
  | bc2f (offset : BitVec 16)
  | bc2t (offset : BitVec 16)
  | bc2fl (offset : BitVec 16)
  | bc2tl (offset : BitVec 16)
  | bc3f (offset : BitVec 16)
  | bc3t (offset : BitVec 16)
  | bc3fl (offset : BitVec 16)
  | bc3tl (offset : BitVec 16)
  | tlbr
  | tlbwi
  | tlbwr
  | tlbp
  | eret
  | deret
  | wait
  | cop2 (cofun : BitVec 25)
  | cache (op : CacheOp) (offset : BitVec 16) (base : RegNum)
  | pref (hint : BitVec 5) (offset : BitVec 16) (base : RegNum)
  | addFmt (fmt : Fmt) (fd : FpRegNum) (fs : FpRegNum) (ft : FpRegNum)
  | subFmt (fmt : Fmt) (fd : FpRegNum) (fs : FpRegNum) (ft : FpRegNum)
  | mulFmt (fmt : Fmt) (fd : FpRegNum) (fs : FpRegNum) (ft : FpRegNum)
  | divFmt (fmt : Fmt) (fd : FpRegNum) (fs : FpRegNum) (ft : FpRegNum)
  | sqrtFmt (fmt : Fmt) (fd : FpRegNum) (fs : FpRegNum)
  | absFmt (fmt : Fmt) (fd : FpRegNum) (fs : FpRegNum)
  | movFmt (fmt : Fmt) (fd : FpRegNum) (fs : FpRegNum)
  | negFmt (fmt : Fmt) (fd : FpRegNum) (fs : FpRegNum)
  | roundLFmt (fmt : Fmt) (fd : FpRegNum) (fs : FpRegNum)
  | truncLFmt (fmt : Fmt) (fd : FpRegNum) (fs : FpRegNum)
  | ceilLFmt (fmt : Fmt) (fd : FpRegNum) (fs : FpRegNum)
  | floorLFmt (fmt : Fmt) (fd : FpRegNum) (fs : FpRegNum)
  | roundWFmt (fmt : Fmt) (fd : FpRegNum) (fs : FpRegNum)
  | truncWFmt (fmt : Fmt) (fd : FpRegNum) (fs : FpRegNum)
  | ceilWFmt (fmt : Fmt) (fd : FpRegNum) (fs : FpRegNum)
  | floorWFmt (fmt : Fmt) (fd : FpRegNum) (fs : FpRegNum)
  | cvtSFmt (fmt : Fmt) (fd : FpRegNum) (fs : FpRegNum)
  | cvtDFmt (fmt : Fmt) (fd : FpRegNum) (fs : FpRegNum)
  | cvtWFmt (fmt : Fmt) (fd : FpRegNum) (fs : FpRegNum)
  | cvtLFmt (fmt : Fmt) (fd : FpRegNum) (fs : FpRegNum)
  | cFFmt (fmt : Fmt) (fs : FpRegNum) (ft : FpRegNum)
  | cUnFmt (fmt : Fmt) (fs : FpRegNum) (ft : FpRegNum)
  | cEqFmt (fmt : Fmt) (fs : FpRegNum) (ft : FpRegNum)
  | cUeqFmt (fmt : Fmt) (fs : FpRegNum) (ft : FpRegNum)
  | cOltFmt (fmt : Fmt) (fs : FpRegNum) (ft : FpRegNum)
  | cUltFmt (fmt : Fmt) (fs : FpRegNum) (ft : FpRegNum)
  | cOleFmt (fmt : Fmt) (fs : FpRegNum) (ft : FpRegNum)
  | cUleFmt (fmt : Fmt) (fs : FpRegNum) (ft : FpRegNum)
  | cSfFmt (fmt : Fmt) (fs : FpRegNum) (ft : FpRegNum)
  | cNgleFmt (fmt : Fmt) (fs : FpRegNum) (ft : FpRegNum)
  | cSeqFmt (fmt : Fmt) (fs : FpRegNum) (ft : FpRegNum)
  | cNglFmt (fmt : Fmt) (fs : FpRegNum) (ft : FpRegNum)
  | cLtFmt (fmt : Fmt) (fs : FpRegNum) (ft : FpRegNum)
  | cNgeFmt (fmt : Fmt) (fs : FpRegNum) (ft : FpRegNum)
  | cLeFmt (fmt : Fmt) (fs : FpRegNum) (ft : FpRegNum)
  | cNgtFmt (fmt : Fmt) (fs : FpRegNum) (ft : FpRegNum)
  deriving DecidableEq, Repr

end Sys2Proof
end

