-- ==== Sys2Proof/Machine/State.lean ====
section
/-! DEFINITION. The state of the machine as plain data (spec/10_state.md, 11_cp0_registers.md, 20_memory.md,
21_cache.md, 61_interrupts_platform.md), the faults and refusals of a step, and the state after ColdReset
(70_reset_and_hazards.md R755). -/

namespace Sys2Proof.Machine

/-! ## Memory system -/

/-- One page of a TLB entry (20_memory.md R141): PFN, cache attribute C, dirty D, valid V. -/
structure TlbPage where
  pfn : BitVec 24
  c : BitVec 3
  d : Bool
  v : Bool
  deriving DecidableEq, Repr

/-- A TLB entry (20_memory.md R141): the even and the odd page under one MASK, R, VPN2, G and ASID. -/
structure TlbEntry where
  mask : BitVec 12
  r : BitVec 2
  vpn2 : BitVec 27
  g : Bool
  asid : BitVec 8
  even : TlbPage
  odd : TlbPage
  deriving DecidableEq, Repr

/-- A cache line (21_cache.md R184): physical tag, valid, lock L, write-back W (`dirty`, data cache only),
32 data bytes. -/
structure CacheLine where
  tag : BitVec 24
  valid : Bool
  lock : Bool
  dirty : Bool
  data : Vector Byte 32
  deriving DecidableEq, Repr

/-- An invalid, unlocked, clean line of zeros: the line at ColdReset (21_cache.md R202; the tag and the data are
DESIGN CHOICE, log entry 5). -/
def CacheLine.empty : CacheLine :=
  { tag := 0#24, valid := false, lock := false, dirty := false, data := Vector.replicate 32 0#8 }

/-- A cache of 256 sets of 4 ways (21_cache.md R183, R184), held by what differs from ColdReset: lines by
4 * set + way, the replacement bits F1 F0 by set, both in the canonical form of `Sparse`. -/
structure Cache where
  lines : List (Nat × CacheLine)
  fifo : List (Nat × BitVec 2)
  deriving DecidableEq, Repr

/-- A pending write of the write buffer (20_memory.md R160): up to eight bytes from a physical address up. -/
structure WbEntry where
  pa : PAddr
  data : List Byte
  deriving DecidableEq, Repr

/-! ## Coprocessor 0 (11_cp0_registers.md) -/

/-- The stored CP0 registers. Reserved bits of every word are 0. Random and Wired hold their six implemented
bits. Cause holds no IP[7:2]: they show the interrupt sources (R94). -/
structure Cp0 where
  index : BitVec 32
  random : BitVec 6
  entryLo0 : BitVec 64
  entryLo1 : BitVec 64
  context : BitVec 64
  pageMask : BitVec 32
  wired : BitVec 6
  badVAddr : BitVec 64
  count : BitVec 32
  entryHi : BitVec 64
  compare : BitVec 32
  status : BitVec 32
  cause : BitVec 32
  epc : BitVec 64
  config : BitVec 32
  llAddr : BitVec 32
  xContext : BitVec 64
  debug : BitVec 32
  depc : BitVec 64
  tagLo : BitVec 32
  tagHi : BitVec 32
  errorEpc : BitVec 64
  desave : BitVec 64
  deriving DecidableEq, Repr

/-! ## Platform and environment (61_interrupts_platform.md) -/

/-- The power state (R720). -/
inductive Power where
  | normal
  | halt
  | doze
  deriving DecidableEq, Repr

/-- The chip's state outside the core: the Interrupt register (R703), the timer latch (R707), the NMI edge detector
and the NMI waiting to be taken (R702), the power state (R720), bits 19:0 of G2SConfig and whether a store has written
them since ColdReset (R730, R731), the read time-out counter (R732), the debug breaks waiting to be taken, as bits 5:2 of
Debug (60_exceptions.md R662). Of the bus: whether the last step ended stalled, whether on a read on hold, which is not
answered (R162, R732), and the word of the instruction it left in progress; a stalled fetch leaves none. -/
structure Platform where
  intReg : BitVec 7
  timerInt : Bool
  nmiPrev : Bool
  nmiPending : Bool
  power : Power
  g2s : BitVec 20
  g2sWritten : Bool
  timeout : BitVec 16
  breaks : BitVec 4
  stalled : Bool
  reading : Bool
  fetched : Option Word
  deriving DecidableEq, Repr

/-- The mode pins, sampled at ColdReset (00_scope.md R9). -/
structure Straps where
  endian : Bool
  divMode : BitVec 3
  tIntDis : Bool
  bsize64n : Bool
  mode43n : Bool
  bufSel : Bool
  deriving DecidableEq, Repr

/-- The parameters the spec leaves open (00_scope.md R10). `wayBit1` and `wayBit0` are the address bits that select
the way of an Index CACHE operation (CACHE_WAY_SELECT, 21_cache.md R191). -/
structure Params where
  pridRev : BitVec 8
  fcr0Imp : BitVec 8
  fcr0Rev : BitVec 8
  wayBit1 : BitVec 6
  wayBit0 : BitVec 6
  probEnb : Bool
  probePresent : Bool
  countPerInstr : Nat
  deriving DecidableEq, Repr

/-- The debug breaks from outside (60_exceptions.md R662): the JTAG break, and the hardware breaks of the debug unit. -/
inductive BreakKind where
  | jtag
  | instrAddress
  | dataLoad
  | dataStore
  | processorBus
  | interrupt
  deriving DecidableEq, Repr

/-- What the outside of the chip can do between two instructions (00_scope.md R19, 92_eei_decisions.md section 3;
log entry 32). -/
inductive ExtEvent where
  /-- Nothing: the processor makes one step before the next event. -/
  | run
  /-- The levels of Int[5:0]*, 1 asserted (R701). -/
  | setIntPins (pins : BitVec 6)
  /-- The level of NMI*, true asserted (R702). -/
  | setNmiPin (asserted : Bool)
  /-- An external write request with this data word (R703). -/
  | extWrite (data : Word)
  /-- Reset* asserted and deasserted (60_exceptions.md R641), with the bytes of memory that the accesses it cuts off
  leave (70_reset_and_hazards.md R756, log entry 38). -/
  | softReset (spoiled : List (PAddr × Byte))
  /-- ColdReset* asserted and deasserted; the mode pins are sampled (60_exceptions.md R640). -/
  | coldReset (pins : Straps)
  /-- The agent stops or resumes accepting writes (WrRdy*, 20_memory.md R163). -/
  | setWriteHold (hold : Bool)
  /-- The doublewords (physical address / 8) whose reads are answered with an error (60_exceptions.md R651). -/
  | setErrors (doublewords : List Nat)
  /-- The doublewords whose reads are not answered (R732). -/
  | setUnanswered (doublewords : List Nat)
  /-- Another bus master writes a byte of memory (R745). -/
  | dmaWrite (pa : PAddr) (value : Byte)
  /-- The probe or the debug unit requests a break (60_exceptions.md R662). -/
  | debugBreak (k : BreakKind)
  /-- Whether data bus errors of loads are reported late from here on (20_memory.md R166, log entry 33). -/
  | setLateErrors (late : Bool)
  /-- The error of a load's read reaches the processor (60_exceptions.md R651). -/
  | busErrorArrives
  /-- Whether the refill of a store can be answered with an error from here on (20_memory.md R151, N15; log entry 47). -/
  | setStoreErrors (errors : Bool)
  /-- How many words an uncached instruction fetch reads ahead from here on (20_memory.md R167, log entry 45). -/
  | setReadAhead (words : Nat)
  deriving DecidableEq, Repr

/-- The environment: pin levels, how the agent answers, and the events to come. -/
structure Env where
  intPins : BitVec 6
  nmiPin : Bool
  errors : List Nat
  unanswered : List Nat
  writeHold : Bool
  lateErrors : Bool
  storeErrors : Bool
  readAhead : Nat
  inputs : List ExtEvent
  deriving DecidableEq, Repr

/-! ## Reads in progress -/

/-- The destination of a load: a GPR, an FGR (LWC1), an FPR of a doubleword (LDC1). -/
inductive LoadDest where
  | gpr (r : RegNum)
  | fgr (f : FpRegNum)
  | fpr (f : FpRegNum)
  deriving DecidableEq, Repr

/-- A load that went on although its read fails (20_memory.md R166): where it stood, LLbit and LLAddr before it, its
destination (also once a later instruction has overwritten it: log entry 65), whether the error has reached the processor,
and whether no later instruction has completed. -/
structure LateError where
  pc : DWord
  delaySlot : Option DWord
  llbit : Bool
  llAddr : BitVec 32
  dest : LoadDest
  arrived : Bool
  fresh : Bool
  deriving DecidableEq, Repr

/-! ## The whole state -/

/-- The state of the machine. `delaySlot` is the branch state of 10_state.md R47: `some target` while the
instruction at `pc` is in the delay slot of a taken branch or jump. `lateError` is the load whose bus error is still to
be reported (20_memory.md R166), `ahead` the words that uncached instruction fetch has read ahead (R167). The last four
fields are the model's own (log entries 10, 11, 37). -/
structure State where
  gpr : Vector DWord 32
  hi : DWord
  lo : DWord
  pc : DWord
  delaySlot : Option DWord
  llbit : Bool
  fgr : Vector DWord 32
  fcr31 : Word
  cp0 : Cp0
  tlb : Vector TlbEntry 48
  icache : Cache
  dcache : Cache
  wbuf : List WbEntry
  lateError : Option LateError
  ahead : List (PAddr × Word)
  mem : List Host.Cell
  plat : Platform
  env : Env
  straps : Straps
  params : Params
  /-- The number of the next fresh free value (log entry 10). -/
  free : Nat
  /-- Whether the running instruction took an exception. -/
  excTaken : Bool
  /-- Whether a single-step debug exception is due at the next boundary (60_exceptions.md R661). -/
  stepPending : Bool
  /-- The replacement choices the spec leaves open, in order (21_cache.md R189, log entry 37). -/
  choices : List (BitVec 2)
  deriving DecidableEq, Repr

/-! ## Faults and refusals -/

/-- Why a step stops with a fault. Each is an access to a unit the spec names without giving it a behaviour, and
each is safe: the model stops where the hardware would go on. -/
inductive Fault where
  /-- Raised by an access to the reserved range 0xF_FF00_0000..0xF_FF3F_FFFF outside G2SConfig, the probe space and
  the DSU registers (20_memory.md R139, U14). Safe. -/
  | reservedRange
  /-- Raised by an access to the debug support unit's registers, 0xF_FF30_0000 up (61_interrupts_platform.md R741,
  U14). Safe. -/
  | dsuRegister
  /-- Raised by an access to the debug probe's space, 0xF_FF20_0000 up (20_memory.md R139, U14). Safe. -/
  | probeSpace
  /-- Raised by an access of G2SConfig that is not a word (61_interrupts_platform.md R730, U28). Safe. -/
  | g2sNonWord
  deriving DecidableEq, Repr

/-- Why a step is refused. Each but `notModelled` is a situation the spec calls reserved, undefined or not
guaranteed and gives no effect; each is safe: the model stops where the hardware would go on. -/
inductive Refusal where
  /-- Raised by the dispatcher for an instruction that has no meaning yet. Safe. -/
  | notModelled (mnemonic : String)
  /-- Raised by address translation in the reserved mode KSU = 11 with EXL = ERL = 0 (U11). Safe. -/
  | reservedMode
  /-- Raised by an access with a cache attribute 4 to 7 (U8). Safe. -/
  | reservedCacheAttr
  /-- Raised by a TLB write or a translation with a MASK that is none of the seven page sizes (U9). Safe. -/
  | tlbBadMask
  /-- Raised by a translation or TLBP that matches more than one TLB entry (U15). Safe. -/
  | tlbMultiMatch
  /-- Raised by Index Store Tag (D) with a reserved cache state 1 or 2 (U16). Safe. -/
  | reservedCacheState
  /-- Raised by an access, or a Fill or Create Dirty Exclusive, that would use a physical line valid in two ways of
  one set (U19). Safe. -/
  | cacheMultiHit
  /-- Raised by a branch, jump, ERET or DERET in the delay slot of a taken branch or jump (U21). Safe. -/
  | delaySlotControl
  /-- Raised by a coprocessor 2 instruction with CU2 = 1 or a coprocessor 3 branch with CU3 = 1 (U22). Safe. -/
  | coprocessorAbsent (z : BitVec 2)
  /-- Raised by SDBBP executed in debug mode (U24). Safe. -/
  | sdbbpInDebug
  /-- Raised by DERET executed outside debug mode (U24). Safe. -/
  | deretOutsideDebug
  /-- Raised by a general exception, other than the masked ones, that the debug handler causes (U24). Safe. -/
  | exceptionInDebug
  deriving DecidableEq, Repr

/-- The outcome of an instruction or of a step. -/
abbrev Out := Host.Outcome State Fault Refusal

/-! ## ColdReset (70_reset_and_hazards.md R755) -/

/-- The clock ratio code of Config.EC for the DivMode pins (00_scope.md R9). -/
def ecOfDivMode (d : BitVec 3) : BitVec 3 :=
  match d.toNat with
  | 0 => 0b010#3
  | 1 => 0b111#3
  | 2 => 0b000#3
  | 3 => 0b001#3
  | 4 => 0b100#3
  | 5 => 0b101#3
  | 6 => 0b110#3
  | _ => 0b011#3

/-- Config after ColdReset: EC and BE from the pins, the cache geometry, nothing else set (11_cp0_registers.md
R99). -/
def resetConfig (p : Straps) : BitVec 32 :=
  0#1 ++ ecOfDivMode p.divMode ++ 0#12 ++ (if p.endian then 1#1 else 0#1) ++ 0x66F0#15

/-- TLB entry `i` after ColdReset. The spec does not initialize the TLB (R755); DESIGN CHOICE (log entry 4): entry
`i` names page pair `i` of kseg0, which translation never looks up (20_memory.md R149), with both pages
invalid. -/
def resetTlbEntry (i : Nat) : TlbEntry :=
  { mask := 0#12, r := 0b11#2, vpn2 := BitVec.ofNat 27 (0x7FC0000 + i), g := false, asid := 0#8
    even := { pfn := 0#24, c := 0#3, d := false, v := false }
    odd := { pfn := 0#24, c := 0#3, d := false, v := false } }

/-- The CP0 registers after ColdReset. Fields whose reset value the spec calls Undefined are 0 (log entry 2); Status
takes the zeros of its field table (log entry 3). -/
def resetCp0 (p : Straps) : Cp0 :=
  { index := 0, random := 47, entryLo0 := 0, entryLo1 := 0, context := 0, pageMask := 0, wired := 0
    badVAddr := 0, count := 0, entryHi := 0, compare := 0, status := 0x00400004#32, cause := 0, epc := 0
    config := resetConfig p, llAddr := 0, xContext := 0, debug := 0, depc := 0, tagLo := 0, tagHi := 0
    errorEpc := 0, desave := 0 }

/-- The platform after ColdReset (R755, D27). -/
def resetPlatform : Platform :=
  { intReg := 0, timerInt := false, nmiPrev := false, nmiPending := false, power := .normal, g2s := 0xFFFF0#20
    g2sWritten := false, timeout := 0xFFFF#16, breaks := 0#4, stalled := false, reading := false
    fetched := none }

/-- The mode pins of this model's board (log entry 6). -/
def resetStraps : Straps :=
  { endian := Config.endian, divMode := Config.divMode, tIntDis := Config.tIntDis, bsize64n := Config.bsize64n
    mode43n := Config.mode43n, bufSel := false }

/-- The parameters' values (log entry 7). -/
def resetParams : Params :=
  { pridRev := Config.pridRev, fcr0Imp := Config.fcr0Imp, fcr0Rev := Config.fcr0Rev, wayBit1 := 14#6, wayBit0 := 13#6
    probEnb := false, probePresent := false, countPerInstr := Config.countPerInstr }

/-- The address of the Reset, SoftReset and NMI vector (60_exceptions.md R622). -/
def resetVector : DWord := 0xFFFFFFFFBFC00000#64

/-- The machine right after ColdReset, nothing placed in memory and no input to come. -/
def State.reset : State :=
  { gpr := Vector.replicate 32 0#64
    hi := 0
    lo := 0
    pc := resetVector
    delaySlot := none
    llbit := false
    fgr := Vector.replicate 32 0#64
    fcr31 := 0
    cp0 := resetCp0 resetStraps
    tlb := Vector.ofFn fun i => resetTlbEntry i.val
    icache := { lines := [], fifo := [] }
    dcache := { lines := [], fifo := [] }
    wbuf := []
    lateError := none
    ahead := []
    mem := []
    plat := resetPlatform
    env := { intPins := 0, nmiPin := false, errors := [], unanswered := [], writeHold := false, lateErrors := false
             storeErrors := false, readAhead := 0, inputs := [] }
    straps := resetStraps
    params := resetParams
    free := 0
    excTaken := false
    stepPending := false
    choices := [] }

end Sys2Proof.Machine
end

