-- ==== Sys2Proof/Machine/Flags.lean ====
section
/-! DEFINITION. Bits and fields of the control registers, the modes they encode, and the flag computations: the
fields of Status, Cause, Config and Debug (11_cp0_registers.md), the operating mode and the width predicates
(R83, R91, R92), interrupts pending (61_interrupts_platform.md R704 to R708), integer overflow
(41_computational.md R301), and the fields of FCR31 (10_state.md R42). -/

namespace Sys2Proof.Machine

/-! ## Bit fields -/

/-- `x` with the field of `v`'s width that starts at bit `lo` replaced by `v`. -/
def putBits {n m : Nat} (x : BitVec n) (lo : Nat) (v : BitVec m) : BitVec n :=
  (x &&& ~~~(((BitVec.allOnes m).setWidth n) <<< lo)) ||| (v.setWidth n <<< lo)

/-- `x` with bit `i` replaced by `b`. -/
def putBit {n : Nat} (x : BitVec n) (i : Nat) (b : Bool) : BitVec n := putBits x i (BitVec.ofBool b)

/-! ## Status (R80) -/

/-- Status.CU[z], bit 28 + z (R84). -/
def State.cu (s : State) (z : BitVec 2) : Bool := s.cp0.status.getLsbD (28 + z.toNat)
/-- Status.FR, bit 26 (R85). -/
def State.fr (s : State) : Bool := s.cp0.status.getLsbD 26
/-- Status.RE, bit 25 (R86). -/
def State.re (s : State) : Bool := s.cp0.status.getLsbD 25
/-- Status.BEV, bit 22 (R87). -/
def State.bev (s : State) : Bool := s.cp0.status.getLsbD 22
/-- Status.KX, bit 7 (R90). -/
def State.kx (s : State) : Bool := s.cp0.status.getLsbD 7
/-- Status.SX, bit 6 (R90). -/
def State.sx (s : State) : Bool := s.cp0.status.getLsbD 6
/-- Status.UX, bit 5 (R90). -/
def State.ux (s : State) : Bool := s.cp0.status.getLsbD 5
/-- Status.KSU, bits 4:3 (R80). -/
def State.ksu (s : State) : BitVec 2 := s.cp0.status.extractLsb' 3 2
/-- Status.ERL, bit 2. -/
def State.erl (s : State) : Bool := s.cp0.status.getLsbD 2
/-- Status.EXL, bit 1. -/
def State.exl (s : State) : Bool := s.cp0.status.getLsbD 1
/-- Status.IE, bit 0. -/
def State.ie (s : State) : Bool := s.cp0.status.getLsbD 0
/-- Status.IM, bits 15:8 (R89). -/
def State.im (s : State) : BitVec 8 := s.cp0.status.extractLsb' 8 8

/-- Debug.DM, bit 30 (R102): the debug handler runs. -/
def State.debugMode (s : State) : Bool := (s.cp0.debug).getLsbD 30
/-- Debug.SSt, bit 8 (R102): single step enabled. -/
def State.singleStep (s : State) : Bool := (s.cp0.debug).getLsbD 8

/-- Config.BE, bit 15 (R99). -/
def State.be (s : State) : Bool := s.cp0.config.getLsbD 15
/-- Config.HALT, bit 18 (R99). -/
def State.haltBit (s : State) : Bool := s.cp0.config.getLsbD 18
/-- Config.ICE#, bit 17: the instruction cache is disabled (R99). -/
def State.icacheOff (s : State) : Bool := s.cp0.config.getLsbD 17
/-- Config.DCE#, bit 16: the data cache is disabled (R99). -/
def State.dcacheOff (s : State) : Bool := s.cp0.config.getLsbD 16
/-- Config.K0, bits 2:0 (R99). -/
def State.k0 (s : State) : BitVec 3 := s.cp0.config.extractLsb' 0 3
/-- EntryHi.ASID, bits 7:0: the current ASID (20_memory.md R142). -/
def State.asid (s : State) : BitVec 8 := s.cp0.entryHi.extractLsb' 0 8

/-! ## Operating mode (R83, 60_exceptions.md R680) -/

/-- The operating modes; `reserved` is KSU = 11 with EXL = ERL = 0 (U11). -/
inductive Mode where
  | kernel
  | supervisor
  | user
  | reserved
  deriving DecidableEq, Repr

/-- The mode Status encodes; the debug handler has Kernel rights (R83, D26). -/
def State.mode (s : State) : Mode :=
  if s.debugMode || s.exl || s.erl then .kernel
  else if s.ksu = 0#2 then .kernel
  else if s.ksu = 1#2 then .supervisor
  else if s.ksu = 2#2 then .user
  else .reserved

/-- `Is64bitAddr` (R91). -/
def State.is64bitAddr (s : State) : Bool :=
  match s.mode with
  | .kernel => s.kx
  | .supervisor => s.sx
  | .user => s.ux
  | .reserved => false

/-- `Is64bitOps` (R92). -/
def State.is64bitOps (s : State) : Bool :=
  match s.mode with
  | .kernel => true
  | .supervisor => s.sx
  | .user => s.ux
  | .reserved => false

/-- `Usable(z)` (45_coprocessor.md R450). -/
def State.usable (s : State) (z : BitVec 2) : Bool :=
  s.cu z || (z == 0#2 && s.mode == .kernel)

/-- The byte order of a data access, true big endian (20_memory.md R123). -/
def State.dataBe (s : State) : Bool := s.be ^^ (s.mode == .user && s.re)

/-! ## Interrupts (61_interrupts_platform.md R704 to R708) -/

/-- Cause.IP[7:2] as the sources drive it (R704, R706). -/
def State.hardIp (s : State) : BitVec 6 :=
  let pins := s.plat.intReg.extractLsb' 0 6 ||| s.env.intPins
  if s.straps.tIntDis then pins else putBit pins 5 s.plat.timerInt

/-- Cause as software reads it: the stored fields and IP[7:2] (R94). -/
def State.causeWord (s : State) : BitVec 32 := putBits s.cp0.cause 10 s.hardIp

/-- `InterruptPending` (R708). -/
def State.interruptPending (s : State) : Bool :=
  (s.causeWord.extractLsb' 8 8 &&& s.im != 0#8) && s.ie && !s.exl && !s.erl && !s.debugMode

/-- The non-maskable interrupt request (R702). -/
def State.nmiRequest (s : State) : Bool := s.plat.intReg.getLsbD 6 || s.env.nmiPin

/-! ## Integer overflow (41_computational.md R301) -/

/-- Two's complement overflow of `x + y`: with both operands sign-extended by one bit, the two top bits of the sum
differ. -/
def addOverflows {n : Nat} (x y : BitVec n) : Bool :=
  let t := x.signExtend (n + 1) + y.signExtend (n + 1)
  t.getLsbD n != t.getLsbD (n - 1)

/-- Two's complement overflow of `x - y`, the same way. -/
def subOverflows {n : Nat} (x y : BitVec n) : Bool :=
  let t := x.signExtend (n + 1) - y.signExtend (n + 1)
  t.getLsbD n != t.getLsbD (n - 1)

/-! ## FCR31 (10_state.md R42) -/

/-- The rounding modes (R46). -/
inductive Rounding where
  | nearest
  | zero
  | up
  | down
  deriving DecidableEq, Repr

/-- FCR31.RM (R46). -/
def State.rounding (s : State) : Rounding :=
  let rm := s.fcr31.extractLsb' 0 2
  if rm = 0#2 then .nearest else if rm = 1#2 then .zero else if rm = 2#2 then .up else .down

/-- FCR31.FS, bit 24 (R43). -/
def State.fs (s : State) : Bool := s.fcr31.getLsbD 24
/-- FCR31.C, bit 23 (R44). -/
def State.fcc (s : State) : Bool := s.fcr31.getLsbD 23
/-- FCR31 Enables V Z O U I, bits 11:7. -/
def State.fpEnables (s : State) : BitVec 5 := s.fcr31.extractLsb' 7 5

/-- The IEEE 754 exceptions an operation raises, in the order V Z O U I of the FCR31 fields. -/
structure FpFlags where
  v : Bool
  z : Bool
  o : Bool
  u : Bool
  i : Bool
  deriving DecidableEq, Repr

/-- No exception. -/
def FpFlags.none : FpFlags := { v := false, z := false, o := false, u := false, i := false }

/-- The flags as a field of FCR31, V most significant (R42). -/
def FpFlags.bits (f : FpFlags) : BitVec 5 :=
  BitVec.ofBool f.v ++ BitVec.ofBool f.z ++ BitVec.ofBool f.o ++ BitVec.ofBool f.u ++ BitVec.ofBool f.i

/-- Whether the Cause field of an FCR31 value traps: E, or a Cause bit with its Enable (R45 (b)). -/
def fcr31Traps (x : Word) : Bool :=
  x.getLsbD 17 || (x.extractLsb' 12 5 &&& x.extractLsb' 7 5 != 0#5)

end Sys2Proof.Machine
end

