-- ==== Sys2Proof/Machine/Operands.lean ====
section
/-! DEFINITION. Operands: general registers (10_state.md R21), immediates (30_encoding.md R223), effective addresses
(40_load_store.md R260), floating-point registers (10_state.md R31 to R38), FCR0 and FCR31 access, branch targets
(43_jump_branch.md R381, R384), and the free values an instruction may use (log entry 10). -/

namespace Sys2Proof.Machine

/-! ## Free values -/

/-- What a free value stands for within one step; each use has its own number, so two of them are unrelated. -/
inductive FreeUse where
  | operandA
  | operandB
  | result
  | hi
  | lo
  | causeCe
  | entryLo0
  | entryLo1
  | context
  | xContext
  | entryHi
  | index
  | pageMask
  | performed
  | physAddr
  | fgrHigh
  | fgrPartner
  | g2s
  | fetchWord
  | lateResult
  | fgr (f : FpRegNum)
  deriving DecidableEq, Repr

/-- The number of a use. -/
def FreeUse.slot : FreeUse → Nat
  | .operandA => 0
  | .operandB => 1
  | .result => 2
  | .hi => 3
  | .lo => 4
  | .causeCe => 5
  | .entryLo0 => 6
  | .entryLo1 => 7
  | .context => 8
  | .xContext => 9
  | .entryHi => 10
  | .index => 11
  | .pageMask => 12
  | .performed => 13
  | .physAddr => 14
  | .fgrHigh => 15
  | .fgrPartner => 16
  | .g2s => 17
  | .fetchWord => 18
  | .lateResult => 19
  | .fgr f => 32 + f.toNat

/-- How many free values a step may use; the step advances the counter by it. -/
def freePerStep : Nat := 64

/-- The free value of this step for a use (log entry 10). -/
def State.fresh (s : State) (u : FreeUse) : DWord := Config.freeWord (s.free + u.slot)

/-! ## General registers -/

/-- Read GPR r; r0 reads 0 (R21). -/
def State.rget (s : State) (r : RegNum) : DWord :=
  if r = 0#5 then 0#64 else s.gpr[r.toNat]'(r.isLt)

/-- Write GPR r; a write to r0 is discarded (R21). -/
def State.setGpr (s : State) (r : RegNum) (v : DWord) : State :=
  if r = 0#5 then s else { s with gpr := s.gpr.set r.toNat v r.isLt }

/-- Bits 31:0. -/
def low32 (x : DWord) : Word := x.extractLsb' 0 32
/-- `sext_64` of a word (10_state.md R27). -/
def sext32 (x : Word) : DWord := x.signExtend 64
/-- Bits 31:0 of GPR r. -/
def State.rget32 (s : State) (r : RegNum) : Word := low32 (s.rget r)

/-- An immediate sign-extended to 64 bits (30_encoding.md R223 (a)). -/
def sextImm (imm : BitVec 16) : DWord := imm.signExtend 64
/-- An immediate sign-extended to 32 bits. -/
def sextImm32 (imm : BitVec 16) : Word := imm.signExtend 32
/-- An immediate zero-extended to 64 bits (R223 (b)). -/
def zextImm (imm : BitVec 16) : DWord := imm.setWidth 64

/-- The effective address, a 64-bit wrapping sum (R260). -/
def State.effAddr (s : State) (base : RegNum) (offset : BitVec 16) : DWord :=
  s.rget base + sextImm offset

/-- The value 1 or 0 of a comparison (R304). -/
def boolWord (b : Bool) : DWord := if b then 1#64 else 0#64

/-! ## Branch targets -/

/-- The target of a relative branch at `pc`: the delay slot's address plus the displacement times four (R381). -/
def branchTarget (pc : DWord) (offset : BitVec 16) : DWord :=
  pc + 4#64 + (sextImm offset <<< 2)

/-- The target of J and JAL at `pc`: the 256 MB region of the delay slot (R384). -/
def jumpTarget (pc : DWord) (target : BitVec 26) : DWord :=
  ((pc + 4#64).extractLsb' 28 36) ++ target ++ 0#2

/-! ## Floating-point registers (10_state.md R31 to R38) -/

/-- FGR f, all 64 bits held. -/
def State.fget (s : State) (f : FpRegNum) : DWord := s.fgr[f.toNat]'(f.isLt)

/-- Write FGR f. -/
def State.setFgr (s : State) (f : FpRegNum) (v : DWord) : State :=
  { s with fgr := s.fgr.set f.toNat v f.isLt }

/-- Write bits 31:0 of FGR f: the whole register while FR = 0 (R31). -/
def State.setFgrLow (s : State) (f : FpRegNum) (v : Word) : State :=
  s.setFgr f ((s.fget f).extractLsb' 32 32 ++ v)

/-- The odd partner of an even FPR number (R32). -/
def fpPartner (f : FpRegNum) : FpRegNum := f ||| 1#5
/-- The even FPR number of a pair (R32). -/
def fpEven (f : FpRegNum) : FpRegNum := f &&& 0b11110#5

/-- Whether FPR number f is valid: any number with FR = 1, an even one with FR = 0 (R32, R33). -/
def State.fprValid (s : State) (f : FpRegNum) : Bool := s.fr || !f.getLsbD 0

/-- ValueFPR for S and W (R38); an odd number with FR = 0 gives a free value (U4). -/
def State.fpr32 (s : State) (f : FpRegNum) (u : FreeUse) : Word :=
  if s.fprValid f then low32 (s.fget f) else low32 (s.fresh u)

/-- ValueFPR for D and L (R38); an odd number with FR = 0 gives a free value (U4). -/
def State.fpr64 (s : State) (f : FpRegNum) (u : FreeUse) : DWord :=
  if s.fr then s.fget f
  else if f.getLsbD 0 then s.fresh u
  else low32 (s.fget (fpPartner f)) ++ low32 (s.fget f)

/-- The undefined write of an odd number with FR = 0: both FGRs of the pair take free values (U4). -/
def State.spoilPair (s : State) (f : FpRegNum) : State :=
  (s.setFgrLow (fpEven f) (low32 (s.fresh .result))).setFgrLow (fpPartner f) (low32 (s.fresh .fgrPartner))

/-- StoreFPR for S and W (R38): with FR = 1 the upper half, with FR = 0 the odd partner, takes a free value
(U3). -/
def State.setFpr32 (s : State) (f : FpRegNum) (v : Word) : State :=
  if s.fr then s.setFgr f (low32 (s.fresh .fgrHigh) ++ v)
  else if f.getLsbD 0 then s.spoilPair f
  else (s.setFgrLow (fpPartner f) (low32 (s.fresh .fgrPartner))).setFgrLow f v

/-- StoreFPR for D and L (R38). -/
def State.setFpr64 (s : State) (f : FpRegNum) (v : DWord) : State :=
  if s.fr then s.setFgr f v
  else if f.getLsbD 0 then s.spoilPair f
  else (s.setFgrLow (fpPartner f) (v.extractLsb' 32 32)).setFgrLow f (low32 v)

/-- The write of LWC1 and MTC1 (45_coprocessor.md R454, R458): the FGR itself, any number; with FR = 1 the upper
half takes a free value (U3). -/
def State.loadFgr (s : State) (f : FpRegNum) (v : Word) : State :=
  if s.fr then s.setFgr f (low32 (s.fresh .fgrHigh) ++ v) else s.setFgrLow f v

/-- The destination of a load takes `v`, a free value (U27). -/
def State.spoilDest (s : State) (d : LoadDest) (v : DWord) : State :=
  match d with
  | .gpr r => s.setGpr r v
  | .fgr f => if s.fr then s.setFgr f v else s.setFgrLow f (low32 v)
  | .fpr f => s.setFpr64 f v

/-- The floating-point register of a destination. -/
def LoadDest.fpr? : LoadDest → Option FpRegNum
  | .gpr _ => none
  | .fgr f => some f
  | .fpr f => some f

/-- Whether a register an instruction uses is the destination of a load; while FR = 0 the FGRs of a pair count as
one (DESIGN CHOICE, log entry 65). -/
def LoadDest.usedBy (fr : Bool) (d used : LoadDest) : Bool :=
  match d.fpr?, used.fpr? with
  | some f, some g => f == g || (!fr && fpEven f == fpEven g)
  | _, _ => d == used && d != .gpr 0#5

/-- All FGRs take free values (U2: Status.FR changed). -/
def State.spoilFgrs (s : State) : State :=
  { s with fgr := Vector.ofFn fun i => s.fresh (.fgr (BitVec.ofNat 5 i.val)) }

/-! ## Floating-point control registers (R39 to R42) -/

/-- FCR0 (R41). -/
def State.fcr0 (s : State) : Word := 0#16 ++ s.params.fcr0Imp ++ s.params.fcr0Rev

/-- FCR31 with its reserved fields 31:25 and 22:18 kept 0 (R42). -/
def fcr31Legal (v : Word) : Word := v &&& 0x0183FFFF#32

/-- PRId (11_cp0_registers.md R98). -/
def State.prid (s : State) : Word := 0x002D#24 ++ s.params.pridRev

end Sys2Proof.Machine
end

