-- ==== Sys2Proof/Machine/Sparse.lean ====
section
/-! DEFINITION. Sparse data by number in one canonical form, used for physical memory and for the caches: a list of
(key, value) pairs, keys strictly rising, no value equal to what an unlisted key reads as. -/

namespace Sys2Proof.Machine

/-- The value at key `k`; `d` is what an unlisted key reads as. -/
def sparseGet {β : Type} (d : β) : List (Nat × β) → Nat → β
  | [], _ => d
  | (a, b) :: l, k => if a = k then b else sparseGet d l k

/-- Write `v` at key `k`. Writing `d` removes the entry, so the canonical form is kept. -/
def sparsePut {β : Type} [DecidableEq β] (d : β) : List (Nat × β) → Nat → β → List (Nat × β)
  | [], k, v => if v = d then [] else [(k, v)]
  | (a, b) :: l, k, v =>
    if k < a then (if v = d then (a, b) :: l else (k, v) :: (a, b) :: l)
    else if k = a then (if v = d then l else (k, v) :: l)
    else (a, b) :: sparsePut d l k v

/-- The canonical form: keys strictly rising, no value equal to `d`. -/
abbrev SparseWf {β : Type} (d : β) (l : List (Nat × β)) : Prop :=
  l.Pairwise (fun p q => p.1 < q.1) ∧ ∀ p ∈ l, p.2 ≠ d

/-- The canonical form of physical memory: that of `SparseWf` over 36-bit addresses. -/
abbrev Memory.wf (m : List Host.Cell) : Prop :=
  SparseWf Config.unwritten m ∧ ∀ p ∈ m, p.1 < 2 ^ 36

/-- One byte of physical memory. -/
def Memory.get (m : List Host.Cell) (a : PAddr) : Byte := sparseGet Config.unwritten m a.toNat

/-- Write one byte of physical memory. -/
def Memory.set (m : List Host.Cell) (a : PAddr) (b : Byte) : List Host.Cell :=
  sparsePut Config.unwritten m a.toNat b

/-- Write bytes at rising addresses from `a`. -/
def Memory.setBytes (m : List Host.Cell) (a : PAddr) : List Byte → List Host.Cell
  | [] => m
  | b :: bs => Memory.setBytes (Memory.set m a b) (a + 1#36) bs

/-- `n` bytes at rising addresses from `a`. -/
def Memory.getBytes (m : List Host.Cell) (a : PAddr) : Nat → List Byte
  | 0 => []
  | n + 1 => Memory.get m a :: Memory.getBytes m (a + 1#36) n

end Sys2Proof.Machine
end

