-- ==== Sys2Proof/Machine/Ops.lean ====
section
/-! DEFINITION. The shared operations: how an instruction completes, taking an exception and returning from one
(60_exceptions.md), the debug entry and return (R660, R665), the reset class (R640 to R642), and the physical
memory behind the write buffer (20_memory.md R160 to R164). -/

namespace Sys2Proof.Machine

/-! ## Completion and control transfer (43_jump_branch.md R380) -/

/-- The address the next instruction is fetched from when the one at `pc` completes. -/
def State.nextPc (s : State) : DWord := s.delaySlot.getD (s.pc + 4#64)

/-- Complete an instruction that does not branch. -/
def State.advance (s : State) : State := { s with pc := s.nextPc, delaySlot := none }

/-- Complete a taken branch or jump: the next instruction is its delay slot (R380). -/
def State.branchTo (s : State) (target : DWord) : State :=
  { s with pc := s.pc + 4#64, delaySlot := some target }

/-- Complete an untaken branch-likely: the delay slot is nullified (R383). -/
def State.skipSlot (s : State) : State := { s with pc := s.pc + 8#64, delaySlot := none }

/-- The processor stalls on the bus: the same instruction goes on at the next step (R732 "Waiting for data",
20_memory.md R160, R164). -/
def State.stall (s : State) : State := { s with plat := { s.plat with stalled := true } }

/-- The value the read time-out counter starts from: TOutVal of G2SConfig (61_interrupts_platform.md R731, R732). -/
def State.timeoutStart (s : State) : BitVec 16 := s.plat.g2s.extractLsb' 4 16

/-- A read request is on hold: the agent has not answered it (20_memory.md R162, R732). The time-out counter starts with
the request. -/
def State.onHold (s : State) : State :=
  { s with plat := { s.plat with
      reading := true
      timeout := if s.plat.reading then s.plat.timeout else s.timeoutStart } }

/-- No read request is on hold: if one was, its time-out counter is loaded again (R732). -/
def State.offHold (s : State) : State :=
  { s with plat := { s.plat with
      reading := false
      timeout := if s.plat.reading then s.timeoutStart else s.plat.timeout } }

/-! ## Exceptions (60_exceptions.md) -/

/-- The kind of a memory access (20_memory.md R145). -/
inductive AccessKind where
  | fetch
  | load
  | store
  deriving DecidableEq, Repr

/-- The general exceptions (R621). -/
inductive Exc where
  | interrupt
  | tlbModified (va : DWord)
  | tlbRefill (k : AccessKind) (va : DWord)
  | tlbInvalid (k : AccessKind) (va : DWord)
  | addressError (k : AccessKind) (va : DWord)
  | busErrorFetch
  | busErrorData
  | syscall
  | breakpoint
  | reservedInstruction
  | copUnusable (z : BitVec 2)
  | overflow
  | trap
  | floatingPoint
  deriving DecidableEq, Repr

/-- ExcCode (11_cp0_registers.md R95). -/
def Exc.code : Exc → BitVec 5
  | .interrupt => 0#5
  | .tlbModified _ => 1#5
  | .tlbRefill .store _ => 3#5
  | .tlbRefill _ _ => 2#5
  | .tlbInvalid .store _ => 3#5
  | .tlbInvalid _ _ => 2#5
  | .addressError .store _ => 5#5
  | .addressError _ _ => 4#5
  | .busErrorFetch => 6#5
  | .busErrorData => 7#5
  | .syscall => 8#5
  | .breakpoint => 9#5
  | .reservedInstruction => 10#5
  | .copUnusable _ => 11#5
  | .overflow => 12#5
  | .trap => 13#5
  | .floatingPoint => 15#5

/-- The bad address of a TLB exception. -/
def Exc.tlbAddr? : Exc → Option DWord
  | .tlbModified va => some va
  | .tlbRefill _ va => some va
  | .tlbInvalid _ va => some va
  | _ => none

/-- The bad address of an exception that records one (R632). -/
def Exc.badAddr? : Exc → Option DWord
  | .addressError _ va => some va
  | x => x.tlbAddr?

/-- The exceptions that debug mode masks (R663): TLB and bus error. -/
def Exc.maskedInDebug : Exc → Bool
  | .busErrorFetch => true
  | .busErrorData => true
  | x => x.tlbAddr?.isSome

/-- The restart address (R631): the instruction, or the branch before it when it is in a delay slot. -/
def State.restartPc (s : State) : DWord := if s.delaySlot.isSome then s.pc - 4#64 else s.pc

/-- Whether a TLB miss on `va` is one of a 64-bit address space: the X bit of the region of the address (R647). -/
def State.refillIs64 (s : State) (va : DWord) : Bool :=
  if va.extractLsb' 62 2 = 0#2 then s.ux
  else if va.extractLsb' 62 2 = 1#2 || va.extractLsb' 29 35 = 0x7FFFFFFFE#35 then s.sx
  else s.kx

/-- The offset of an exception's vector (R630 step 3, R647). -/
def State.vectorOffset (s : State) (x : Exc) : DWord :=
  match x with
  | .tlbRefill _ va => if s.exl then 0x180#64 else if s.refillIs64 va then 0x080#64 else 0x000#64
  | _ => 0x180#64

/-- The base of the vectors (R622, R630 step 5). -/
def State.vectorBase (s : State) : DWord :=
  if s.bev then 0xFFFFFFFFBFC00200#64 else 0xFFFFFFFF80000000#64

/-- Cause after an exception (R630 steps 2 and 3): ExcCode; CE, free but for Coprocessor Unusable (U12); BD unless
EXL was set. -/
def State.causeAfter (s : State) (x : Exc) : BitVec 32 :=
  let ce := match x with
    | .copUnusable z => z
    | _ => (s.fresh .causeCe).extractLsb' 0 2
  let c := putBits (putBits s.cp0.cause 2 x.code) 28 ce
  if s.exl then c else putBit c 31 s.delaySlot.isSome

/-- Record the bad address of an exception (R632): BadVAddr; for a TLB exception the VPN fields of Context, XContext
and EntryHi; EntryLo0, EntryLo1, and after an Address Error the VPN fields, take free values (U26). -/
def State.recordBadAddr (s : State) (x : Exc) (c : Cp0) : Cp0 :=
  match x.badAddr? with
  | none => c
  | some va =>
    let lo0 := (s.fresh .entryLo0) &&& 0xFFFFFFFF#64
    let lo1 := (s.fresh .entryLo1) &&& 0xFFFFFFFF#64
    if x.tlbAddr?.isSome then
      { c with
        badVAddr := va
        entryLo0 := lo0
        entryLo1 := lo1
        context := putBits c.context 4 (va.extractLsb' 13 19)
        xContext := putBits (putBits c.xContext 4 (va.extractLsb' 13 27)) 31 (va.extractLsb' 62 2)
        entryHi := putBits (putBits c.entryHi 13 (va.extractLsb' 13 27)) 62 (va.extractLsb' 62 2) }
    else
      { c with
        badVAddr := va
        entryLo0 := lo0
        entryLo1 := lo1
        context := putBits c.context 4 ((s.fresh .context).extractLsb' 0 19)
        xContext := putBits c.xContext 4 ((s.fresh .xContext).extractLsb' 0 27)
        entryHi := putBits c.entryHi 13 ((s.fresh .entryHi).extractLsb' 0 27) }

/-- The CP0 registers after the entry sequence of R630. -/
def State.cp0After (s : State) (x : Exc) : Cp0 :=
  let c := s.recordBadAddr x s.cp0
  { c with
    cause := s.causeAfter x
    epc := if s.exl then s.cp0.epc else s.restartPc
    status := putBit s.cp0.status 1 true }

/-- Take a general exception at the instruction at `pc` (R630). -/
def takeException (x : Exc) (s : State) : State :=
  { s with
    cp0 := s.cp0After x
    pc := s.vectorBase + s.vectorOffset x
    delaySlot := none
    excTaken := true }

/-- An instruction raises a general exception; in debug mode the spec does not describe it (U24). -/
def raise (x : Exc) (s : State) : Out :=
  if s.debugMode then .refused .exceptionInDebug else .next (takeException x s)

/-- Return from a general or reset-class exception (R634, 46_cp0_instructions.md R500). -/
def State.eret (s : State) : State :=
  if s.erl then
    { s with
      pc := s.cp0.errorEpc
      cp0 := { s.cp0 with status := putBit s.cp0.status 2 false }
      llbit := false
      delaySlot := none }
  else
    { s with
      pc := s.cp0.epc
      cp0 := { s.cp0 with status := putBit s.cp0.status 1 false }
      llbit := false
      delaySlot := none }

/-! ## Reset class (R640 to R642, 70_reset_and_hazards.md R756) -/

/-- What SoftReset and NMI do to the registers: ErrorEPC, then ERL, SR and BEV set, and the reset vector. -/
def State.resetEntry (s : State) : State :=
  { s with
    cp0 := { s.cp0 with
      errorEpc := s.restartPc
      status := putBit (putBit (putBit s.cp0.status 2 true) 20 true) 22 true }
    pc := resetVector
    delaySlot := none
    excTaken := true }

/-- Take the waiting NMI (R642). -/
def takeNmi (s : State) : State :=
  { s.resetEntry with plat := { s.plat with nmiPending := false } }

/-! ## Debug exceptions (R660 to R665) -/

/-- Debug.DSS (R102). -/
def debugDss : BitVec 32 := 0x00000001#32
/-- Debug.DBp. -/
def debugDbp : BitVec 32 := 0x00000002#32
/-- Debug.DDBL. -/
def debugDdbl : BitVec 32 := 0x00000004#32
/-- Debug.DDBS. -/
def debugDdbs : BitVec 32 := 0x00000008#32
/-- Debug.DIB. -/
def debugDib : BitVec 32 := 0x00000010#32
/-- Debug.DINT. -/
def debugDint : BitVec 32 := 0x00000020#32
/-- Debug.OES. -/
def debugOes : BitVec 32 := 0x00001000#32
/-- Debug.TRS. -/
def debugTrs : BitVec 32 := 0x00002000#32
/-- Debug.NIS. -/
def debugNis : BitVec 32 := 0x00004000#32

/-- The status bit of a break (R102, R662): DIB, DDBS or DDBL for the address breaks, DINT for the others, for which the
source names none (log entry 39). -/
def BreakKind.bit : BreakKind → BitVec 32
  | .instrAddress => debugDib
  | .dataLoad => debugDdbl
  | .dataStore => debugDdbs
  | .jtag => debugDint
  | .processorBus => debugDint
  | .interrupt => debugDint

/-- The debug exception vector (R624). -/
def State.debugVector (s : State) : DWord :=
  if s.params.probEnb then 0xFFFFFFFFFF200200#64 else 0xFFFFFFFFBFC00400#64

/-- Debug after a debug exception (R660): TLF, BsF, SSt, JtagRst and the reserved bits are kept, the status bits become
`bits`, DM is set, DBD says whether the instruction is in a delay slot. -/
def State.debugAfter (s : State) (bits : BitVec 32) : BitVec 32 :=
  putBit ((s.cp0.debug &&& 0x3FFF8FC0#32) ||| 0x40000000#32 ||| bits) 31 s.delaySlot.isSome

/-- Debug exception entry (R660). -/
def takeDebug (bits : BitVec 32) (s : State) : State :=
  { s with
    cp0 := { s.cp0 with depc := s.restartPc, debug := s.debugAfter bits }
    pc := s.debugVector
    delaySlot := none
    excTaken := true }

/-- A general exception that coincides with a debug exception (R665): its register updates are made, its vector is
not taken, NIS, TRS or OES is set and the debug exception is entered. -/
def takeDebugWith (bits : BitVec 32) (x : Exc) (s : State) : State :=
  let t := takeException x s
  let status := match x with
    | .tlbRefill _ _ => debugTrs
    | _ => debugOes
  takeDebug (bits ||| status) { t with pc := s.pc, delaySlot := s.delaySlot }

/-- An NMI that coincides with a debug exception (R665). -/
def takeDebugWithNmi (bits : BitVec 32) (s : State) : State :=
  let t := takeNmi s
  takeDebug (bits ||| debugNis) { t with pc := s.pc, delaySlot := s.delaySlot }

/-- Return from a debug exception (47_debug_other.md R521). -/
def State.deret (s : State) : State :=
  { s with
    pc := s.cp0.depc
    cp0 := { s.cp0 with debug := putBit s.cp0.debug 30 false }
    delaySlot := none }

/-- A masked TLB or bus error in debug mode sets Debug.TLF or Debug.BsF (R663). -/
def State.flagMasked (s : State) (x : Exc) : State :=
  { s with
    cp0 := { s.cp0 with
      debug := putBit s.cp0.debug (if x.tlbAddr?.isSome then 11 else 10) true } }

/-! ## Ordinary completions -/

/-- Complete an instruction whose one result goes to GPR r (a write to r0 is discarded, 10_state.md R21). -/
def setReg (r : RegNum) (v : DWord) (s : State) : Out := .next (s.setGpr r v).advance

/-- Write HI and LO. -/
def State.setHiLo (s : State) (hi lo : DWord) : State := { s with hi := hi, lo := lo }

/-! ## Instruction checks and floating-point traps -/

/-- An instruction of the epsilon class: Reserved Instruction unless 64-bit operations are enabled (R626,
30_encoding.md R231, R235). -/
def wide (s : State) (k : Out) : Out := if s.is64bitOps then k else raise .reservedInstruction s

/-- An instruction of coprocessor z: Coprocessor Unusable unless z is usable (R656, 45_coprocessor.md R450). -/
def needs (z : BitVec 2) (s : State) (k : Out) : Out := if s.usable z then k else raise (.copUnusable z) s

/-- A control transfer: not defined in the delay slot of a taken branch or jump (U21). -/
def noSlot (s : State) (k : Out) : Out := if s.delaySlot.isSome then .refused .delaySlotControl else k

/-- The Floating-Point exception with the given FCR31 Cause field, E most significant (R658, 10_state.md R45 (c)). -/
def fpTrap (cause : BitVec 6) (s : State) : Out :=
  raise .floatingPoint { s with fcr31 := putBits s.fcr31 12 cause }

/-- Unimplemented Operation: Cause = E alone (D23, 48_fpu.md R548). -/
def fpUnimplemented (s : State) : Out := fpTrap 0b100000#6 s

/-! ## What a memory operation can answer -/

/-- The late bus error is reported, or masked in debug mode: no read is outstanding, and the load's destination is free
(60_exceptions.md R651, U27). DESIGN CHOICE, unsafe: that this holds also where a later instruction has overwritten the
destination without reading it (it has neither waited for the response nor cancelled the load, and its result is replaced
by the free value); R651 does not say (log entry 65). -/
def State.settleLate (s : State) : State :=
  match s.lateError with
  | none => s
  | some e => { s.spoilDest e.dest (s.fresh .lateResult) with lateError := none }

/-- Back to the load of a late bus error, the instruction that the exception is then raised by: it has completed nothing
(60_exceptions.md R630 step 1), so a linked load has not linked; its destination is free (U27). -/
def State.backToLoad (s : State) (e : LateError) : State :=
  { s with pc := e.pc, delaySlot := e.delaySlot, llbit := e.llbit, cp0 := { s.cp0 with llAddr := e.llAddr } }

/-- The result of a memory operation: a value and the state after it; an exception; a stall, the state being what
the agent left; a fault; a refusal. -/
inductive Res (α : Type) where
  | ok (v : α) (s : State)
  | exc (x : Exc) (s : State)
  | stall (s : State)
  | fault (f : Fault)
  | refuse (r : Refusal)

/-- Go on with the value of a memory operation. -/
def Res.bind {α β : Type} (r : Res α) (k : α → State → Res β) : Res β :=
  match r with
  | .ok v s => k v s
  | .exc x s => .exc x s
  | .stall s => .stall s
  | .fault f => .fault f
  | .refuse r => .refuse r

/-- The outcome of an instruction that goes on with the value of a memory operation; exceptions are raised. -/
def Res.elim {α : Type} (r : Res α) (k : α → State → Out) : Out :=
  match r with
  | .ok v s => k v s
  | .exc x s => raise x s
  | .stall s => .next s.stall
  | .fault f => .fault f
  | .refuse r => .refused r

/-! ## A read the processor does not wait for (20_memory.md R162, R166) -/

/-- A load has gone on and the response to its read, an error, is still to come: the bus takes no other request. -/
def State.awaiting (s : State) : Bool := s.lateError.any fun e => !e.arrived

/-- The error of the outstanding read reaches the processor (60_exceptions.md R651). -/
def State.errorArrives (s : State) : State :=
  { s with lateError := s.lateError.map fun e => { e with arrived := true } }

/-- Writes go out on the bus: the agent does not hold them, and no read is outstanding (R162, R163). -/
def State.writesGo (s : State) : Bool := !s.env.writeHold && !s.awaiting

/-! ## The write buffer and physical memory (20_memory.md R160 to R164) -/

/-- Write the oldest entry of the buffer to memory. -/
def State.drainOne (s : State) : State :=
  match s.wbuf with
  | [] => s
  | e :: es => { s with wbuf := es, mem := Memory.setBytes s.mem e.pa e.data }

/-- Memory after a list of pending writes, oldest first. -/
def drainInto (m : List Host.Cell) : List WbEntry → List Host.Cell
  | [] => m
  | e :: es => drainInto (Memory.setBytes m e.pa e.data) es

/-- Write the whole buffer to memory, oldest first (R162). -/
def State.drainAll (s : State) : State := { s with wbuf := [], mem := drainInto s.mem s.wbuf }

/-- A byte of physical memory as the processor's own reads see it: the latest write still in the buffer, else
memory (R161 (b), R165 (1)). -/
def State.physByte (s : State) (a : PAddr) : Byte := Memory.get (drainInto s.mem s.wbuf) a

/-- The processor waits for its writes to go out: no read is on hold, and an outstanding one is answered meanwhile (R162;
log entry 33). -/
def State.awaitWrites (s : State) : State := s.errorArrives.offHold

/-- Empty the buffer, or stall while no writes go out (R160, R164). -/
def State.flushed (s : State) : Res Unit :=
  match s.wbuf with
  | [] => .ok () s
  | _ :: _ => if s.writesGo then .ok () s.drainAll else .stall s.awaitWrites

/-- Enter a write of up to eight bytes into the buffer; a full buffer gives up its oldest entry, or stalls the
processor while no writes go out (R160). -/
def State.bufferWrite (s : State) (pa : PAddr) (data : List Byte) : Res Unit :=
  if s.wbuf.length < 4 then .ok () { s with wbuf := s.wbuf ++ [{ pa := pa, data := data }] }
  else if s.writesGo then .ok () { s.drainOne with wbuf := s.drainOne.wbuf ++ [{ pa := pa, data := data }] }
  else .stall s.awaitWrites

/-- Whether a pending write touches the 32-byte line at `line` (a physical address / 32). -/
def WbEntry.touchesLine (e : WbEntry) (line : Nat) : Bool := e.pa.toNat / 32 == line

/-! ## Byte order (20_memory.md R122) -/

/-- The value of bytes in a byte order, lowest address first. -/
def assemble (be : Bool) (bytes : List Byte) : DWord :=
  (if be then bytes else bytes.reverse).foldl (fun acc b => (acc <<< 8) ||| b.setWidth 64) 0#64

/-- The low `n` bytes of a value in a byte order, lowest address first. -/
def disassemble (be : Bool) (n : Nat) (v : DWord) : List Byte :=
  let little := (List.range n).map fun i => v.extractLsb' (8 * i) 8
  if be then little.reverse else little

end Sys2Proof.Machine
end

