-- ==== Sys2Proof/Machine/Translate.lean ====
section
/-! DEFINITION. Address translation (spec/20_memory.md): the segments of each mode (R128 to R135, R139), the TLB match and
page (R141 to R145), and the translation of an access. -/

namespace Sys2Proof.Machine

/-! ## Segments -/

/-- The classification of a virtual address (R128). -/
inductive Segment where
  | addressError
  | unmapped (pa : PAddr) (attr : BitVec 3)
  | mapped
  deriving DecidableEq, Repr

/-- The uncached attribute (11_cp0_registers.md R66). -/
def attrUncached : BitVec 3 := 2#3

/-- User mode (R129). -/
def segUser (wide : Bool) (a : DWord) : Segment :=
  if wide then (if a.extractLsb' 40 24 = 0#24 then .mapped else .addressError)
  else (if a.getLsbD 31 then .addressError else .mapped)

/-- Supervisor mode (R130). -/
def segSupervisor (wide : Bool) (a : DWord) : Segment :=
  if wide then
    if a.extractLsb' 40 22 = 0#22 && (a.extractLsb' 62 2 = 0#2 || a.extractLsb' 62 2 = 1#2) then .mapped
    else if a.extractLsb' 29 35 = 0x7FFFFFFFE#35 then .mapped
    else .addressError
  else if !a.getLsbD 31 || a.extractLsb' 29 3 = 0b110#3 then .mapped
  else .addressError

/-- The Kernel segments above 2^31 of the 32-bit map, and the same ranges of the 64-bit map (R131, R132, R139):
kseg0, kseg1, ksseg, kseg3 and the reserved range. -/
def segCompat (k0 : BitVec 3) (a : DWord) : Segment :=
  if a.extractLsb' 29 3 = 0b100#3 then .unmapped ((a.extractLsb' 0 29).setWidth 36) k0
  else if a.extractLsb' 29 3 = 0b101#3 then .unmapped ((a.extractLsb' 0 29).setWidth 36) attrUncached
  else if a.extractLsb' 22 10 = 0x3FC#10 then .unmapped (a.extractLsb' 0 36) attrUncached
  else .mapped

/-- Kernel mode (R131 to R134). -/
def segKernel (wide erl : Bool) (k0 : BitVec 3) (a : DWord) : Segment :=
  if wide then
    if a.extractLsb' 62 2 = 0#2 then
      if a.extractLsb' 40 22 ≠ 0#22 then .addressError
      else if erl && a.extractLsb' 31 33 = 0#33 then .unmapped (a.extractLsb' 0 36) attrUncached
      else .mapped
    else if a.extractLsb' 62 2 = 1#2 then
      if a.extractLsb' 40 22 = 0#22 then .mapped else .addressError
    else if a.extractLsb' 62 2 = 2#2 then
      if a.extractLsb' 36 23 = 0#23 then .unmapped (a.extractLsb' 0 36) (a.extractLsb' 59 3)
      else .addressError
    else if a ≤ 0xC00000FF7FFFFFFF#64 then .mapped
    else if a.extractLsb' 31 33 = 0x1FFFFFFFF#33 then segCompat k0 a
    else .addressError
  else if a.getLsbD 31 then segCompat k0 a
  else if erl then .unmapped ((a.extractLsb' 0 31).setWidth 36) attrUncached
  else .mapped

/-- Under 32-bit addressing a virtual address must be the sign extension of its low word (R127). -/
def signExtended32 (a : DWord) : Bool := a == (a.extractLsb' 0 32).signExtend 64

/-- The segment of an address in the present mode, `none` in the reserved mode (U11). -/
def State.segment? (s : State) (a : DWord) : Option Segment :=
  if !s.is64bitAddr && !signExtended32 a then
    (if s.mode = .reserved then none else some .addressError)
  else
    match s.mode with
    | .user => some (segUser s.is64bitAddr a)
    | .supervisor => some (segSupervisor s.is64bitAddr a)
    | .kernel => some (segKernel s.is64bitAddr s.erl s.k0 a)
    | .reserved => none

/-! ## The TLB -/

/-- Whether a MASK is one of the seven page sizes (11_cp0_registers.md R68). -/
def legalMask (m : BitVec 12) : Bool :=
  m == 0x000#12 || m == 0x003#12 || m == 0x00F#12 || m == 0x03F#12 || m == 0x0FF#12 || m == 0x3FF#12 || m == 0xFFF#12

/-- The number of offset bits of a page (R143). -/
def pageBits (m : BitVec 12) : Nat :=
  if m = 0x000#12 then 12 else if m = 0x003#12 then 14 else if m = 0x00F#12 then 16 else if m = 0x03F#12 then 18
  else if m = 0x0FF#12 then 20 else if m = 0x3FF#12 then 22 else 24

/-- The match of R145 step 3 for a region, a VPN2 and an ASID. -/
def TlbEntry.matchesKey (e : TlbEntry) (r : BitVec 2) (vpn2 : BitVec 27) (asid : BitVec 8) : Bool :=
  (vpn2 &&& ~~~(e.mask.setWidth 27)) == (e.vpn2 &&& ~~~(e.mask.setWidth 27)) && e.r == r &&
    (e.g || e.asid == asid)

/-- The match of an address (R145 step 3). -/
def TlbEntry.matchesAddr (e : TlbEntry) (a : DWord) (asid : BitVec 8) : Bool :=
  e.matchesKey (a.extractLsb' 62 2) (a.extractLsb' 13 27) asid

/-- The page of the pair an address selects (R143, R145 step 5). -/
def TlbEntry.page (e : TlbEntry) (a : DWord) : TlbPage :=
  if a.getLsbD (pageBits e.mask) then e.odd else e.even

/-- The physical address in a page (R144): the offset bits of the address under the page frame. -/
def TlbEntry.physAddr (e : TlbEntry) (a : DWord) : PAddr :=
  let offset : PAddr := (1#36 <<< pageBits e.mask) - 1#36
  (((e.page a).pfn ++ 0#12) &&& ~~~offset) ||| (a.extractLsb' 0 36 &&& offset)

/-- The matching entries, in index order (R145 step 3, 46_cp0_instructions.md R498). -/
def State.tlbMatches (s : State) (r : BitVec 2) (vpn2 : BitVec 27) : List (Fin 48) :=
  (List.finRange 48).filter fun i => (s.tlb[i.val]'(i.isLt)).matchesKey r vpn2 s.asid

/-! ## Translation (R145) -/

/-- A physical address and its cache attribute. -/
structure Physical where
  pa : PAddr
  attr : BitVec 3
  deriving DecidableEq, Repr

/-- The mapped part of the translation (R145 steps 3 to 8). `checkDirty` is off only for a store debug mode lets
through (U27). -/
def State.tlbTranslate (s : State) (k : AccessKind) (checkDirty : Bool) (a : DWord) : Res Physical :=
  match s.tlbMatches (a.extractLsb' 62 2) (a.extractLsb' 13 27) with
  | [] => .exc (.tlbRefill k a) s
  | [i] =>
    let e := s.tlb[i.val]'(i.isLt)
    let p := e.page a
    if !legalMask e.mask then .refuse .tlbBadMask
    else if !p.v then .exc (.tlbInvalid k a) s
    else if k = .store && checkDirty && !p.d then .exc (.tlbModified a) s
    else .ok { pa := e.physAddr a, attr := p.c } s
  | _ :: _ :: _ => .refuse .tlbMultiMatch

/-- The translation of an access of kind `k` to `a`, after the alignment check (R145). An access with a reserved
attribute 4 to 7 is refused (U8). -/
def State.translateWith (s : State) (k : AccessKind) (checkDirty : Bool) (a : DWord) : Res Physical :=
  let r : Res Physical := match s.segment? a with
    | none => .refuse .reservedMode
    | some .addressError => .exc (.addressError k a) s
    | some (.unmapped pa attr) => .ok { pa := pa, attr := attr } s
    | some .mapped => s.tlbTranslate k checkDirty a
  r.bind fun p s => if p.attr.getLsbD 2 then .refuse .reservedCacheAttr else .ok p s

/-- The translation of an ordinary access (R145). -/
def State.translate (s : State) (k : AccessKind) (a : DWord) : Res Physical := s.translateWith k true a

end Sys2Proof.Machine
end

