-- ==== Sys2Proof/Machine/Access.lean ====
section
/-! DEFINITION. Memory accesses: how the agent answers a read (60_exceptions.md R651, 61_interrupts_platform.md
R732), the chip's own range (20_memory.md R139), the caches' lookup, refill and replacement (21_cache.md R183 to
R189, R199), and the load, store and fetch of virtual addresses (20_memory.md R122, R125; 21_cache.md R186, R201). -/

namespace Sys2Proof.Machine

/-! ## Reads on the bus -/

/-- How the external agent answers a read. -/
inductive ReadAnswer where
  | data
  | error
  | waiting
  deriving DecidableEq, Repr

/-- Whether reads are timed (61_interrupts_platform.md R732): R4300 type protocol, TOutEnable. -/
def State.readsTimed (s : State) : Bool := !s.straps.mode43n && s.plat.g2s.getLsbD 3

/-- Whether the read time-out counter of a read has run out (R732). -/
def State.timeoutOver (s : State) : Bool := s.readsTimed && s.plat.timeout == 0#16

/-- Whether the read on hold has timed out (R732); a read that begins has not. -/
def State.timedOut (s : State) : Bool := s.plat.reading && s.timeoutOver

/-- The answer to a read of some doublewords (physical address / 8). -/
def State.readAnswer (s : State) (doublewords : List Nat) : ReadAnswer :=
  if doublewords.any (s.env.unanswered.contains ·) then (if s.timedOut then .error else .waiting)
  else if doublewords.any (s.env.errors.contains ·) then .error
  else .data

/-- The Bus Error of an access kind (R651). -/
def AccessKind.busError : AccessKind → Exc
  | .fetch => .busErrorFetch
  | _ => .busErrorData

/-- Empty the buffer if a pending write lies in the same aligned block of `unit` bytes as `pa` (20_memory.md R161
(b)). -/
def State.flushedFor (s : State) (unit : Nat) (pa : PAddr) : Res Unit :=
  if s.wbuf.any fun e => e.pa.toNat / unit == pa.toNat / unit then s.flushed else .ok () s

/-- A read waits for the response to the read before it (20_memory.md R162, R165 (3)). If that is an error still to be
reported, a data read reports it, as the bus error of the running instruction, or masks it in debug mode (60_exceptions.md
R663); a fetch leaves it arrived, to be reported before the instruction fetched (log entry 33). -/
def State.busIdle (s : State) (k : AccessKind) : Res Unit :=
  if s.lateError = none then .ok () s
  else if k = .fetch then .ok () s.errorArrives
  else if s.debugMode then .ok () (s.settleLate.flagMasked .busErrorData)
  else .exc .busErrorData s.settleLate

/-- A single read of `n` bytes within a doubleword. A load waits for the whole write buffer, a fetch for a write to
the same doubleword; that a fetch passes the pending uncached writes to other addresses is a choice (20_memory.md R161;
log entry 51). -/
def State.uncachedRead (s : State) (k : AccessKind) (pa : PAddr) (n : Nat) : Res (List Byte) :=
  (s.busIdle k).bind fun _ s =>
    (if k = .fetch then s.flushedFor 8 pa else s.flushed).bind fun _ s =>
      match s.readAnswer [pa.toNat / 8] with
      | .data => .ok (Memory.getBytes s.mem pa n) s
      | .error => .exc k.busError s
      | .waiting => .stall s.onHold

/-! ## The chip's own range (20_memory.md R139, 61_interrupts_platform.md R730, R731, R741) -/

/-- Whether a physical address lies in the reserved range 0xF_FF00_0000..0xF_FF3F_FFFF. -/
def inChipRange (pa : PAddr) : Bool := pa.extractLsb' 22 14 == 0x3FFC#14

/-- The physical address of G2SConfig. -/
def g2sAddr : PAddr := 0xFFF100000#36

/-- The fault of an access to the range outside G2SConfig (U14). -/
def chipFault (pa : PAddr) : Fault :=
  if 0xFFF300000#36 ≤ pa && pa < 0xFFF300620#36 then .dsuRegister
  else if 0xFFF200000#36 ≤ pa && pa < 0xFFF300000#36 then .probeSpace
  else .reservedRange

/-- G2SConfig as a load reads it. Reserved bits are free: bits 31:20; in the R5000 type protocol bits 19:4 and 3 once a
store has written them, ColdReset having set them; in the R4300 type protocol bit 2 (R730, R731; log entry 42). -/
def State.g2sWord (s : State) : Word :=
  let free : Word := low32 (s.fresh .g2s)
  let reserved : Word :=
    if !s.straps.mode43n then 0xFFF00004#32 else if s.plat.g2sWritten then 0xFFFFFFF8#32 else 0xFFF00000#32
  (free &&& reserved) ||| (s.plat.g2s.setWidth 32 &&& ~~~reserved)

/-- A load of `n` bytes from the range. -/
def State.chipRead (s : State) (pa : PAddr) (n : Nat) : Res DWord :=
  if pa.extractLsb' 3 33 = g2sAddr.extractLsb' 3 33 then
    if pa = g2sAddr ∧ n = 4 then .ok (s.g2sWord.setWidth 64) s else .fault .g2sNonWord
  else .fault (chipFault pa)

/-- A store of `n` bytes to the range: the writable bits of G2SConfig (R730, R731; bit 2 is reserved in the R4300
type protocol). -/
def State.chipWrite (s : State) (pa : PAddr) (n : Nat) (v : DWord) : Res Unit :=
  if pa.extractLsb' 3 33 = g2sAddr.extractLsb' 3 33 then
    if pa = g2sAddr ∧ n = 4 then
      let w : BitVec 20 := v.extractLsb' 0 20
      let w := if s.straps.mode43n then w else putBit w 2 (s.plat.g2s.getLsbD 2)
      .ok () { s with plat := { s.plat with g2s := w, g2sWritten := true } }
    else .fault .g2sNonWord
  else .fault (chipFault pa)

/-! ## Cache contents (21_cache.md R183, R184) -/

/-- The two caches. -/
inductive CacheId where
  | inst
  | data
  deriving DecidableEq, Repr

/-- The cache of a name. -/
def State.cache (s : State) : CacheId → Cache
  | .inst => s.icache
  | .data => s.dcache

/-- Replace a cache. -/
def State.setCache (s : State) (c : CacheId) (v : Cache) : State :=
  match c with
  | .inst => { s with icache := v }
  | .data => { s with dcache := v }

/-- The number of a line. -/
def lineKey (set : BitVec 8) (way : BitVec 2) : Nat := 4 * set.toNat + way.toNat

/-- A line. -/
def Cache.line (c : Cache) (set : BitVec 8) (way : BitVec 2) : CacheLine :=
  sparseGet CacheLine.empty c.lines (lineKey set way)

/-- Replace a line. -/
def Cache.setLine (c : Cache) (set : BitVec 8) (way : BitVec 2) (l : CacheLine) : Cache :=
  { c with lines := sparsePut CacheLine.empty c.lines (lineKey set way) l }

/-- The replacement bits F1 F0 of a set. -/
def Cache.fifoOf (c : Cache) (set : BitVec 8) : BitVec 2 := sparseGet 0#2 c.fifo set.toNat

/-- Write the replacement bits of a set. -/
def Cache.setFifo (c : Cache) (set : BitVec 8) (f : BitVec 2) : Cache :=
  { c with fifo := sparsePut 0#2 c.fifo set.toNat f }

/-- The canonical form of a cache's sparse lists: 1024 lines, 256 sets. -/
abbrev Cache.wf (c : Cache) : Prop :=
  SparseWf CacheLine.empty c.lines ∧ (∀ p ∈ c.lines, p.1 < 1024) ∧
    SparseWf 0#2 c.fifo ∧ ∀ p ∈ c.fifo, p.1 < 256

/-- The set an address selects: bits 12:5 of the virtual address (R183). -/
def setOf (va : DWord) : BitVec 8 := va.extractLsb' 5 8

/-- The tag of a physical address: bits 35:12 (R183). -/
def tagOf (pa : PAddr) : BitVec 24 := pa.extractLsb' 12 24

/-- The ways of a set that hold a tag. -/
def Cache.hits (c : Cache) (set : BitVec 8) (tag : BitVec 24) : List (BitVec 2) :=
  [0#2, 1#2, 2#2, 3#2].filter fun w => (c.line set w).valid && (c.line set w).tag == tag

/-- The physical address of a line's first byte: its tag and its set (R187). -/
def linePa (tag : BitVec 24) (set : BitVec 8) : PAddr := tag ++ set.extractLsb' 0 7 ++ 0#5

/-- `n` bytes of a line from an offset up. -/
def lineBytes (data : Vector Byte 32) (offset : BitVec 5) : Nat → List Byte
  | 0 => []
  | n + 1 => data[offset.toNat]'(offset.isLt) :: lineBytes data (offset + 1#5) n

/-- Write bytes into a line from an offset up. -/
def setLineBytes (data : Vector Byte 32) (offset : BitVec 5) : List Byte → Vector Byte 32
  | [] => data
  | b :: bs => setLineBytes (data.set offset.toNat b offset.isLt) (offset + 1#5) bs

/-! ## Replacement (21_cache.md R189, R199) -/

/-- The first of the four ways from `w` up, in circular order, with a property; `w + 3` if no earlier one has it. -/
def firstWay (p : BitVec 2 → Bool) (w : BitVec 2) : BitVec 2 :=
  if p w then w else if p (w + 1#2) then w + 1#2 else if p (w + 2#2) then w + 2#2 else w + 3#2

/-- Whether the lock function works: not in debug mode (R199, 60_exceptions.md R663). -/
def State.locking (s : State) : Bool := !s.debugMode

/-- While the lock function works a locked valid line is never replaced; way 0 has no Lock bit (R181, R199). -/
def Cache.replaceable (c : Cache) (locking : Bool) (set : BitVec 8) (w : BitVec 2) : Bool :=
  w == 0#2 || !(locking && (c.line set w).lock && (c.line set w).valid)

/-- The way the replacement bits name, advanced past locked valid lines. -/
def Cache.fifoWay (c : Cache) (locking : Bool) (set : BitVec 8) : BitVec 2 :=
  firstWay (c.replaceable locking set) (c.fifoOf set)

/-- The victim of a refill (R189): an invalid way if there is one (which of several is the open choice `choice`,
log entry 37), else the way the replacement bits name. -/
def Cache.victim (c : Cache) (locking : Bool) (set : BitVec 8) (choice : BitVec 2) : BitVec 2 :=
  let invalid := fun w => !(c.line set w).valid
  if invalid 0#2 || invalid 1#2 || invalid 2#2 || invalid 3#2 then firstWay invalid (c.fifoOf set + choice)
  else c.fifoWay locking set

/-- The next open replacement choice (log entry 37). -/
def State.choice (s : State) : BitVec 2 := s.choices.headD 0#2

/-- Put a line into a way by a refill: a locked way stays locked (outside debug mode), and the replacement bits move
to the next replaceable way (R189, R199, 60_exceptions.md R663). That a refill in debug mode clears L is log entry 41;
that the bits move from the way filled also when they did not name it is a choice (log entry 37). -/
def State.placeLine (s : State) (c : CacheId) (set : BitVec 8) (way : BitVec 2) (tag : BitVec 24)
    (data : Vector Byte 32) (dirty : Bool) : State :=
  let old := (s.cache c).line set way
  let cache := (s.cache c).setLine set way
    { tag := tag, valid := true, lock := old.lock && s.locking, dirty := dirty, data := data }
  { s.setCache c (cache.setFifo set (firstWay (cache.replaceable s.locking set) (way + 1#2))) with choices := s.choices.tail }

/-- Enter the block write of a line into the buffer, which it fills (R187, 20_memory.md R160). -/
def State.writeBackLine (s : State) (pa : PAddr) (data : Vector Byte 32) : Res Unit :=
  s.flushed.bind fun _ s =>
    .ok () { s with wbuf := [
      { pa := pa, data := lineBytes data 0#5 8 }, { pa := pa + 8#36, data := lineBytes data 8#5 8 },
      { pa := pa + 16#36, data := lineBytes data 16#5 8 }, { pa := pa + 24#36, data := lineBytes data 24#5 8 }] }

/-- Whether a line is to be written back when another takes its place: valid and dirty (R185, R187). -/
def CacheLine.modified (l : CacheLine) : Bool := l.valid && l.dirty

/-- Write a way's line back to memory if it is valid and dirty (R185, R187). -/
def State.castOut (s : State) (c : CacheId) (set : BitVec 8) (way : BitVec 2) : Res Unit :=
  let l := (s.cache c).line set way
  if l.modified then s.writeBackLine (linePa l.tag set) l.data else .ok () s

/-- Mark a way's line invalid. Its PTag, L and data stay: for a refill that fails, which R185 and R166 of 20_memory.md only
say leaves the line invalid, that is a choice (log entry 61). -/
def State.dropLine (s : State) (c : CacheId) (set : BitVec 8) (way : BitVec 2) : State :=
  s.setCache c ((s.cache c).setLine set way { (s.cache c).line set way with valid := false, dirty := false })

/-- The answer to the block read of an access. The refill of a store is assumed to succeed unless the environment says
that it can fail (20_memory.md R151, 91_not_in_source.md N15; log entry 47). -/
def State.refillAnswer (s : State) (k : AccessKind) (doublewords : List Nat) : ReadAnswer :=
  if k = .store ∧ s.env.storeErrors = false then .data else s.readAnswer doublewords

/-- The block read of the line that holds `pa`; `none` if the agent answers with an error (R185). Where a cast-out is to
follow, which takes the whole buffer (R160), the read waits for the buffer to be empty (20_memory.md R161, log entry 61).
That a cached access to the reserved range stops is a choice (log entry 53). -/
def State.readLine (s : State) (k : AccessKind) (castsOut : Bool) (pa : PAddr) : Res (Option (Vector Byte 32)) :=
  if inChipRange pa then .fault .reservedRange
  else
    (s.busIdle k).bind fun _ s =>
      (if castsOut then s.flushed else s.flushedFor 32 pa).bind fun _ s =>
        let base := linePa (tagOf pa) (pa.extractLsb' 5 8)
        let d := base.toNat / 8
        match s.refillAnswer k [d, d + 1, d + 2, d + 3] with
        | .data => .ok (some (Vector.ofFn fun i => Memory.get s.mem (base + BitVec.ofNat 36 i.val))) s
        | .error => .ok none s
        | .waiting => .stall s.onHold

/-- Read the line that holds `pa` into a way (R185): the read first, then the cast-out of a dirty victim, which the empty
buffer takes at once. A bus error leaves the way invalid (20_memory.md R166); that its dirty line is cast out then too,
and that the way keeps its PTag, L and data, is a choice (log entry 61). -/
def State.fillWay (s : State) (k : AccessKind) (c : CacheId) (set : BitVec 8) (way : BitVec 2) (pa : PAddr) :
    Res Unit :=
  (s.readLine k ((s.cache c).line set way).modified pa).bind fun line s =>
    (s.castOut c set way).bind fun _ s =>
      match line with
      | some data => .ok () (s.placeLine c set way (tagOf pa) data false)
      | none => .exc k.busError (s.dropLine c set way)

/-- The way of a set that holds `pa`, after a refill if no way does (R185); a multi-hit is refused (U19). -/
def State.lookup (s : State) (k : AccessKind) (c : CacheId) (va : DWord) (pa : PAddr) : Res (BitVec 2) :=
  match (s.cache c).hits (setOf va) (tagOf pa) with
  | [w] => .ok w s
  | [] =>
    let w := (s.cache c).victim s.locking (setOf va) s.choice
    (s.fillWay k c (setOf va) w pa).bind fun _ s => .ok w s
  | _ :: _ :: _ => .refuse .cacheMultiHit

/-! ## Physical accesses by cache attribute (21_cache.md R186, R201) -/

/-- Read `n` bytes through a cache or past it. -/
def State.readBytes (s : State) (k : AccessKind) (c : CacheId) (off : Bool) (va : DWord) (p : Physical) (n : Nat) :
    Res (List Byte) :=
  if p.attr = attrUncached ∨ off then s.uncachedRead k p.pa n
  else
    (s.lookup k c va p.pa).bind fun w s =>
      .ok (lineBytes ((s.cache c).line (setOf va) w).data (p.pa.extractLsb' 0 5) n) s

/-- Write bytes into a line of the data cache. -/
def State.writeLine (s : State) (set : BitVec 8) (way : BitVec 2) (offset : BitVec 5) (bytes : List Byte)
    (dirty : Bool) : State :=
  let l := s.dcache.line set way
  let l' := { l with data := setLineBytes l.data offset bytes, dirty := l.dirty || dirty }
  { s with dcache := s.dcache.setLine set way l' }

/-- Write bytes by attribute: uncached, write-through without or with write allocate, write-back (R186). -/
def State.writeBytes (s : State) (va : DWord) (p : Physical) (bytes : List Byte) : Res Unit :=
  if p.attr = attrUncached ∨ s.dcacheOff then s.bufferWrite p.pa bytes
  else if p.attr = 0#3 ∧ s.dcache.hits (setOf va) (tagOf p.pa) = [] then s.bufferWrite p.pa bytes
  else
    (s.lookup .store .data va p.pa).bind fun w s =>
      if p.attr = 3#3 then .ok () (s.writeLine (setOf va) w (p.pa.extractLsb' 0 5) bytes true)
      else (s.bufferWrite p.pa bytes).bind fun _ s => .ok () (s.writeLine (setOf va) w (p.pa.extractLsb' 0 5) bytes false)

/-! ## Virtual accesses -/

/-- Whether an address is a multiple of the access width (20_memory.md R125). -/
def aligned (va : DWord) (n : Nat) : Bool := va.toNat % n == 0

/-- The physical address of byte `start` of the aligned doubleword that holds `va` (20_memory.md R122: one
translation serves the access). -/
def withOffset (pa : PAddr) (start : DWord) : PAddr := pa.extractLsb' 3 33 ++ start.extractLsb' 0 3

/-- `MemRead(start, n)` after the translation of `va`; also the physical address read. That G2SConfig answers at its
physical address however it is reached is a choice (log entry 54). -/
def State.loadFrom (s : State) (va start : DWord) (n : Nat) : Res (PAddr × DWord) :=
  (s.translate .load va).bind fun p s =>
    let p := { p with pa := withOffset p.pa start }
    if inChipRange p.pa ∧ (p.attr = attrUncached ∨ s.dcacheOff) then
      (s.chipRead p.pa n).bind fun v s => .ok (p.pa, v) s
    else
      (s.readBytes .load .data s.dcacheOff va p n).bind fun bytes s =>
        .ok (p.pa, assemble s.dataBe bytes) s

/-- `MemWrite(start, n, v)` at a translated address. That a cached access to the reserved range stops is a choice (log
entry 53). -/
def State.storePhysical (s : State) (va : DWord) (p : Physical) (n : Nat) (v : DWord) : Res Unit :=
  if inChipRange p.pa then
    if p.attr = attrUncached ∨ s.dcacheOff then s.chipWrite p.pa n v else .fault .reservedRange
  else s.writeBytes va p (disassemble s.dataBe n v)

/-- `MemWrite(start, n, v)` after the translation of `va`. -/
def State.storeTo (s : State) (checkDirty : Bool) (va start : DWord) (n : Nat) (v : DWord) : Res Unit :=
  (s.translateWith .store checkDirty va).bind fun p s =>
    s.storePhysical va { p with pa := withOffset p.pa start } n v

/-- An aligned load (40_load_store.md R261 steps 3 to 5). -/
def State.load (s : State) (va : DWord) (n : Nat) : Res (PAddr × DWord) :=
  if aligned va n then s.loadFrom va va n else .exc (.addressError .load va) s

/-- An aligned store (40_load_store.md R261 steps 3 to 5). -/
def State.store (s : State) (checkDirty : Bool) (va : DWord) (n : Nat) (v : DWord) : Res Unit :=
  if aligned va n then s.storeTo checkDirty va va n v else .exc (.addressError .store va) s

/-- The words an uncached fetch at `pa` reads ahead (20_memory.md R167; how many is the environment's, log entry 45): of
the same page, answered with data, no write to them pending; none while a read is outstanding (R162). -/
def State.readOn (s : State) (pa : PAddr) : State :=
  let next := (List.range s.env.readAhead).map fun i => pa + BitVec.ofNat 36 (4 * (i + 1))
  let new := next.filter fun a =>
    !s.awaiting && a.extractLsb' 12 24 == pa.extractLsb' 12 24 && !inChipRange a && s.readAnswer [a.toNat / 8] == .data &&
      !(s.wbuf.any fun e => e.pa.toNat / 8 == a.toNat / 8) && !(s.ahead.any fun p => p.1 == a)
  let word := fun a => low32 (assemble s.be (Memory.getBytes s.mem a 4))
  { s with ahead := s.ahead.filter (fun p => p.1 != pa) ++ new.map fun a => (a, word a) }

/-- The word of an uncached fetch: the one read ahead if there is one, else memory's (R167, 21_cache.md R205). -/
def State.fetchUncached (s : State) (pa : PAddr) : Res Word :=
  match s.ahead.lookup pa with
  | some w => .ok w (s.readOn pa)
  | none => (s.uncachedRead .fetch pa 4).bind fun bytes s => .ok (low32 (assemble s.be bytes)) (s.readOn pa)

/-- The instruction word at `pc` (30_encoding.md R220, 10_state.md R26): alignment, translation, the instruction
cache or memory, the byte order of Config.BE. -/
def State.fetchWord (s : State) : Res Word :=
  if !aligned s.pc 4 then .exc (.addressError .fetch s.pc) s
  else
    (s.translate .fetch s.pc).bind fun p s =>
      if p.attr = attrUncached ∨ s.icacheOff then
        if inChipRange p.pa then (s.chipRead p.pa 4).bind fun v s => .ok (low32 v) s
        else s.fetchUncached p.pa
      else
        (s.readBytes .fetch .inst false s.pc p 4).bind fun bytes s => .ok (low32 (assemble s.be bytes)) s

end Sys2Proof.Machine
end

