-- ==== Sys2Proof/Machine/Alu.lean ====
section
/-! DEFINITION. The immediate and three-operand computational instructions (spec/41_computational.md R300 to R325). -/

namespace Sys2Proof.Machine

/-! ## Shapes -/

/-- A 32-bit sum to GPR r, or Integer Overflow (R301, R302). -/
def addWordTrap (r : RegNum) (x y : Word) (s : State) : Out :=
  if addOverflows x y then raise .overflow s else setReg r (sext32 (x + y)) s

/-- A 32-bit difference to GPR r, or Integer Overflow (R301, R314). -/
def subWordTrap (r : RegNum) (x y : Word) (s : State) : Out :=
  if subOverflows x y then raise .overflow s else setReg r (sext32 (x - y)) s

/-- A 64-bit sum to GPR r, or Integer Overflow (R301, R310). -/
def addDwordTrap (r : RegNum) (x y : DWord) (s : State) : Out :=
  if addOverflows x y then raise .overflow s else setReg r (x + y) s

/-- A 64-bit difference to GPR r, or Integer Overflow (R301, R324). -/
def subDwordTrap (r : RegNum) (x y : DWord) (s : State) : Out :=
  if subOverflows x y then raise .overflow s else setReg r (x - y) s

/-! ## Immediate forms -/

/-- ADDI (R302). -/
def execAddi (rt rs : RegNum) (imm : BitVec 16) (s : State) : Out := addWordTrap rt (s.rget32 rs) (sextImm32 imm) s

/-- ADDIU (R303). -/
def execAddiu (rt rs : RegNum) (imm : BitVec 16) (s : State) : Out :=
  setReg rt (sext32 (s.rget32 rs + sextImm32 imm)) s

/-- SLTI (R304). -/
def execSlti (rt rs : RegNum) (imm : BitVec 16) (s : State) : Out :=
  setReg rt (boolWord ((s.rget rs).slt (sextImm imm))) s

/-- SLTIU (R305). -/
def execSltiu (rt rs : RegNum) (imm : BitVec 16) (s : State) : Out :=
  setReg rt (boolWord ((s.rget rs).ult (sextImm imm))) s

/-- ANDI (R306). -/
def execAndi (rt rs : RegNum) (imm : BitVec 16) (s : State) : Out := setReg rt (s.rget rs &&& zextImm imm) s

/-- ORI (R307). -/
def execOri (rt rs : RegNum) (imm : BitVec 16) (s : State) : Out := setReg rt (s.rget rs ||| zextImm imm) s

/-- XORI (R308). -/
def execXori (rt rs : RegNum) (imm : BitVec 16) (s : State) : Out := setReg rt (s.rget rs ^^^ zextImm imm) s

/-- DADDI (R310). -/
def execDaddi (rt rs : RegNum) (imm : BitVec 16) (s : State) : Out :=
  wide s (addDwordTrap rt (s.rget rs) (sextImm imm) s)

/-- DADDIU (R311). -/
def execDaddiu (rt rs : RegNum) (imm : BitVec 16) (s : State) : Out :=
  wide s (setReg rt (s.rget rs + sextImm imm) s)

/-- LUI (R309). -/
def execLui (rt : RegNum) (imm : BitVec 16) (s : State) : Out := setReg rt (sext32 (imm ++ 0#16)) s

/-! ## Three-operand forms -/

/-- ADD (R312). -/
def execAdd (rd rs rt : RegNum) (s : State) : Out := addWordTrap rd (s.rget32 rs) (s.rget32 rt) s

/-- ADDU (R313). -/
def execAddu (rd rs rt : RegNum) (s : State) : Out := setReg rd (sext32 (s.rget32 rs + s.rget32 rt)) s

/-- SUB (R314). -/
def execSub (rd rs rt : RegNum) (s : State) : Out := subWordTrap rd (s.rget32 rs) (s.rget32 rt) s

/-- SUBU (R315). -/
def execSubu (rd rs rt : RegNum) (s : State) : Out := setReg rd (sext32 (s.rget32 rs - s.rget32 rt)) s

/-- SLT (R316). -/
def execSlt (rd rs rt : RegNum) (s : State) : Out := setReg rd (boolWord ((s.rget rs).slt (s.rget rt))) s

/-- SLTU (R317). -/
def execSltu (rd rs rt : RegNum) (s : State) : Out := setReg rd (boolWord ((s.rget rs).ult (s.rget rt))) s

/-- AND (R318). -/
def execAnd (rd rs rt : RegNum) (s : State) : Out := setReg rd (s.rget rs &&& s.rget rt) s

/-- OR (R319). -/
def execOr (rd rs rt : RegNum) (s : State) : Out := setReg rd (s.rget rs ||| s.rget rt) s

/-- XOR (R320). -/
def execXor (rd rs rt : RegNum) (s : State) : Out := setReg rd (s.rget rs ^^^ s.rget rt) s

/-- NOR (R321). -/
def execNor (rd rs rt : RegNum) (s : State) : Out := setReg rd (~~~(s.rget rs ||| s.rget rt)) s

/-- DADD (R322). -/
def execDadd (rd rs rt : RegNum) (s : State) : Out := wide s (addDwordTrap rd (s.rget rs) (s.rget rt) s)

/-- DADDU (R323). -/
def execDaddu (rd rs rt : RegNum) (s : State) : Out := wide s (setReg rd (s.rget rs + s.rget rt) s)

/-- DSUB (R324). -/
def execDsub (rd rs rt : RegNum) (s : State) : Out := wide s (subDwordTrap rd (s.rget rs) (s.rget rt) s)

/-- DSUBU (R325). -/
def execDsubu (rd rs rt : RegNum) (s : State) : Out := wide s (setReg rd (s.rget rs - s.rget rt) s)

end Sys2Proof.Machine
end

