-- ==== Sys2Proof/Machine/CacheInstr.lean ====
section
/-! DEFINITION. The CACHE instruction (spec/21_cache.md R190 to R198, spec/46_cp0_instructions.md R494). Where the spec
is silent, see log entry 50. -/

namespace Sys2Proof.Machine

/-! ## Index operations (R191 to R193) -/

/-- CACHE_WAY_SELECT: the way an Index operation names (R191, D13). -/
def State.wayOf (s : State) (va : DWord) : BitVec 2 :=
  BitVec.ofBool (va.getLsbD s.params.wayBit1.toNat) ++ BitVec.ofBool (va.getLsbD s.params.wayBit0.toNat)

/-- The address check of an Index operation: no translation, only an Address Error (R198). -/
def State.indexCheck (s : State) (va : DWord) : Res Unit :=
  match s.segment? va with
  | none => .refuse .reservedMode
  | some .addressError => .exc (.addressError .load va) s
  | some _ => .ok () s

/-- The replacement bits of a set move by an open amount, past locked valid lines (R189: they change when a CACHE
instruction is executed; log entry 37). -/
def State.moveFifo (s : State) (c : CacheId) (set : BitVec 8) : State :=
  let f := firstWay ((s.cache c).replaceable s.locking set) ((s.cache c).fifoOf set + s.choice)
  { s.setCache c ((s.cache c).setFifo set f) with choices := s.choices.tail }

/-- Index Invalidate (I), Index Write Back Invalidate (D) (R191). -/
def State.indexInvalidate (s : State) (c : CacheId) (va : DWord) : Res Unit :=
  (s.castOut c (setOf va) (s.wayOf va)).bind fun _ s =>
    .ok () ((s.dropLine c (setOf va) (s.wayOf va)).moveFifo c (setOf va))

/-- Index Load Tag (R192). PTagLo1 is bit 11 of the index (R184). RWNT is kept. -/
def State.indexLoadTag (s : State) (c : CacheId) (va : DWord) : State :=
  let l := (s.cache c).line (setOf va) (s.wayOf va)
  let f := (s.cache c).fifoOf (setOf va)
  let lock := l.lock && s.wayOf va != 0#2
  let state : BitVec 2 := if l.valid then 3#2 else 0#2
  let t := { s with cp0 := { s.cp0 with
    tagLo := l.tag ++ state ++ s.cp0.tagLo.extractLsb' 3 3 ++ BitVec.ofBool lock ++ f.extractLsb' 0 1 ++ 0#1
    tagHi := f.extractLsb' 1 1 ++ BitVec.ofBool (va.getLsbD 11) ++ 0#30 } }
  t.moveFifo c (setOf va)

/-- TagLo.PState (11_cp0_registers.md R101). -/
def State.pState (s : State) : BitVec 2 := s.cp0.tagLo.extractLsb' 6 2

/-- The replacement bits F1 F0 of TagHi and TagLo. -/
def State.tagFifo (s : State) : BitVec 2 := s.cp0.tagHi.extractLsb' 31 1 ++ s.cp0.tagLo.extractLsb' 1 1

/-- The line Index Store Tag leaves (R193): tag, state and lock from TagLo, no lock in way 0, W cleared (U18), the data
kept. -/
def State.storedTag (s : State) (l : CacheLine) (way : BitVec 2) (valid : Bool) : CacheLine :=
  { l with
    tag := s.cp0.tagLo.extractLsb' 8 24
    valid := valid
    lock := s.cp0.tagLo.getLsbD 2 && way != 0#2
    dirty := false }

/-- Index Store Tag (R193). A reserved state is refused in the data cache (U16); in the instruction cache, which has one
valid bit, it leaves a free one (log entry 50). -/
def State.indexStoreTag (s : State) (c : CacheId) (va : DWord) : Res Unit :=
  let reserved := s.pState = 1#2 ∨ s.pState = 2#2
  if c = .data ∧ reserved then .refuse .reservedCacheState
  else
    let valid := if reserved then (s.fresh .result).getLsbD 0 else s.pState == 3#2
    let way := s.wayOf va
    let cache := (s.cache c).setLine (setOf va) way (s.storedTag ((s.cache c).line (setOf va) way) way valid)
    .ok () (s.setCache c (cache.setFifo (setOf va) s.tagFifo))

/-! ## Operations on a translated address (R194 to R197) -/

/-- Set Status.CH (R196). -/
def State.setCh (s : State) (hit : Bool) : State :=
  { s with cp0 := { s.cp0 with status := putBit s.cp0.status 18 hit } }

/-- Mark a way's line clean. -/
def State.cleanLine (s : State) (c : CacheId) (set : BitVec 8) (way : BitVec 2) : State :=
  s.setCache c ((s.cache c).setLine set way { (s.cache c).line set way with dirty := false })

/-- A Hit operation: `onHit` on the way that holds the address; Status.CH tells whether one does (R195, R196); a
multi-hit is refused (U19). -/
def State.hitOp (s : State) (c : CacheId) (va : DWord) (onHit : BitVec 2 → State → Res Unit) : Res Unit :=
  (s.translate .load va).bind fun p s =>
    match (s.cache c).hits (setOf va) (tagOf p.pa) with
    | [] => .ok () ((s.setCh false).moveFifo c (setOf va))
    | [w] => (onHit w s).bind fun _ s => .ok () ((s.setCh true).moveFifo c (setOf va))
    | _ :: _ :: _ => .refuse .cacheMultiHit

/-- Hit Invalidate (R195). -/
def State.hitInvalidate (s : State) (c : CacheId) (va : DWord) : Res Unit :=
  s.hitOp c va fun w s => .ok () (s.dropLine c (setOf va) w)

/-- Hit Write Back Invalidate (D) (R196). -/
def State.hitWriteBackInvalidate (s : State) (va : DWord) : Res Unit :=
  s.hitOp .data va fun w s =>
    (s.castOut .data (setOf va) w).bind fun _ s => .ok () (s.dropLine .data (setOf va) w)

/-- Hit Write Back (D) (R196). -/
def State.hitWriteBack (s : State) (va : DWord) : Res Unit :=
  s.hitOp .data va fun w s =>
    (s.castOut .data (setOf va) w).bind fun _ s => .ok () (s.cleanLine .data (setOf va) w)

/-- Create Dirty Exclusive (D) (R194): on a hit the line becomes dirty; on a miss the victim way is written back and
takes the tag, its data kept. That the replacement bits then move as after a refill is a choice (log entry 37), that in
debug mode the L bit of the way is then cleared as by a refill (log entry 64), and that an address of the reserved range
gets its line as any other, to be written back to plain memory (log entry 53). -/
def State.createDirty (s : State) (va : DWord) : Res Unit :=
  (s.translate .load va).bind fun p s =>
    match s.dcache.hits (setOf va) (tagOf p.pa) with
    | [w] =>
      let l := s.dcache.line (setOf va) w
      let t := { s with dcache := s.dcache.setLine (setOf va) w { l with dirty := true } }
      .ok () (t.moveFifo .data (setOf va))
    | [] =>
      let w := s.dcache.victim s.locking (setOf va) s.choice
      (s.castOut .data (setOf va) w).bind fun _ s =>
        .ok () (s.placeLine .data (setOf va) w (tagOf p.pa) (s.dcache.line (setOf va) w).data true)
    | _ :: _ :: _ => .refuse .cacheMultiHit

/-- Fill (R197): the way the replacement bits name is refilled; a line valid in another way is refused (U19). -/
def State.fill (s : State) (k : AccessKind) (c : CacheId) (va : DWord) : Res Unit :=
  (s.translate .load va).bind fun p s =>
    let w := (s.cache c).fifoWay s.locking (setOf va)
    if ((s.cache c).hits (setOf va) (tagOf p.pa)).any (· != w) then .refuse .cacheMultiHit
    else s.fillWay k c (setOf va) w p.pa

/-! ## The instruction -/

/-- A CACHE operation on an address; an undefined one does nothing after the address check (U17). A bus error of a Fill
is a data bus error: the bus operation belongs to the CACHE instruction, not to a fetch (log entry 50). -/
def State.cacheOp (s : State) (op : CacheOp) (va : DWord) : Res Unit :=
  match op with
  | .indexInvalidateI => (s.indexCheck va).bind fun _ s => s.indexInvalidate .inst va
  | .indexWriteBackInvalidateD => (s.indexCheck va).bind fun _ s => s.indexInvalidate .data va
  | .indexLoadTagI => (s.indexCheck va).bind fun _ s => .ok () (s.indexLoadTag .inst va)
  | .indexLoadTagD => (s.indexCheck va).bind fun _ s => .ok () (s.indexLoadTag .data va)
  | .indexStoreTagI => (s.indexCheck va).bind fun _ s => s.indexStoreTag .inst va
  | .indexStoreTagD => (s.indexCheck va).bind fun _ s => s.indexStoreTag .data va
  | .createDirtyExclusiveD => s.createDirty va
  | .hitInvalidateI => s.hitInvalidate .inst va
  | .hitInvalidateD => s.hitInvalidate .data va
  | .fillI => s.fill .load .inst va
  | .hitWriteBackInvalidateD => s.hitWriteBackInvalidate va
  | .hitWriteBackD => s.hitWriteBack va
  | .fillD => s.fill .load .data va
  | .undefined _ => s.indexCheck va

/-- The end of a CACHE operation; in debug mode a TLB or bus error condition only sets Debug.TLF or Debug.BsF
(60_exceptions.md R663, which speaks of loads and stores: a choice, log entry 27). -/
def cacheThen (r : Res Unit) (s : State) : Out :=
  match r with
  | .exc x t => if s.debugMode && x.maskedInDebug then .next (t.flagMasked x).advance else raise x t
  | r => r.elim fun _ t => .next t.advance

/-- CACHE (46_cp0_instructions.md R494). -/
def execCache (op : CacheOp) (offset : BitVec 16) (base : RegNum) (s : State) : Out :=
  needs 0#2 s (cacheThen (s.cacheOp op (s.effAddr base offset)) s)

end Sys2Proof.Machine
end

