-- ==== Sys2Proof/Machine/JumpBranch.lean ====
section
/-! DEFINITION. Jumps and branches (spec/43_jump_branch.md). A control transfer in the delay slot of a taken branch or
jump is refused (R382, U21). -/

namespace Sys2Proof.Machine

/-! ## Shapes -/

/-- The link value: the address after the delay slot (R385). -/
def State.linkPc (s : State) : DWord := s.pc + 8#64

/-- An ordinary branch (R380, R381). -/
def branch (taken : Bool) (offset : BitVec 16) (s : State) : Out :=
  noSlot s (.next (if taken then s.branchTo (branchTarget s.pc offset) else s.advance))

/-- A branch-likely (R383). -/
def branchLikely (taken : Bool) (offset : BitVec 16) (s : State) : Out :=
  noSlot s (.next (if taken then s.branchTo (branchTarget s.pc offset) else s.skipSlot))

/-- GPR rs <= 0, signed (R390). -/
def State.lez (s : State) (rs : RegNum) : Bool := (s.rget rs).sle 0#64
/-- GPR rs > 0, signed (R391). -/
def State.gtz (s : State) (rs : RegNum) : Bool := (0#64).slt (s.rget rs)
/-- GPR rs < 0, signed (R392). -/
def State.ltz (s : State) (rs : RegNum) : Bool := (s.rget rs).getLsbD 63
/-- GPR rs >= 0, signed (R393). -/
def State.gez (s : State) (rs : RegNum) : Bool := !(s.rget rs).getLsbD 63

/-! ## Jumps -/

/-- J (R384). -/
def execJ (target : BitVec 26) (s : State) : Out := noSlot s (.next (s.branchTo (jumpTarget s.pc target)))

/-- JAL (R385). -/
def execJal (target : BitVec 26) (s : State) : Out :=
  noSlot s (.next ((s.setGpr 31#5 s.linkPc).branchTo (jumpTarget s.pc target)))

/-- JR (R386). -/
def execJr (rs : RegNum) (s : State) : Out := noSlot s (.next (s.branchTo (s.rget rs)))

/-- JALR: rs is read before rd is written (R387). -/
def execJalr (rd rs : RegNum) (s : State) : Out := noSlot s (.next ((s.setGpr rd s.linkPc).branchTo (s.rget rs)))

/-! ## Conditional branches -/

/-- BEQ (R388). -/
def execBeq (rs rt : RegNum) (offset : BitVec 16) (s : State) : Out := branch (s.rget rs == s.rget rt) offset s

/-- BNE (R389). -/
def execBne (rs rt : RegNum) (offset : BitVec 16) (s : State) : Out := branch (s.rget rs != s.rget rt) offset s

/-- BEQL (R396). -/
def execBeql (rs rt : RegNum) (offset : BitVec 16) (s : State) : Out := branchLikely (s.rget rs == s.rget rt) offset s

/-- BNEL (R397). -/
def execBnel (rs rt : RegNum) (offset : BitVec 16) (s : State) : Out := branchLikely (s.rget rs != s.rget rt) offset s

/-- BLEZ (R390). -/
def execBlez (rs : RegNum) (offset : BitVec 16) (s : State) : Out := branch (s.lez rs) offset s

/-- BGTZ (R391). -/
def execBgtz (rs : RegNum) (offset : BitVec 16) (s : State) : Out := branch (s.gtz rs) offset s

/-- BLEZL (R398). -/
def execBlezl (rs : RegNum) (offset : BitVec 16) (s : State) : Out := branchLikely (s.lez rs) offset s

/-- BGTZL (R399). -/
def execBgtzl (rs : RegNum) (offset : BitVec 16) (s : State) : Out := branchLikely (s.gtz rs) offset s

/-- BLTZ (R392). -/
def execBltz (rs : RegNum) (offset : BitVec 16) (s : State) : Out := branch (s.ltz rs) offset s

/-- BGEZ (R393). -/
def execBgez (rs : RegNum) (offset : BitVec 16) (s : State) : Out := branch (s.gez rs) offset s

/-- BLTZL (R400). -/
def execBltzl (rs : RegNum) (offset : BitVec 16) (s : State) : Out := branchLikely (s.ltz rs) offset s

/-- BGEZL (R401). -/
def execBgezl (rs : RegNum) (offset : BitVec 16) (s : State) : Out := branchLikely (s.gez rs) offset s

/-- BLTZAL: rs is read before r31 is written, and r31 is written whether or not the branch is taken (R394). -/
def execBltzal (rs : RegNum) (offset : BitVec 16) (s : State) : Out :=
  branch (s.ltz rs) offset (s.setGpr 31#5 s.linkPc)

/-- BGEZAL: rs is read before r31 is written, and r31 is written whether or not the branch is taken (R395). -/
def execBgezal (rs : RegNum) (offset : BitVec 16) (s : State) : Out :=
  branch (s.gez rs) offset (s.setGpr 31#5 s.linkPc)

/-- BLTZALL: rs is read before r31 is written, and r31 is written whether or not the branch is taken (R402). -/
def execBltzall (rs : RegNum) (offset : BitVec 16) (s : State) : Out :=
  branchLikely (s.ltz rs) offset (s.setGpr 31#5 s.linkPc)

/-- BGEZALL: rs is read before r31 is written, and r31 is written whether or not the branch is taken (R403). -/
def execBgezall (rs : RegNum) (offset : BitVec 16) (s : State) : Out :=
  branchLikely (s.gez rs) offset (s.setGpr 31#5 s.linkPc)

end Sys2Proof.Machine
end

