-- ==== Sys2Proof/Machine/Cop0.lean ====
section
/-! DEFINITION. The CP0 instructions but CACHE (spec/46_cp0_instructions.md), the coprocessor 0 branches
(spec/45_coprocessor.md R468 to R471), and the reads and writes of the CP0 registers (spec/11_cp0_registers.md). -/

namespace Sys2Proof.Machine

/-! ## Reading a register (R490, R492) -/

/-- CP0 register `r` as DMFC0 reads it: a 64-bit register whole, a 32-bit register sign-extended (R62, D5); the
reserved numbers read 0 (D6). -/
def State.readCp0 (s : State) (r : Cop0RegNum) : DWord :=
  match r.toNat with
  | 0 => sext32 s.cp0.index
  | 1 => s.cp0.random.setWidth 64
  | 2 => s.cp0.entryLo0
  | 3 => s.cp0.entryLo1
  | 4 => s.cp0.context
  | 5 => sext32 s.cp0.pageMask
  | 6 => s.cp0.wired.setWidth 64
  | 8 => s.cp0.badVAddr
  | 9 => sext32 s.cp0.count
  | 10 => s.cp0.entryHi
  | 11 => sext32 s.cp0.compare
  | 12 => sext32 s.cp0.status
  | 13 => sext32 s.causeWord
  | 14 => s.cp0.epc
  | 15 => sext32 s.prid
  | 16 => sext32 s.cp0.config
  | 17 => sext32 s.cp0.llAddr
  | 20 => s.cp0.xContext
  | 23 => sext32 s.cp0.debug
  | 24 => s.cp0.depc
  | 28 => sext32 s.cp0.tagLo
  | 29 => sext32 s.cp0.tagHi
  | 30 => s.cp0.errorEpc
  | 31 => s.cp0.desave
  | _ => 0#64

/-! ## Writing a register (R491, R493, 11_cp0_registers.md R105, D4) -/

/-- `old` with the bits of `mask` taken from `v`. -/
def writeMasked {n : Nat} (mask old v : BitVec n) : BitVec n := (old &&& ~~~mask) ||| (v &&& mask)

/-- Writable bits of Index (R63). -/
def maskIndex : BitVec 32 := 0x8000003F#32
/-- Writable bits of EntryLo0 and EntryLo1 (R65). -/
def maskEntryLo : BitVec 64 := 0x00000000FFFFFFFF#64
/-- Writable bits of Context: PTEBase (R67). -/
def maskContext : BitVec 64 := 0xFFFFFFFFFF800000#64
/-- Writable bits of PageMask (R68). -/
def maskPageMask : BitVec 32 := 0x01FFE000#32
/-- Writable bits of EntryHi: R, VPN2, ASID (R70). -/
def maskEntryHi : BitVec 64 := 0xC00000FFFFFFE0FF#64
/-- Writable bits of Status (R80). -/
def maskStatus : BitVec 32 := 0xF654FFFF#32
/-- Writable bits of Cause: IP[1:0] (R94). -/
def maskCause : BitVec 32 := 0x00000300#32
/-- Writable bits of Config: HALT, ICE#, DCE#, K0 (R99). -/
def maskConfig : BitVec 32 := 0x00070007#32
/-- Writable bits of XContext: PTEBase and R (R71). -/
def maskXContext : BitVec 64 := 0xFFFFFFFF80000000#64
/-- Bits of Debug a write sets and clears: SSt, JtagRst (R102). -/
def maskDebug : BitVec 32 := 0x00000180#32
/-- Bits of Debug a write only clears: TLF, BsF (R102). -/
def maskDebugClear : BitVec 32 := 0x00000C00#32
/-- Writable bits of TagLo (R101). -/
def maskTagLo : BitVec 32 := 0xFFFFFFFE#32
/-- Writable bits of TagHi (R101). -/
def maskTagHi : BitVec 32 := 0xC0000000#32

/-- Status written: a changed FR leaves every FGR free (U2). -/
def State.writeStatus (s : State) (v : Word) : State :=
  let new := writeMasked maskStatus s.cp0.status v
  let t := { s with cp0 := { s.cp0 with status := new } }
  if new.getLsbD 26 = s.fr then t else t.spoilFgrs

/-- Count written: the timer latch is set if Count takes the value of Compare (61_interrupts_platform.md R707, log
entry 30). -/
def State.writeCount (s : State) (v : Word) : State :=
  { s with
    cp0 := { s.cp0 with count := v }
    plat := { s.plat with timerInt := s.plat.timerInt || v == s.cp0.compare } }

/-- Compare written: the timer latch is cleared (R74). -/
def State.writeCompare (s : State) (v : Word) : State :=
  { s with
    cp0 := { s.cp0 with compare := v }
    plat := { s.plat with timerInt := false } }

/-- Debug written (R102): SSt and JtagRst take the value, TLF and BsF are cleared by 0, the rest is read only. -/
def debugWritten (old v : BitVec 32) : BitVec 32 :=
  writeMasked maskDebug old v &&& (v ||| ~~~maskDebugClear)

/-- CP0 register `r` written by DMTC0 with `v`, under the field rules of the register. Random, BadVAddr, PRId and the
reserved numbers ignore the write (R491, D6). -/
def State.writeCp0 (s : State) (r : Cop0RegNum) (v : DWord) : State :=
  let w := low32 v
  match r.toNat with
  | 0 => { s with cp0 := { s.cp0 with index := writeMasked maskIndex s.cp0.index w } }
  | 2 => { s with cp0 := { s.cp0 with entryLo0 := writeMasked maskEntryLo s.cp0.entryLo0 v } }
  | 3 => { s with cp0 := { s.cp0 with entryLo1 := writeMasked maskEntryLo s.cp0.entryLo1 v } }
  | 4 => { s with cp0 := { s.cp0 with context := writeMasked maskContext s.cp0.context v } }
  | 5 => { s with cp0 := { s.cp0 with pageMask := writeMasked maskPageMask s.cp0.pageMask w } }
  | 6 => { s with cp0 := { s.cp0 with wired := w.extractLsb' 0 6, random := 47#6 } }
  | 9 => s.writeCount w
  | 10 => { s with cp0 := { s.cp0 with entryHi := writeMasked maskEntryHi s.cp0.entryHi v } }
  | 11 => s.writeCompare w
  | 12 => s.writeStatus w
  | 13 => { s with cp0 := { s.cp0 with cause := writeMasked maskCause s.cp0.cause w } }
  | 14 => { s with cp0 := { s.cp0 with epc := v } }
  | 16 => { s with cp0 := { s.cp0 with config := writeMasked maskConfig s.cp0.config w } }
  | 17 => { s with cp0 := { s.cp0 with llAddr := w } }
  | 20 => { s with cp0 := { s.cp0 with xContext := writeMasked maskXContext s.cp0.xContext v } }
  | 23 => { s with cp0 := { s.cp0 with debug := debugWritten s.cp0.debug w } }
  | 24 => { s with cp0 := { s.cp0 with depc := v } }
  | 28 => { s with cp0 := { s.cp0 with tagLo := writeMasked maskTagLo s.cp0.tagLo w } }
  | 29 => { s with cp0 := { s.cp0 with tagHi := writeMasked maskTagHi s.cp0.tagHi w } }
  | 30 => { s with cp0 := { s.cp0 with errorEpc := v } }
  | 31 => { s with cp0 := { s.cp0 with desave := v } }
  | _ => s

/-! ## Moves -/

/-- MFC0 (R490). -/
def execMfc0 (rt : RegNum) (rd : Cop0RegNum) (s : State) : Out := needs 0#2 s (setReg rt (sext32 (low32 (s.readCp0 rd))) s)

/-- MTC0 (R491). -/
def execMtc0 (rt : RegNum) (rd : Cop0RegNum) (s : State) : Out :=
  needs 0#2 s (.next (s.writeCp0 rd (sext32 (s.rget32 rt))).advance)

/-- DMFC0 (R492). -/
def execDmfc0 (rt : RegNum) (rd : Cop0RegNum) (s : State) : Out := wide s (needs 0#2 s (setReg rt (s.readCp0 rd) s))

/-- DMTC0 (R493). -/
def execDmtc0 (rt : RegNum) (rd : Cop0RegNum) (s : State) : Out :=
  wide s (needs 0#2 s (.next (s.writeCp0 rd (s.rget rt)).advance))

/-! ## TLB instructions -/

/-- A page as an EntryLo register shows it, WCE 0 (R495). -/
def TlbPage.entryLo (p : TlbPage) (g : Bool) : BitVec 64 :=
  0#34 ++ p.pfn ++ p.c ++ BitVec.ofBool p.d ++ BitVec.ofBool p.v ++ BitVec.ofBool g

/-- The page an EntryLo register describes (R496). -/
def pageOfEntryLo (x : BitVec 64) : TlbPage :=
  { pfn := x.extractLsb' 6 24, c := x.extractLsb' 3 3, d := x.getLsbD 2, v := x.getLsbD 1 }

/-- The TLB entry the registers describe (R496). -/
def State.newTlbEntry (s : State) : TlbEntry :=
  { mask := s.cp0.pageMask.extractLsb' 13 12
    r := s.cp0.entryHi.extractLsb' 62 2
    vpn2 := s.cp0.entryHi.extractLsb' 13 27
    g := s.cp0.entryLo0.getLsbD 0 && s.cp0.entryLo1.getLsbD 0
    asid := s.asid
    even := pageOfEntryLo s.cp0.entryLo0
    odd := pageOfEntryLo s.cp0.entryLo1 }

/-- The registers TLBR loads from an entry (R495). -/
def Cp0.loadTlb (c : Cp0) (e : TlbEntry) : Cp0 :=
  { c with
    pageMask := 0#7 ++ e.mask ++ 0#13
    entryHi := e.r ++ 0#22 ++ e.vpn2 ++ 0#5 ++ e.asid
    entryLo0 := e.even.entryLo e.g
    entryLo1 := e.odd.entryLo e.g }

/-- The registers TLBR loads where Index names no entry: free values in the fields (U7). -/
def State.loadNoTlb (s : State) : Cp0 :=
  { s.cp0 with
    pageMask := (s.fresh .pageMask).extractLsb' 0 32 &&& maskPageMask
    entryHi := s.fresh .entryHi &&& maskEntryHi
    entryLo0 := s.fresh .entryLo0 &&& 0x3FFFFFFF#64
    entryLo1 := s.fresh .entryLo1 &&& 0x3FFFFFFF#64 }

/-- Write TLB entry `i`. -/
def State.setTlb (s : State) (i : Fin 48) (e : TlbEntry) : State := { s with tlb := s.tlb.set i.val e i.isLt }

/-- Write the entry the registers describe at index `i`; an index above 47 names no entry and nothing is written (U7);
a MASK that is no page size is refused (U9). -/
def writeTlb (i : BitVec 6) (s : State) : Out :=
  if h : i.toNat < 48 then
    if legalMask s.newTlbEntry.mask then .next (s.setTlb ⟨i.toNat, h⟩ s.newTlbEntry).advance
    else .refused .tlbBadMask
  else .next s.advance

/-- Index.Index. -/
def State.indexField (s : State) : BitVec 6 := s.cp0.index.extractLsb' 0 6

/-- TLBR (R495). -/
def execTlbr (s : State) : Out :=
  needs 0#2 s
    (.next
      (if h : s.indexField.toNat < 48 then { s with cp0 := s.cp0.loadTlb (s.tlb[s.indexField.toNat]'h) }
       else { s with cp0 := s.loadNoTlb }).advance)

/-- TLBWI (R496). -/
def execTlbwi (s : State) : Out := needs 0#2 s (writeTlb s.indexField s)

/-- TLBWR (R497). -/
def execTlbwr (s : State) : Out := needs 0#2 s (writeTlb s.cp0.random s)

/-- Index after TLBP found entry `i`. -/
def indexFound (i : Fin 48) : BitVec 32 := BitVec.ofNat 32 i.val

/-- Index after TLBP found nothing: P set, the index free (U23). -/
def State.indexMissed (s : State) : BitVec 32 := 1#1 ++ 0#25 ++ (s.fresh .index).extractLsb' 0 6

/-- TLBP (R498); several matches are refused (U15). -/
def execTlbp (s : State) : Out :=
  needs 0#2 s
    (match s.tlbMatches (s.cp0.entryHi.extractLsb' 62 2) (s.cp0.entryHi.extractLsb' 13 27) with
     | [] => .next { s with cp0 := { s.cp0 with index := s.indexMissed } }.advance
     | [i] => .next { s with cp0 := { s.cp0 with index := indexFound i } }.advance
     | _ :: _ :: _ => .refused .tlbMultiMatch)

/-! ## ERET and WAIT -/

/-- ERET (R500). -/
def execEret (s : State) : Out := needs 0#2 s (noSlot s (.next s.eret))

/-- Enter Halt or Doze (R501, 61_interrupts_platform.md R721). -/
def State.sleep (s : State) : State :=
  { s with plat := { s.plat with power := if s.haltBit then .doze else .halt } }

/-- WAIT (R501): the write buffer is emptied, then the processor sleeps; it wakes at the next instruction. -/
def execWait (s : State) : Out := needs 0#2 s (s.flushed.elim fun _ t => .next t.advance.sleep)

/-! ## Coprocessor 0 branches (45_coprocessor.md R468 to R471) -/

/-- CpCond0: the write buffer is empty (20_memory.md R163). -/
def State.cpCond0 (s : State) : Bool := s.wbuf.isEmpty

/-- BC0F (R468). -/
def execBc0f (offset : BitVec 16) (s : State) : Out := needs 0#2 s (branch (!s.cpCond0) offset s)

/-- BC0T (R469). -/
def execBc0t (offset : BitVec 16) (s : State) : Out := needs 0#2 s (branch s.cpCond0 offset s)

/-- BC0FL (R470). -/
def execBc0fl (offset : BitVec 16) (s : State) : Out := needs 0#2 s (branchLikely (!s.cpCond0) offset s)

/-- BC0TL (R471). -/
def execBc0tl (offset : BitVec 16) (s : State) : Out := needs 0#2 s (branchLikely s.cpCond0 offset s)

end Sys2Proof.Machine
end

