-- ==== Sys2Proof/Machine/LoadStore.lean ====
section
/-! DEFINITION. The loads and stores of the CPU (spec/40_load_store.md). -/

namespace Sys2Proof.Machine

/-! ## Completing a load or a store -/

/-- A load whose read fails goes on with its destination free, its error to be reported later (20_memory.md R166,
60_exceptions.md R651). `also` is the rest of what the load does: that a linked load then sets LLbit and LLAddr, which the
report takes back where it names the load itself (R630), is a choice (log entry 27). -/
def goesOn (s t : State) (dest : LoadDest) (also : State → State) : State :=
  { ((also t).spoilDest dest (s.fresh .result)).advance with
    lateError := some {
      pc := s.pc, delaySlot := s.delaySlot, llbit := s.llbit, llAddr := s.cp0.llAddr, dest := dest, arrived := false
      fresh := true } }

/-- A data bus error of a load outside debug mode: that of the load before it, its own reported late or at once, where the
environment says (log entry 33). The destination is free (U27). -/
def loadFailed (s t : State) (dest : LoadDest) (also : State → State) : Out :=
  if s.lateError.isSome then raise .busErrorData t
  else if t.env.lateErrors then .next (goesOn s t dest also)
  else raise .busErrorData (t.spoilDest dest (s.fresh .result))

/-- Go on with a load's physical address and value. In debug mode a TLB or bus error condition raises nothing: it sets
Debug.TLF or Debug.BsF, the destination `dest` is free, and `also` is the rest of what the load does (60_exceptions.md
R663, U27). -/
def loadThen (r : Res (PAddr × DWord)) (s : State) (dest : LoadDest) (also : State → State)
    (k : PAddr × DWord → State → Out) : Out :=
  match r with
  | .exc x t =>
    if s.debugMode && x.maskedInDebug then
      .next ((also (t.flagMasked x)).spoilDest dest (s.fresh .result)).advance
    else if x = .busErrorData then loadFailed s t dest also
    else raise x t
  | r => r.elim k

/-- A load to GPR rt of `f` of the value read. -/
def loadGpr (rt : RegNum) (r : Res (PAddr × DWord)) (s : State) (f : DWord → DWord) : Out :=
  loadThen r s (.gpr rt) id fun v t => setReg rt (f v.2) t

/-- The store that debug mode may let through although its condition `x` was masked (U27): past the D bit, and past
the cache where the refill failed. -/
def State.storeMasked (s : State) (x : Exc) (va start : DWord) (n : Nat) (v : DWord) : Res Unit :=
  (s.translateWith .store false va).bind fun p s =>
    s.storePhysical va
      { pa := withOffset p.pa start, attr := if x = .busErrorData then attrUncached else p.attr } n v

/-- Go on with a store whose condition `x` debug mode has masked: whether it is performed is free (U27), where there is an
address to store to. `tries` conditions more are masked in turn: a store past the D bit can meet a refill that fails. The
state goes on from what the access has left, a way that a failed refill made invalid among it (21_cache.md R185). -/
def storeOrNot (tries : Nat) (x : Exc) (s : State) (va start : DWord) (n : Nat) (v : DWord) (k : State → Out) : Out :=
  match tries with
  | 0 => k s
  | tries + 1 =>
    if (s.fresh .performed).getLsbD tries then
      match s.storeMasked x va start n v with
      | .exc y t => storeOrNot tries y (t.flagMasked y) va start n v k
      | r => r.elim fun _ t => k t
    else k s

/-- Perform a store and go on. In debug mode a TLB or bus error condition raises nothing and sets Debug.TLF or
Debug.BsF, also where the store then waits for the buffer (60_exceptions.md R663, U27). -/
def storeThen (r : Res Unit) (s : State) (va start : DWord) (n : Nat) (v : DWord) (k : State → Out) : Out :=
  match r with
  | .exc x t =>
    if s.debugMode && x.maskedInDebug then storeOrNot 2 x (t.flagMasked x) va start n v k else raise x t
  | r => r.elim fun _ u => k u

/-- An aligned store that goes on with `k`. -/
def storeAligned (va : DWord) (n : Nat) (v : DWord) (s : State) (k : State → Out) : Out :=
  storeThen (s.store true va n v) s va va n v k

/-- The end of a store. -/
def stored (t : State) : Out := .next t.advance

/-! ## Extensions of a loaded value -/

/-- `sext_64` of the low `8 * n` bits. -/
def sextBytes (n : Nat) (v : DWord) : DWord := (v.setWidth (8 * n)).signExtend 64

/-- `zext_64` of the low `8 * n` bits. -/
def zextBytes (n : Nat) (v : DWord) : DWord := (v.setWidth (8 * n)).setWidth 64

/-! ## Aligned loads (R262 to R268) -/

/-- An aligned load of `n` bytes, sign-extended, to GPR rt. -/
def loadSigned (rt : RegNum) (offset : BitVec 16) (base : RegNum) (n : Nat) (s : State) : Out :=
  loadGpr rt (s.load (s.effAddr base offset) n) s (sextBytes n)

/-- An aligned load of `n` bytes, zero-extended, to GPR rt. -/
def loadUnsigned (rt : RegNum) (offset : BitVec 16) (base : RegNum) (n : Nat) (s : State) : Out :=
  loadGpr rt (s.load (s.effAddr base offset) n) s (zextBytes n)

/-- LB (R262). -/
def execLb (rt : RegNum) (offset : BitVec 16) (base : RegNum) (s : State) : Out := loadSigned rt offset base 1 s

/-- LBU (R263). -/
def execLbu (rt : RegNum) (offset : BitVec 16) (base : RegNum) (s : State) : Out := loadUnsigned rt offset base 1 s

/-- LH (R264). -/
def execLh (rt : RegNum) (offset : BitVec 16) (base : RegNum) (s : State) : Out := loadSigned rt offset base 2 s

/-- LHU (R265). -/
def execLhu (rt : RegNum) (offset : BitVec 16) (base : RegNum) (s : State) : Out := loadUnsigned rt offset base 2 s

/-- LW (R266). -/
def execLw (rt : RegNum) (offset : BitVec 16) (base : RegNum) (s : State) : Out := loadSigned rt offset base 4 s

/-- LWU (R267). -/
def execLwu (rt : RegNum) (offset : BitVec 16) (base : RegNum) (s : State) : Out :=
  wide s (loadUnsigned rt offset base 4 s)

/-- LD (R268). -/
def execLd (rt : RegNum) (offset : BitVec 16) (base : RegNum) (s : State) : Out :=
  wide s (loadSigned rt offset base 8 s)

/-! ## Aligned stores (R269 to R272) -/

/-- An aligned store of the low `n` bytes of GPR rt. -/
def storeGpr (rt : RegNum) (offset : BitVec 16) (base : RegNum) (n : Nat) (s : State) : Out :=
  storeAligned (s.effAddr base offset) n (s.rget rt) s stored

/-- SB (R269). -/
def execSb (rt : RegNum) (offset : BitVec 16) (base : RegNum) (s : State) : Out := storeGpr rt offset base 1 s

/-- SH (R270). -/
def execSh (rt : RegNum) (offset : BitVec 16) (base : RegNum) (s : State) : Out := storeGpr rt offset base 2 s

/-- SW (R271). -/
def execSw (rt : RegNum) (offset : BitVec 16) (base : RegNum) (s : State) : Out := storeGpr rt offset base 4 s

/-- SD (R272). -/
def execSd (rt : RegNum) (offset : BitVec 16) (base : RegNum) (s : State) : Out := wide s (storeGpr rt offset base 8 s)

/-! ## Left and right (R285) -/

/-- `byte` of R285: the position of the addressed byte in the aligned block of `w` bytes, counted from the least
significant end. -/
def blockByte (be : Bool) (w : Nat) (va : DWord) : Nat :=
  let b := va.toNat % w
  if be then (w - 1) - b else b

/-- The address with its offset in the aligned block of `w` bytes cleared (w a power of two). -/
def alignDown (w : Nat) (va : DWord) : DWord := va - BitVec.ofNat 64 (va.toNat % w)

/-- The number of bytes of a left access. -/
def leftCount (be : Bool) (w : Nat) (va : DWord) : Nat := blockByte be w va + 1
/-- The first address of a left access. -/
def leftStart (be : Bool) (w : Nat) (va : DWord) : DWord := if be then va else alignDown w va
/-- The number of bytes of a right access. -/
def rightCount (be : Bool) (w : Nat) (va : DWord) : Nat := w - blockByte be w va
/-- The first address of a right access. -/
def rightStart (be : Bool) (w : Nat) (va : DWord) : DWord := if be then alignDown w va else va

/-- `v || old[..]`: `v` as the most significant `n` bytes. -/
def mergeLeft {m : Nat} (n : Nat) (old v : BitVec m) : BitVec m :=
  (v <<< (m - 8 * n)) ||| (old &&& ((1#m <<< (m - 8 * n)) - 1#m))

/-- `old[..] || v`: `v` as the least significant `n` bytes. -/
def mergeRight {m : Nat} (n : Nat) (old v : BitVec m) : BitVec m :=
  (old &&& ~~~((1#m <<< (8 * n)) - 1#m)) ||| v

/-- LWL (R273). -/
def execLwl (rt : RegNum) (offset : BitVec 16) (base : RegNum) (s : State) : Out :=
  let va := s.effAddr base offset
  let n := leftCount s.dataBe 4 va
  loadGpr rt (s.loadFrom va (leftStart s.dataBe 4 va) n) s fun v => sext32 (mergeLeft n (s.rget32 rt) (low32 v))

/-- LWR (R274). -/
def execLwr (rt : RegNum) (offset : BitVec 16) (base : RegNum) (s : State) : Out :=
  let va := s.effAddr base offset
  let n := rightCount s.dataBe 4 va
  loadGpr rt (s.loadFrom va (rightStart s.dataBe 4 va) n) s fun v => sext32 (mergeRight n (s.rget32 rt) (low32 v))

/-- LDL (R277). -/
def execLdl (rt : RegNum) (offset : BitVec 16) (base : RegNum) (s : State) : Out :=
  let va := s.effAddr base offset
  let n := leftCount s.dataBe 8 va
  wide s (loadGpr rt (s.loadFrom va (leftStart s.dataBe 8 va) n) s (mergeLeft n (s.rget rt)))

/-- LDR (R278). -/
def execLdr (rt : RegNum) (offset : BitVec 16) (base : RegNum) (s : State) : Out :=
  let va := s.effAddr base offset
  let n := rightCount s.dataBe 8 va
  wide s (loadGpr rt (s.loadFrom va (rightStart s.dataBe 8 va) n) s (mergeRight n (s.rget rt)))

/-- A store of `n` bytes at `start` under the translation of `va`, no alignment required. -/
def storeUnaligned (va start : DWord) (n : Nat) (v : DWord) (s : State) : Out :=
  storeThen (s.storeTo true va start n v) s va start n v stored

/-- SWL (R275). -/
def execSwl (rt : RegNum) (offset : BitVec 16) (base : RegNum) (s : State) : Out :=
  let va := s.effAddr base offset
  let n := leftCount s.dataBe 4 va
  storeUnaligned va (leftStart s.dataBe 4 va) n ((s.rget32 rt >>> (32 - 8 * n)).setWidth 64) s

/-- SWR (R276). -/
def execSwr (rt : RegNum) (offset : BitVec 16) (base : RegNum) (s : State) : Out :=
  let va := s.effAddr base offset
  storeUnaligned va (rightStart s.dataBe 4 va) (rightCount s.dataBe 4 va) (s.rget rt) s

/-- SDL (R279). -/
def execSdl (rt : RegNum) (offset : BitVec 16) (base : RegNum) (s : State) : Out :=
  let va := s.effAddr base offset
  let n := leftCount s.dataBe 8 va
  wide s (storeUnaligned va (leftStart s.dataBe 8 va) n (s.rget rt >>> (64 - 8 * n)) s)

/-- SDR (R280). -/
def execSdr (rt : RegNum) (offset : BitVec 16) (base : RegNum) (s : State) : Out :=
  let va := s.effAddr base offset
  wide s (storeUnaligned va (rightStart s.dataBe 8 va) (rightCount s.dataBe 8 va) (s.rget rt) s)

/-! ## Load linked, store conditional (R281 to R284) -/

/-- Set LLbit and LLAddr (20_memory.md R171). -/
def State.link (s : State) (pa : PAddr) : State :=
  { s with llbit := true, cp0 := { s.cp0 with llAddr := pa.extractLsb' 4 32 } }

/-- The link of a load that fails, masked in debug mode or reported late: to its physical address, to a free one where the
translation failed (log entry 27). -/
def State.linkFailed (s : State) (va : DWord) (t : State) : State :=
  match s.translate .load va with
  | .ok p _ => t.link p.pa
  | _ => t.link ((s.fresh .physAddr).extractLsb' 0 36)

/-- A linked load of `n` bytes. -/
def loadLinked (rt : RegNum) (offset : BitVec 16) (base : RegNum) (n : Nat) (s : State) : Out :=
  let va := s.effAddr base offset
  loadThen (s.load va n) s (.gpr rt) (s.linkFailed va) fun v t => setReg rt (sextBytes n v.2) (t.link v.1)

/-- A conditional store of `n` bytes (20_memory.md R172): the address checks whatever LLbit is, then the store if
LLbit is 1; GPR rt tells which. -/
def storeConditional (rt : RegNum) (offset : BitVec 16) (base : RegNum) (n : Nat) (s : State) : Out :=
  let va := s.effAddr base offset
  if s.llbit then storeAligned va n (s.rget rt) s fun t => setReg rt 1#64 t
  else
    let r := if aligned va n then (s.translate .store va).bind fun _ s => .ok () s
      else .exc (.addressError .store va) s
    match r with
    | .exc x t => if s.debugMode && x.maskedInDebug then setReg rt 0#64 (t.flagMasked x) else raise x t
    | r => r.elim fun _ t => setReg rt 0#64 t

/-- LL (R281). -/
def execLl (rt : RegNum) (offset : BitVec 16) (base : RegNum) (s : State) : Out := loadLinked rt offset base 4 s

/-- LLD (R282). -/
def execLld (rt : RegNum) (offset : BitVec 16) (base : RegNum) (s : State) : Out := wide s (loadLinked rt offset base 8 s)

/-- SC (R283). -/
def execSc (rt : RegNum) (offset : BitVec 16) (base : RegNum) (s : State) : Out := storeConditional rt offset base 4 s

/-- SCD (R284). -/
def execScd (rt : RegNum) (offset : BitVec 16) (base : RegNum) (s : State) : Out :=
  wide s (storeConditional rt offset base 8 s)

end Sys2Proof.Machine
end

