-- ==== Sys2Proof/Machine/Cop1Move.lean ====
section
/-! DEFINITION. The loads, stores, moves and branches of coprocessor 1 (spec/45_coprocessor.md R454 to R467). -/

namespace Sys2Proof.Machine

/-! ## Loads and stores (R454 to R457) -/

/-- A load to a floating-point register. -/
def loadFpr (dest : LoadDest) (write : DWord → State → State) (r : Res (PAddr × DWord)) (s : State) : Out :=
  loadThen r s dest id fun v t => .next (write v.2 t).advance

/-- LWC1 (R454). -/
def execLwc1 (ft : FpRegNum) (offset : BitVec 16) (base : RegNum) (s : State) : Out :=
  needs 1#2 s
    (loadFpr (.fgr ft) (fun v t => t.loadFgr ft (low32 v))
      (s.load (s.effAddr base offset) 4) s)

/-- SWC1 (R455). -/
def execSwc1 (ft : FpRegNum) (offset : BitVec 16) (base : RegNum) (s : State) : Out :=
  needs 1#2 s (storeAligned (s.effAddr base offset) 4 (s.fget ft) s stored)

/-- LDC1 (R456). -/
def execLdc1 (ft : FpRegNum) (offset : BitVec 16) (base : RegNum) (s : State) : Out :=
  needs 1#2 s
    (loadFpr (.fpr ft) (fun v t => t.setFpr64 ft v)
      (s.load (s.effAddr base offset) 8) s)

/-- SDC1 (R457). -/
def execSdc1 (ft : FpRegNum) (offset : BitVec 16) (base : RegNum) (s : State) : Out :=
  needs 1#2 s (storeAligned (s.effAddr base offset) 8 (s.fpr64 ft .operandA) s stored)

/-! ## Moves (R458 to R463) -/

/-- MTC1 (R458). -/
def execMtc1 (rt : RegNum) (fs : FpRegNum) (s : State) : Out := needs 1#2 s (.next (s.loadFgr fs (s.rget32 rt)).advance)

/-- MFC1 (R459). -/
def execMfc1 (rt : RegNum) (fs : FpRegNum) (s : State) : Out := needs 1#2 s (setReg rt (sext32 (low32 (s.fget fs))) s)

/-- DMTC1 (R460). -/
def execDmtc1 (rt : RegNum) (fs : FpRegNum) (s : State) : Out :=
  wide s (needs 1#2 s (.next (s.setFpr64 fs (s.rget rt)).advance))

/-- DMFC1 (R461). -/
def execDmfc1 (rt : RegNum) (fs : FpRegNum) (s : State) : Out :=
  wide s (needs 1#2 s (setReg rt (s.fpr64 fs .operandA) s))

/-- FCR31 written: the new value stands also when it raises the exception (R462). -/
def writeFcr31 (v : Word) (s : State) : Out :=
  if fcr31Traps v then raise .floatingPoint { s with fcr31 := v } else .next { s with fcr31 := v }.advance

/-- CTC1 (R462); FCR0 and FCR1 to FCR30 take no write (U5). -/
def execCtc1 (rt : RegNum) (fs : FpRegNum) (s : State) : Out :=
  needs 1#2 s (if fs = 31#5 then writeFcr31 (fcr31Legal (s.rget32 rt)) s else .next s.advance)

/-- FCR `fs` as CFC1 reads it; FCR1 to FCR30 are free (U5). -/
def State.fcr (s : State) (fs : FpRegNum) : DWord :=
  if fs = 0#5 then sext32 s.fcr0 else if fs = 31#5 then sext32 s.fcr31 else s.fresh .result

/-- CFC1 (R463). -/
def execCfc1 (rt : RegNum) (fs : FpRegNum) (s : State) : Out := needs 1#2 s (setReg rt (s.fcr fs) s)

/-! ## Branches (R464 to R467) -/

/-- BC1F (R464). -/
def execBc1f (offset : BitVec 16) (s : State) : Out := needs 1#2 s (branch (!s.fcc) offset s)

/-- BC1T (R465). -/
def execBc1t (offset : BitVec 16) (s : State) : Out := needs 1#2 s (branch s.fcc offset s)

/-- BC1FL (R466). -/
def execBc1fl (offset : BitVec 16) (s : State) : Out := needs 1#2 s (branchLikely (!s.fcc) offset s)

/-- BC1TL (R467). -/
def execBc1tl (offset : BitVec 16) (s : State) : Out := needs 1#2 s (branchLikely s.fcc offset s)

end Sys2Proof.Machine
end

