-- ==== Sys2Proof/Machine/Cop2.lean ====
section
/-! DEFINITION. Coprocessors 2 and 3, which the chip does not have (spec/45_coprocessor.md R452, R453, R472 to R487):
Coprocessor Unusable while the CU bit is 0; with the bit set the spec gives no effect (U22). -/

namespace Sys2Proof.Machine

/-- An instruction of the absent coprocessor z. -/
def copAbsent (z : BitVec 2) (s : State) : Out := needs z s (.refused (.coprocessorAbsent z))

/-- LWC2 (R472). -/
def execLwc2 (_rt : RegNum) (_offset : BitVec 16) (_base : RegNum) (s : State) : Out := copAbsent 2#2 s

/-- SWC2 (R473). -/
def execSwc2 (_rt : RegNum) (_offset : BitVec 16) (_base : RegNum) (s : State) : Out := copAbsent 2#2 s

/-- LDC2 (R474). -/
def execLdc2 (_rt : RegNum) (_offset : BitVec 16) (_base : RegNum) (s : State) : Out := copAbsent 2#2 s

/-- SDC2 (R475). -/
def execSdc2 (_rt : RegNum) (_offset : BitVec 16) (_base : RegNum) (s : State) : Out := copAbsent 2#2 s

/-- MFC2 (R476). -/
def execMfc2 (_rt : RegNum) (_rd : BitVec 5) (s : State) : Out := copAbsent 2#2 s

/-- MTC2 (R477). -/
def execMtc2 (_rt : RegNum) (_rd : BitVec 5) (s : State) : Out := copAbsent 2#2 s

/-- CFC2 (R478). -/
def execCfc2 (_rt : RegNum) (_rd : BitVec 5) (s : State) : Out := copAbsent 2#2 s

/-- CTC2 (R479). -/
def execCtc2 (_rt : RegNum) (_rd : BitVec 5) (s : State) : Out := copAbsent 2#2 s

/-- DMFC2 (R480). -/
def execDmfc2 (_rt : RegNum) (_rd : BitVec 5) (s : State) : Out := wide s (copAbsent 2#2 s)

/-- DMTC2 (R481). -/
def execDmtc2 (_rt : RegNum) (_rd : BitVec 5) (s : State) : Out := wide s (copAbsent 2#2 s)

/-- COP2 (R482). -/
def execCop2 (_cofun : BitVec 25) (s : State) : Out := copAbsent 2#2 s

/-- BC2F (R483). -/
def execBc2f (_offset : BitVec 16) (s : State) : Out := copAbsent 2#2 s

/-- BC2T (R484). -/
def execBc2t (_offset : BitVec 16) (s : State) : Out := copAbsent 2#2 s

/-- BC2FL (R485). -/
def execBc2fl (_offset : BitVec 16) (s : State) : Out := copAbsent 2#2 s

/-- BC2TL (R486). -/
def execBc2tl (_offset : BitVec 16) (s : State) : Out := copAbsent 2#2 s

/-- BC3F (R487). -/
def execBc3f (_offset : BitVec 16) (s : State) : Out := copAbsent 3#2 s

/-- BC3T (R487). -/
def execBc3t (_offset : BitVec 16) (s : State) : Out := copAbsent 3#2 s

/-- BC3FL (R487). -/
def execBc3fl (_offset : BitVec 16) (s : State) : Out := copAbsent 3#2 s

/-- BC3TL (R487). -/
def execBc3tl (_offset : BitVec 16) (s : State) : Out := copAbsent 3#2 s

end Sys2Proof.Machine
end

