-- ==== Sys2Proof/Machine/Debug.lean ====
section
/-! DEFINITION. SDBBP, DERET, CTC0, CFC0 and PREF (spec/47_debug_other.md). -/

namespace Sys2Proof.Machine

/-- SDBBP (R520): the debug breakpoint exception; not described in debug mode (U24). -/
def execSdbbp (_code : BitVec 20) (s : State) : Out :=
  if s.debugMode then .refused .sdbbpInDebug else .next (takeDebug debugDbp s)

/-- DERET (R521); not described outside debug mode (U24). -/
def execDeret (s : State) : Out :=
  needs 0#2 s (if s.debugMode then noSlot s (.next s.deret) else .refused .deretOutsideDebug)

/-- CTC0 (R522): the spec defines no CP0 control register; no effect after the usability check (U25, its total
model). -/
def execCtc0 (_rt : RegNum) (_rd : Cop0RegNum) (s : State) : Out := needs 0#2 s (.next s.advance)

/-- CFC0 (R523): a free value after the usability check (U25, its total model). -/
def execCfc0 (rt : RegNum) (_rd : Cop0RegNum) (s : State) : Out := needs 0#2 s (setReg rt (s.fresh .result) s)

/-- PREF (R524): no effect and no exception. -/
def execPref (_hint : BitVec 5) (_offset : BitVec 16) (_base : RegNum) (s : State) : Out := .next s.advance

end Sys2Proof.Machine
end

