-- ==== Sys2Proof/Machine/SoftFloat.lean ====
section
/-! DEFINITION. Floating-point numbers and the operations on them, computed exactly and rounded once
(spec/48_fpu.md R543 to R549, R558 to R570; spec/10_state.md R34, R43). Encodings are taken as natural numbers. -/

namespace Sys2Proof.Machine

/-! ## Formats and values -/

/-- The widths of a binary format (10_state.md R34): S has 23 fraction and 8 exponent bits, D has 52 and 11. -/
structure FpFormat where
  fracBits : Nat
  expBits : Nat
  deriving DecidableEq, Repr

/-- Single precision. -/
def fpSingle : FpFormat := { fracBits := 23, expBits := 8 }
/-- Double precision. -/
def fpDouble : FpFormat := { fracBits := 52, expBits := 11 }

/-- The exponent bias, which is also Emax (R543). -/
def FpFormat.bias (f : FpFormat) : Nat := 2 ^ (f.expBits - 1) - 1

/-- The significand's width with the hidden bit: 24 or 53 (R543). -/
def FpFormat.prec (f : FpFormat) : Nat := f.fracBits + 1

/-- A number: a NaN, signaling when the most significant fraction bit is 1 (R544, D22); an infinity; or
`m * 2 ^ e` with a sign. -/
inductive FpVal where
  | nan (signaling : Bool)
  | inf (neg : Bool)
  | fin (neg : Bool) (m : Nat) (e : Int)
  deriving DecidableEq, Repr

/-- An operand: its value, and whether it is denormalized (R544 (a)). -/
structure FpOperand where
  val : FpVal
  denormal : Bool
  deriving DecidableEq, Repr

/-- The operand an encoding stands for. -/
def FpFormat.unpack (f : FpFormat) (x : Nat) : FpOperand :=
  let frac := x % 2 ^ f.fracBits
  let ex := x / 2 ^ f.fracBits % 2 ^ f.expBits
  let neg := x / 2 ^ (f.fracBits + f.expBits) % 2 == 1
  let scale : Int := f.bias + f.fracBits
  if ex = 2 ^ f.expBits - 1 then
    { val := if frac = 0 then .inf neg else .nan (2 ^ (f.fracBits - 1) ≤ frac), denormal := false }
  else if ex = 0 then { val := .fin neg frac (1 - scale), denormal := frac != 0 }
  else { val := .fin neg (2 ^ f.fracBits + frac) ((ex : Int) - scale), denormal := false }

/-! ## Encodings -/

/-- An encoding from its sign, biased exponent and fraction. -/
def FpFormat.pack (f : FpFormat) (neg : Bool) (ex frac : Nat) : Nat :=
  (if neg then 2 ^ (f.fracBits + f.expBits) else 0) + ex * 2 ^ f.fracBits + frac

/-- A zero. -/
def FpFormat.zero (f : FpFormat) (neg : Bool) : Nat := f.pack neg 0 0
/-- An infinity. -/
def FpFormat.infinity (f : FpFormat) (neg : Bool) : Nat := f.pack neg (2 ^ f.expBits - 1) 0
/-- The largest finite number (R549). -/
def FpFormat.largest (f : FpFormat) (neg : Bool) : Nat := f.pack neg (2 ^ f.expBits - 2) (2 ^ f.fracBits - 1)
/-- The smallest normalized number, `2 ^ Emin` (10_state.md R43). -/
def FpFormat.smallest (f : FpFormat) (neg : Bool) : Nat := f.pack neg 1 0
/-- The quiet NaN supplied for a masked Invalid (R549, D22): every bit but the sign and the top fraction bit. -/
def FpFormat.defaultNan (f : FpFormat) : Nat := f.pack false (2 ^ f.expBits - 1) (2 ^ (f.fracBits - 1) - 1)

/-- What an operation delivers before traps are considered: Unimplemented Operation (R548), or an encoding and the
exceptions raised. -/
inductive FpOut where
  | unimplemented
  | value (bits : Nat) (flags : FpFlags)
  deriving DecidableEq, Repr

/-- An exact result. -/
def FpOut.exact (bits : Nat) : FpOut := .value bits .none
/-- Invalid Operation with the default NaN (R549). -/
def FpFormat.invalid (f : FpFormat) : FpOut := .value f.defaultNan { FpFlags.none with v := true }

/-! ## Rounding (R543) -/

/-- Whether a magnitude `q + r / 2 ^ k`, plus a little more if `sticky`, rounds up to `q + 1`. -/
def roundsUp (mode : Rounding) (neg : Bool) (q r k : Nat) (sticky : Bool) : Bool :=
  match mode with
  | .nearest => 2 ^ k < 2 * r || (2 * r == 2 ^ k && (sticky || q % 2 == 1))
  | .zero => false
  | .up => !neg && (r != 0 || sticky)
  | .down => neg && (r != 0 || sticky)

/-- The overflow result of a rounding mode (R549). -/
def FpFormat.overflow (f : FpFormat) (mode : Rounding) (neg : Bool) : Nat :=
  match mode with
  | .nearest => f.infinity neg
  | .zero => f.largest neg
  | .up => if neg then f.largest neg else f.infinity neg
  | .down => if neg then f.infinity neg else f.largest neg

/-- The value a tiny result is flushed to (10_state.md R43, Table 3.3.4). -/
def FpFormat.flushed (f : FpFormat) (mode : Rounding) (neg : Bool) : Nat :=
  match mode with
  | .nearest => f.zero neg
  | .zero => f.zero neg
  | .up => if neg then f.zero neg else f.smallest neg
  | .down => if neg then f.smallest neg else f.zero neg

/-- How an operation rounds: the mode, and whether a tiny result is flushed rather than unimplemented (R548 (c)). -/
structure FpRound where
  mode : Rounding
  flush : Bool
  deriving DecidableEq, Repr

/-- Round the nonzero magnitude `m * 2 ^ e`, plus a little more if `sticky`, to the format: overflow, tininess after
rounding, inexact (R543, R545, R548 (c), R549). With `sticky` the caller gives `m` at least two bits more than the
significand holds. -/
def FpFormat.round (f : FpFormat) (c : FpRound) (neg : Bool) (m : Nat) (e : Int) (sticky : Bool) : FpOut :=
  let len := m.log2 + 1
  let k := len - f.prec
  let q := if f.prec ≤ len then m / 2 ^ k else m * 2 ^ (f.prec - len)
  let r := m % 2 ^ k
  let inexact := r != 0 || sticky
  let q' := if roundsUp c.mode neg q r k sticky then q + 1 else q
  let carry := q' == 2 ^ f.prec
  let ex : Int := e + m.log2 + (if carry then 1 else 0)
  let frac := if carry then 0 else q' - 2 ^ f.fracBits
  if (f.bias : Int) < ex then
    .value (f.overflow c.mode neg) { FpFlags.none with o := true, i := true }
  else if ex < 1 - (f.bias : Int) then
    if c.flush then .value (f.flushed c.mode neg) { FpFlags.none with u := true, i := true } else .unimplemented
  else .value (f.pack neg (ex + f.bias).toNat frac) { FpFlags.none with i := inexact }

/-- Round an exact value with a sign for zero. -/
def FpFormat.roundExact (f : FpFormat) (c : FpRound) (neg : Bool) (m : Nat) (e : Int) : FpOut :=
  if m = 0 then .exact (f.zero neg) else f.round c neg m e false

/-! ## Screening (R544) -/

/-- Whether an operand makes the operation unimplemented: denormalized or a quiet NaN. -/
def FpOperand.unimplemented (a : FpOperand) : Bool := a.denormal || a.val == .nan false

/-- Whether an operand is a signaling NaN. -/
def FpOperand.signaling (a : FpOperand) : Bool := a.val == .nan true

/-- Screen the operands of an arithmetic operation or a conversion to floating point, then go on. E wins over V
(D23). -/
def FpFormat.screen (f : FpFormat) (operands : List FpOperand) (k : FpOut) : FpOut :=
  if operands.any FpOperand.unimplemented then .unimplemented
  else if operands.any FpOperand.signaling then f.invalid
  else k

/-! ## Arithmetic (R550 to R554) -/

/-- A signed magnitude as an integer. -/
def signedInt (neg : Bool) (m : Nat) : Int := if neg then -(m : Int) else m

/-- The sum (R550); a zero sum of operands of opposite signs is -0 when rounding down, else +0 (R543). -/
def FpFormat.add (f : FpFormat) (c : FpRound) (a b : FpVal) : FpOut :=
  match a, b with
  | .inf x, .inf y => if x = y then .exact (f.infinity x) else f.invalid
  | .inf x, _ => .exact (f.infinity x)
  | _, .inf y => .exact (f.infinity y)
  | .fin x m e, .fin y n g =>
    let low := min e g
    let sum := signedInt x m * 2 ^ (e - low).toNat + signedInt y n * 2 ^ (g - low).toNat
    if sum = 0 then .exact (f.zero (if x = y then x else c.mode = .down))
    else f.round c (decide (sum < 0)) sum.natAbs low false
  | _, _ => f.invalid

/-- A value with its sign inverted. -/
def FpVal.negate : FpVal → FpVal
  | .nan s => .nan s
  | .inf x => .inf !x
  | .fin x m e => .fin (!x) m e

/-- The difference (R551). -/
def FpFormat.sub (f : FpFormat) (c : FpRound) (a b : FpVal) : FpOut := f.add c a b.negate

/-- The product (R552). -/
def FpFormat.mul (f : FpFormat) (c : FpRound) (a b : FpVal) : FpOut :=
  match a, b with
  | .inf x, .inf y => .exact (f.infinity (x ^^ y))
  | .inf x, .fin y n _ => if n = 0 then f.invalid else .exact (f.infinity (x ^^ y))
  | .fin x m _, .inf y => if m = 0 then f.invalid else .exact (f.infinity (x ^^ y))
  | .fin x m e, .fin y n g => f.roundExact c (x ^^ y) (m * n) (e + g)
  | _, _ => f.invalid

/-- How many quotient or root bits are computed beyond the operands' own: enough for the significand and two more. -/
def FpFormat.guardBits (f : FpFormat) : Nat := 2 * f.prec + 4

/-- The quotient (R553, R545 (b)). -/
def FpFormat.div (f : FpFormat) (c : FpRound) (a b : FpVal) : FpOut :=
  match a, b with
  | .inf _, .inf _ => f.invalid
  | .inf x, .fin y _ _ => .exact (f.infinity (x ^^ y))
  | .fin x _ _, .inf y => .exact (f.zero (x ^^ y))
  | .fin x m e, .fin y n g =>
    if n = 0 then
      if m = 0 then f.invalid else .value (f.infinity (x ^^ y)) { FpFlags.none with z := true }
    else if m = 0 then .exact (f.zero (x ^^ y))
    else
      let scaled := m * 2 ^ f.guardBits
      f.round c (x ^^ y) (scaled / n) (e - g - f.guardBits) (scaled % n != 0)
  | _, _ => f.invalid

/-- The integer square root, one bit at a time from bit `k - 1` down, on top of `r`. -/
def sqrtBits (n : Nat) : Nat → Nat → Nat
  | 0, r => r
  | k + 1, r => sqrtBits n k (if (r + 2 ^ k) * (r + 2 ^ k) ≤ n then r + 2 ^ k else r)

/-- The square root (R554); the exponent is made even and guard bits are added first. -/
def FpFormat.sqrt (f : FpFormat) (c : FpRound) (a : FpVal) : FpOut :=
  match a with
  | .inf neg => if neg then f.invalid else .exact (f.infinity false)
  | .fin neg m e =>
    if m = 0 then .exact (f.zero neg)
    else if neg then f.invalid
    else
      let odd := (e % 2).toNat
      let n := m * 2 ^ (odd + 2 * f.prec)
      let root := sqrtBits n (2 * f.prec) 0
      f.round c false root ((e - odd) / 2 - f.prec) (root * root != n)
  | .nan _ => f.invalid

/-! ## Sign operations (R555, R557) -/

/-- The weight of the sign bit. -/
def FpFormat.signWeight (f : FpFormat) : Nat := 2 ^ (f.fracBits + f.expBits)

/-- The encoding with its sign bit cleared. -/
def FpFormat.abs (f : FpFormat) (x : Nat) : Nat := x % f.signWeight

/-- The encoding with its sign bit inverted. -/
def FpFormat.neg (f : FpFormat) (x : Nat) : Nat :=
  if x / f.signWeight % 2 = 1 then x % f.signWeight else x % f.signWeight + f.signWeight

/-! ## Conversions (R548 (b), R558 to R569) -/

/-- A finite value rounded to an integer, and whether that changed it. -/
def roundToInt (mode : Rounding) (neg : Bool) (m : Nat) (e : Int) : Int × Bool :=
  let k := (-e).toNat
  let q := m * 2 ^ e.toNat / 2 ^ k
  let r := m * 2 ^ e.toNat % 2 ^ k
  (signedInt neg (if roundsUp mode neg q r k false then q + 1 else q), r != 0)

/-- A conversion to a fixed-point format of `width` bits: any NaN, a denormalized operand, an infinity and a value out of
range are unimplemented (R544, R548 (b)). -/
def toFixed (width : Nat) (mode : Rounding) (a : FpOperand) : FpOut :=
  match a.denormal, a.val with
  | false, .fin neg m e =>
    let n := roundToInt mode neg m e
    if -(2 ^ (width - 1) : Int) ≤ n.1 ∧ n.1 < 2 ^ (width - 1) then
      .value (BitVec.ofInt width n.1).toNat { FpFlags.none with i := n.2 }
    else .unimplemented
  | _, _ => .unimplemented

/-- A conversion from an integer (R566, R567). -/
def FpFormat.ofInt (f : FpFormat) (c : FpRound) (n : Int) : FpOut :=
  f.roundExact c (decide (n < 0)) n.natAbs 0

/-- A conversion from another floating-point format (R566, R567). -/
def FpFormat.convert (f : FpFormat) (c : FpRound) (a : FpVal) : FpOut :=
  match a with
  | .inf neg => .exact (f.infinity neg)
  | .fin neg m e => f.roundExact c neg m e
  | .nan _ => f.invalid

/-! ## Comparison (R570) -/

/-- The relation of two operands. -/
inductive FpRelation where
  | less
  | equal
  | greater
  | unordered
  deriving DecidableEq, Repr

/-- The relation of two integers. -/
def compareInts (x y : Int) : FpRelation := if x < y then .less else if x = y then .equal else .greater

/-- The relation of two values; +0 equals -0. -/
def FpVal.relation (a b : FpVal) : FpRelation :=
  match a, b with
  | .nan _, _ => .unordered
  | _, .nan _ => .unordered
  | .inf x, .inf y => if x = y then .equal else if x then .less else .greater
  | .inf x, .fin _ _ _ => if x then .less else .greater
  | .fin _ _ _, .inf y => if y then .greater else .less
  | .fin x m e, .fin y n g =>
    let low := min e g
    compareInts (signedInt x m * 2 ^ (e - low).toNat) (signedInt y n * 2 ^ (g - low).toNat)

/-- Whether a predicate holds of a relation. -/
def condHolds (cond : BitVec 4) (r : FpRelation) : Bool :=
  match r with
  | .less => cond.getLsbD 2
  | .equal => cond.getLsbD 1
  | .unordered => cond.getLsbD 0
  | .greater => false

/-- Whether a comparison is invalid: a signaling NaN, or an unordered relation under a predicate with bit 3. -/
def condInvalid (cond : BitVec 4) (a b : FpVal) : Bool :=
  a == .nan true || b == .nan true || (cond.getLsbD 3 && a.relation b == .unordered)

end Sys2Proof.Machine
end

