-- ==== Sys2Proof/Machine/Fpu.lean ====
section
/-! DEFINITION. The floating-point operations of coprocessor 1 (spec/48_fpu.md R542, R550 to R570). -/

namespace Sys2Proof.Machine

/-! ## The execution template (R542) -/

/-- The format of a floating-point operand; W and L are fixed point, the rest reserved (R541). -/
def floatFormat : Fmt → Option FpFormat
  | .s => some fpSingle
  | .d => some fpDouble
  | _ => none

/-- The operation's rounding by FCR31: the mode RM, and flushing when FS is set and neither Underflow nor Inexact is
enabled (10_state.md R43). -/
def State.fpRound (s : State) : FpRound :=
  { mode := s.rounding, flush := s.fs && !s.fpEnables.getLsbD 1 && !s.fpEnables.getLsbD 0 }

/-- ValueFPR in a format. -/
def State.fpRead (s : State) (fmt : Fmt) (f : FpRegNum) (u : FreeUse) : Nat :=
  match fmt with
  | .s => (s.fpr32 f u).toNat
  | .w => (s.fpr32 f u).toNat
  | _ => (s.fpr64 f u).toNat

/-- StoreFPR in a format. -/
def State.fpStore (s : State) (fmt : Fmt) (f : FpRegNum) (v : Nat) : State :=
  match fmt with
  | .s => s.setFpr32 f (BitVec.ofNat 32 v)
  | .w => s.setFpr32 f (BitVec.ofNat 32 v)
  | _ => s.setFpr64 f (BitVec.ofNat 64 v)

/-- FCR31 after an operation that does not trap: Cause is the exceptions raised, each also set in Flags (R546). -/
def fcr31After (fcr31 : Word) (flags : FpFlags) : Word :=
  putBits fcr31 12 (0#1 ++ flags.bits) ||| (flags.bits.setWidth 32 <<< 2)

/-- Steps 7 and 8 of the template: trap on E or an enabled exception, else the flags and the result (R546, R547). -/
def fpFinish (out : FpOut) (s : State) (store : Nat → State → State) : Out :=
  match out with
  | .unimplemented => fpUnimplemented s
  | .value v flags =>
    if flags.bits &&& s.fpEnables ≠ 0#5 then fpTrap (0#1 ++ flags.bits) s
    else .next (store v { s with fcr31 := fcr31After s.fcr31 flags }).advance

/-! ## Shapes -/

/-- An operation of two operands. -/
def fpBinary (op : FpFormat → FpRound → FpVal → FpVal → FpOut) (fmt : Fmt) (fd fs ft : FpRegNum) (s : State) : Out :=
  needs 1#2 s
    (match floatFormat fmt with
     | none => fpUnimplemented s
     | some f =>
       let a := f.unpack (s.fpRead fmt fs .operandA)
       let b := f.unpack (s.fpRead fmt ft .operandB)
       fpFinish (f.screen [a, b] (op f s.fpRound a.val b.val)) s fun v t => t.fpStore fmt fd v)

/-- An operation of one operand, on its encoding and its value. -/
def fpUnary (op : FpFormat → FpRound → Nat → FpVal → FpOut) (fmt : Fmt) (fd fs : FpRegNum) (s : State) : Out :=
  needs 1#2 s
    (match floatFormat fmt with
     | none => fpUnimplemented s
     | some f =>
       let x := s.fpRead fmt fs .operandA
       let a := f.unpack x
       fpFinish (f.screen [a] (op f s.fpRound x a.val)) s fun v t => t.fpStore fmt fd v)

/-- A conversion to W. -/
def fpToWord (mode : Rounding) (fmt : Fmt) (fd fs : FpRegNum) (s : State) : Out :=
  needs 1#2 s
    (match floatFormat fmt with
     | none => fpUnimplemented s
     | some f =>
       fpFinish (toFixed 32 mode (f.unpack (s.fpRead fmt fs .operandA))) s fun v t => t.fpStore .w fd v)

/-- A conversion to L, an operation of the eta class (R541 (d)). -/
def fpToLong (mode : Rounding) (fmt : Fmt) (fd fs : FpRegNum) (s : State) : Out :=
  needs 1#2 s
    (match floatFormat fmt with
     | none => fpUnimplemented s
     | some f =>
       if s.is64bitOps then
         fpFinish (toFixed 64 mode (f.unpack (s.fpRead fmt fs .operandA))) s fun v t => t.fpStore .l fd v
       else fpUnimplemented s)

/-- A comparison (R570). -/
def fpCompare (cond : BitVec 4) (fmt : Fmt) (fs ft : FpRegNum) (s : State) : Out :=
  needs 1#2 s
    (match floatFormat fmt with
     | none => fpUnimplemented s
     | some f =>
       let a := (f.unpack (s.fpRead fmt fs .operandA)).val
       let b := (f.unpack (s.fpRead fmt ft .operandB)).val
       fpFinish (.value 0 { FpFlags.none with v := condInvalid cond a b }) s fun _ t =>
         { t with fcr31 := putBit t.fcr31 23 (condHolds cond (a.relation b)) })

/-! ## Arithmetic (R550 to R557) -/

/-- ADD.fmt (R550). -/
def execAddFmt (fmt : Fmt) (fd fs ft : FpRegNum) (s : State) : Out := fpBinary FpFormat.add fmt fd fs ft s

/-- SUB.fmt (R551). -/
def execSubFmt (fmt : Fmt) (fd fs ft : FpRegNum) (s : State) : Out := fpBinary FpFormat.sub fmt fd fs ft s

/-- MUL.fmt (R552). -/
def execMulFmt (fmt : Fmt) (fd fs ft : FpRegNum) (s : State) : Out := fpBinary FpFormat.mul fmt fd fs ft s

/-- DIV.fmt (R553). -/
def execDivFmt (fmt : Fmt) (fd fs ft : FpRegNum) (s : State) : Out := fpBinary FpFormat.div fmt fd fs ft s

/-- SQRT.fmt (R554). -/
def execSqrtFmt (fmt : Fmt) (fd fs : FpRegNum) (s : State) : Out := fpUnary (fun f c _ a => f.sqrt c a) fmt fd fs s

/-- ABS.fmt (R555). -/
def execAbsFmt (fmt : Fmt) (fd fs : FpRegNum) (s : State) : Out := fpUnary (fun f _ x _ => .exact (f.abs x)) fmt fd fs s

/-- MOV.fmt (R556): a copy that leaves FCR31 as it is. -/
def execMovFmt (fmt : Fmt) (fd fs : FpRegNum) (s : State) : Out :=
  needs 1#2 s
    (match floatFormat fmt with
     | none => fpUnimplemented s
     | some _ => .next (s.fpStore fmt fd (s.fpRead fmt fs .operandA)).advance)

/-- NEG.fmt (R557). -/
def execNegFmt (fmt : Fmt) (fd fs : FpRegNum) (s : State) : Out := fpUnary (fun f _ x _ => .exact (f.neg x)) fmt fd fs s

/-! ## Conversions to fixed point (R558 to R565, R568, R569) -/

/-- ROUND.L.fmt (R558). -/
def execRoundLFmt (fmt : Fmt) (fd fs : FpRegNum) (s : State) : Out := fpToLong .nearest fmt fd fs s

/-- TRUNC.L.fmt (R559). -/
def execTruncLFmt (fmt : Fmt) (fd fs : FpRegNum) (s : State) : Out := fpToLong .zero fmt fd fs s

/-- CEIL.L.fmt (R560). -/
def execCeilLFmt (fmt : Fmt) (fd fs : FpRegNum) (s : State) : Out := fpToLong .up fmt fd fs s

/-- FLOOR.L.fmt (R561). -/
def execFloorLFmt (fmt : Fmt) (fd fs : FpRegNum) (s : State) : Out := fpToLong .down fmt fd fs s

/-- ROUND.W.fmt (R562). -/
def execRoundWFmt (fmt : Fmt) (fd fs : FpRegNum) (s : State) : Out := fpToWord .nearest fmt fd fs s

/-- TRUNC.W.fmt (R563). -/
def execTruncWFmt (fmt : Fmt) (fd fs : FpRegNum) (s : State) : Out := fpToWord .zero fmt fd fs s

/-- CEIL.W.fmt (R564). -/
def execCeilWFmt (fmt : Fmt) (fd fs : FpRegNum) (s : State) : Out := fpToWord .up fmt fd fs s

/-- FLOOR.W.fmt (R565). -/
def execFloorWFmt (fmt : Fmt) (fd fs : FpRegNum) (s : State) : Out := fpToWord .down fmt fd fs s

/-- CVT.W.fmt (R568). -/
def execCvtWFmt (fmt : Fmt) (fd fs : FpRegNum) (s : State) : Out := fpToWord s.rounding fmt fd fs s

/-- CVT.L.fmt (R569). -/
def execCvtLFmt (fmt : Fmt) (fd fs : FpRegNum) (s : State) : Out := fpToLong s.rounding fmt fd fs s

/-! ## Conversions to floating point (R566, R567) -/

/-- A conversion to `f` from an operand of format `fmt`, which is not the format of `f`. -/
def State.convertTo (s : State) (f : FpFormat) (fmt : Fmt) (fs : FpRegNum) : FpOut :=
  match fmt with
  | .w => f.ofInt s.fpRound (s.fpr32 fs .operandA).toInt
  | .l => if s.is64bitOps then f.ofInt s.fpRound (s.fpr64 fs .operandA).toInt else .unimplemented
  | .s =>
    let a := fpSingle.unpack (s.fpRead .s fs .operandA)
    f.screen [a] (f.convert s.fpRound a.val)
  | .d =>
    let a := fpDouble.unpack (s.fpRead .d fs .operandA)
    f.screen [a] (f.convert s.fpRound a.val)
  | .reserved _ => .unimplemented

/-- CVT.S.fmt (R566); CVT.S.S is unimplemented. -/
def execCvtSFmt (fmt : Fmt) (fd fs : FpRegNum) (s : State) : Out :=
  needs 1#2 s
    (if fmt = .s then fpUnimplemented s
     else fpFinish (s.convertTo fpSingle fmt fs) s fun v t => t.fpStore .s fd v)

/-- CVT.D.fmt (R567); CVT.D.D is unimplemented. -/
def execCvtDFmt (fmt : Fmt) (fd fs : FpRegNum) (s : State) : Out :=
  needs 1#2 s
    (if fmt = .d then fpUnimplemented s
     else fpFinish (s.convertTo fpDouble fmt fs) s fun v t => t.fpStore .d fd v)

/-! ## Comparisons (R570) -/

/-- C.F.fmt. -/
def execCFFmt (fmt : Fmt) (fs ft : FpRegNum) (s : State) : Out := fpCompare 0#4 fmt fs ft s

/-- C.UN.fmt. -/
def execCUnFmt (fmt : Fmt) (fs ft : FpRegNum) (s : State) : Out := fpCompare 1#4 fmt fs ft s

/-- C.EQ.fmt. -/
def execCEqFmt (fmt : Fmt) (fs ft : FpRegNum) (s : State) : Out := fpCompare 2#4 fmt fs ft s

/-- C.UEQ.fmt. -/
def execCUeqFmt (fmt : Fmt) (fs ft : FpRegNum) (s : State) : Out := fpCompare 3#4 fmt fs ft s

/-- C.OLT.fmt. -/
def execCOltFmt (fmt : Fmt) (fs ft : FpRegNum) (s : State) : Out := fpCompare 4#4 fmt fs ft s

/-- C.ULT.fmt. -/
def execCUltFmt (fmt : Fmt) (fs ft : FpRegNum) (s : State) : Out := fpCompare 5#4 fmt fs ft s

/-- C.OLE.fmt. -/
def execCOleFmt (fmt : Fmt) (fs ft : FpRegNum) (s : State) : Out := fpCompare 6#4 fmt fs ft s

/-- C.ULE.fmt. -/
def execCUleFmt (fmt : Fmt) (fs ft : FpRegNum) (s : State) : Out := fpCompare 7#4 fmt fs ft s

/-- C.SF.fmt. -/
def execCSfFmt (fmt : Fmt) (fs ft : FpRegNum) (s : State) : Out := fpCompare 8#4 fmt fs ft s

/-- C.NGLE.fmt. -/
def execCNgleFmt (fmt : Fmt) (fs ft : FpRegNum) (s : State) : Out := fpCompare 9#4 fmt fs ft s

/-- C.SEQ.fmt. -/
def execCSeqFmt (fmt : Fmt) (fs ft : FpRegNum) (s : State) : Out := fpCompare 10#4 fmt fs ft s

/-- C.NGL.fmt. -/
def execCNglFmt (fmt : Fmt) (fs ft : FpRegNum) (s : State) : Out := fpCompare 11#4 fmt fs ft s

/-- C.LT.fmt. -/
def execCLtFmt (fmt : Fmt) (fs ft : FpRegNum) (s : State) : Out := fpCompare 12#4 fmt fs ft s

/-- C.NGE.fmt. -/
def execCNgeFmt (fmt : Fmt) (fs ft : FpRegNum) (s : State) : Out := fpCompare 13#4 fmt fs ft s

/-- C.LE.fmt. -/
def execCLeFmt (fmt : Fmt) (fs ft : FpRegNum) (s : State) : Out := fpCompare 14#4 fmt fs ft s

/-- C.NGT.fmt. -/
def execCNgtFmt (fmt : Fmt) (fs ft : FpRegNum) (s : State) : Out := fpCompare 15#4 fmt fs ft s

end Sys2Proof.Machine
end

