-- ==== Sys2Proof/Machine/MulDiv.lean ====
section
/-! DEFINITION. Multiply, multiply-add, divide, and the moves of HI and LO (spec/42_multiply_divide.md). -/

namespace Sys2Proof.Machine

/-- A 64-bit result split over HI and LO, each half sign-extended, LO also to GPR rd (R351, R366). -/
def setProduct (rd : RegNum) (p : DWord) (s : State) : Out :=
  let lo := sext32 (low32 p)
  let hi := sext32 (p.extractLsb' 32 32)
  setReg rd lo (s.setHiLo hi lo)

/-- A 128-bit product split over HI and LO, LO also to GPR rd (R356, R366). -/
def setProduct128 (rd : RegNum) (p : BitVec 128) (s : State) : Out :=
  setReg rd (p.extractLsb' 0 64) (s.setHiLo (p.extractLsb' 64 64) (p.extractLsb' 0 64))

/-- The signed product of the low words of two registers (R352). -/
def State.signedProduct (s : State) (rs rt : RegNum) : DWord := sext32 (s.rget32 rs) * sext32 (s.rget32 rt)

/-- The unsigned product of the low words of two registers (R353). -/
def State.unsignedProduct (s : State) (rs rt : RegNum) : DWord :=
  (s.rget32 rs).setWidth 64 * (s.rget32 rt).setWidth 64

/-- The accumulator of MADD: the low words of HI and LO (R364). -/
def State.accumulator (s : State) : DWord := low32 s.hi ++ low32 s.lo

/-- Complete a divide: remainder to HI, quotient to LO (R354). -/
def setQuotient (quotient remainder : DWord) (s : State) : Out := .next (s.setHiLo remainder quotient).advance

/-- A divide by zero leaves free values in HI and LO (R368, U20). -/
def divideByZero (s : State) : Out := setQuotient (s.fresh .lo) (s.fresh .hi) s

/-- MULT (R352). -/
def execMult (rd rs rt : RegNum) (s : State) : Out := setProduct rd (s.signedProduct rs rt) s

/-- MULTU (R353). -/
def execMultu (rd rs rt : RegNum) (s : State) : Out := setProduct rd (s.unsignedProduct rs rt) s

/-- DMULT (R356). -/
def execDmult (rd rs rt : RegNum) (s : State) : Out :=
  wide s (setProduct128 rd ((s.rget rs).signExtend 128 * (s.rget rt).signExtend 128) s)

/-- DMULTU (R357). -/
def execDmultu (rd rs rt : RegNum) (s : State) : Out :=
  wide s (setProduct128 rd ((s.rget rs).setWidth 128 * (s.rget rt).setWidth 128) s)

/-- MADD (R364). -/
def execMadd (rd rs rt : RegNum) (s : State) : Out := setProduct rd (s.accumulator + s.signedProduct rs rt) s

/-- MADDU (R365). -/
def execMaddu (rd rs rt : RegNum) (s : State) : Out := setProduct rd (s.accumulator + s.unsignedProduct rs rt) s

/-- DIV (R354, R368). -/
def execDiv (rs rt : RegNum) (s : State) : Out :=
  let n := s.rget32 rs
  let d := s.rget32 rt
  if d = 0#32 then divideByZero s else setQuotient (sext32 (n.sdiv d)) (sext32 (n.srem d)) s

/-- DIVU (R355). -/
def execDivu (rs rt : RegNum) (s : State) : Out :=
  let n := s.rget32 rs
  let d := s.rget32 rt
  if d = 0#32 then divideByZero s else setQuotient (sext32 (n / d)) (sext32 (n % d)) s

/-- DDIV (R358). -/
def execDdiv (rs rt : RegNum) (s : State) : Out :=
  let n := s.rget rs
  let d := s.rget rt
  wide s (if d = 0#64 then divideByZero s else setQuotient (n.sdiv d) (n.srem d) s)

/-- DDIVU (R359). -/
def execDdivu (rs rt : RegNum) (s : State) : Out :=
  let n := s.rget rs
  let d := s.rget rt
  wide s (if d = 0#64 then divideByZero s else setQuotient (n / d) (n % d) s)

/-- MFHI (R360). -/
def execMfhi (rd : RegNum) (s : State) : Out := setReg rd s.hi s

/-- MFLO (R362). -/
def execMflo (rd : RegNum) (s : State) : Out := setReg rd s.lo s

/-- MTHI (R361). -/
def execMthi (rs : RegNum) (s : State) : Out := .next (s.setHiLo (s.rget rs) s.lo).advance

/-- MTLO (R363). -/
def execMtlo (rs : RegNum) (s : State) : Out := .next (s.setHiLo s.hi (s.rget rs)).advance

end Sys2Proof.Machine
end

