-- ==== Sys2Proof/Machine/Shift.lean ====
section
/-! DEFINITION. The shifts (spec/41_computational.md R326 to R340). -/

namespace Sys2Proof.Machine

/-- The amount of a 32-bit variable shift: bits 4:0 of GPR rs (R329). -/
def State.amount5 (s : State) (rs : RegNum) : Nat := ((s.rget rs).extractLsb' 0 5).toNat

/-- The amount of a 64-bit variable shift: bits 5:0 of GPR rs (R335). -/
def State.amount6 (s : State) (rs : RegNum) : Nat := ((s.rget rs).extractLsb' 0 6).toNat

/-- SLL (R326). -/
def execSll (rd rt : RegNum) (sa : BitVec 5) (s : State) : Out := setReg rd (sext32 (s.rget32 rt <<< sa.toNat)) s

/-- SRL (R327). -/
def execSrl (rd rt : RegNum) (sa : BitVec 5) (s : State) : Out := setReg rd (sext32 (s.rget32 rt >>> sa.toNat)) s

/-- SRA (R328). -/
def execSra (rd rt : RegNum) (sa : BitVec 5) (s : State) : Out :=
  setReg rd (sext32 ((s.rget32 rt).sshiftRight sa.toNat)) s

/-- DSLL (R332). -/
def execDsll (rd rt : RegNum) (sa : BitVec 5) (s : State) : Out := wide s (setReg rd (s.rget rt <<< sa.toNat) s)

/-- DSRL (R333). -/
def execDsrl (rd rt : RegNum) (sa : BitVec 5) (s : State) : Out := wide s (setReg rd (s.rget rt >>> sa.toNat) s)

/-- DSRA (R334). -/
def execDsra (rd rt : RegNum) (sa : BitVec 5) (s : State) : Out :=
  wide s (setReg rd ((s.rget rt).sshiftRight sa.toNat) s)

/-- DSLL32 (R338). -/
def execDsll32 (rd rt : RegNum) (sa : BitVec 5) (s : State) : Out :=
  wide s (setReg rd (s.rget rt <<< (sa.toNat + 32)) s)

/-- DSRL32 (R339). -/
def execDsrl32 (rd rt : RegNum) (sa : BitVec 5) (s : State) : Out :=
  wide s (setReg rd (s.rget rt >>> (sa.toNat + 32)) s)

/-- DSRA32 (R340). -/
def execDsra32 (rd rt : RegNum) (sa : BitVec 5) (s : State) : Out :=
  wide s (setReg rd ((s.rget rt).sshiftRight (sa.toNat + 32)) s)

/-- SLLV (R329). -/
def execSllv (rd rt rs : RegNum) (s : State) : Out := setReg rd (sext32 (s.rget32 rt <<< s.amount5 rs)) s

/-- SRLV (R330). -/
def execSrlv (rd rt rs : RegNum) (s : State) : Out := setReg rd (sext32 (s.rget32 rt >>> s.amount5 rs)) s

/-- SRAV (R331). -/
def execSrav (rd rt rs : RegNum) (s : State) : Out := setReg rd (sext32 ((s.rget32 rt).sshiftRight (s.amount5 rs))) s

/-- DSLLV (R335). -/
def execDsllv (rd rt rs : RegNum) (s : State) : Out := wide s (setReg rd (s.rget rt <<< s.amount6 rs) s)

/-- DSRLV (R336). -/
def execDsrlv (rd rt rs : RegNum) (s : State) : Out := wide s (setReg rd (s.rget rt >>> s.amount6 rs) s)

/-- DSRAV (R337). -/
def execDsrav (rd rt rs : RegNum) (s : State) : Out := wide s (setReg rd ((s.rget rt).sshiftRight (s.amount6 rs)) s)

end Sys2Proof.Machine
end

