-- ==== Sys2Proof/Machine/Trap.lean ====
section
/-! DEFINITION. SYNC, SYSCALL, BREAK and the traps (spec/44_special_trap.md). -/

namespace Sys2Proof.Machine

/-- SYNC waits until the write buffer is empty (R421, 20_memory.md R164). -/
def execSync (s : State) : Out := s.flushed.elim fun _ t => .next t.advance

/-- SYSCALL (R422); the code field is ignored. -/
def execSyscall (_code : BitVec 20) (s : State) : Out := raise .syscall s

/-- BREAK (R423); the code field is ignored. -/
def execBrk (_code : BitVec 20) (s : State) : Out := raise .breakpoint s

/-- A trap instruction (R424): the Trap exception if its condition holds, else nothing. -/
def trapIf (c : Bool) (s : State) : Out := if c then raise .trap s else .next s.advance

/-- TGE (R425). -/
def execTge (rs rt : RegNum) (_code : BitVec 10) (s : State) : Out := trapIf ((s.rget rt).sle (s.rget rs)) s

/-- TGEU (R426). -/
def execTgeu (rs rt : RegNum) (_code : BitVec 10) (s : State) : Out := trapIf ((s.rget rt).ule (s.rget rs)) s

/-- TLT (R427). -/
def execTlt (rs rt : RegNum) (_code : BitVec 10) (s : State) : Out := trapIf ((s.rget rs).slt (s.rget rt)) s

/-- TLTU (R428). -/
def execTltu (rs rt : RegNum) (_code : BitVec 10) (s : State) : Out := trapIf ((s.rget rs).ult (s.rget rt)) s

/-- TEQ (R429). -/
def execTeq (rs rt : RegNum) (_code : BitVec 10) (s : State) : Out := trapIf (s.rget rs == s.rget rt) s

/-- TNE (R430). -/
def execTne (rs rt : RegNum) (_code : BitVec 10) (s : State) : Out := trapIf (s.rget rs != s.rget rt) s

/-- TGEI (R431). -/
def execTgei (rs : RegNum) (imm : BitVec 16) (s : State) : Out := trapIf ((sextImm imm).sle (s.rget rs)) s

/-- TGEIU (R432). -/
def execTgeiu (rs : RegNum) (imm : BitVec 16) (s : State) : Out := trapIf ((sextImm imm).ule (s.rget rs)) s

/-- TLTI (R433). -/
def execTlti (rs : RegNum) (imm : BitVec 16) (s : State) : Out := trapIf ((s.rget rs).slt (sextImm imm)) s

/-- TLTIU (R434). -/
def execTltiu (rs : RegNum) (imm : BitVec 16) (s : State) : Out := trapIf ((s.rget rs).ult (sextImm imm)) s

/-- TEQI (R435). -/
def execTeqi (rs : RegNum) (imm : BitVec 16) (s : State) : Out := trapIf (s.rget rs == sextImm imm) s

/-- TNEI (R436). -/
def execTnei (rs : RegNum) (imm : BitVec 16) (s : State) : Out := trapIf (s.rget rs != sextImm imm) s

end Sys2Proof.Machine
end

