-- ==== Sys2Proof/Machine/Dispatch.lean ====
section
/-! DEFINITION. The dispatcher: one arm per instruction, in the order of the opcode table. -/

namespace Sys2Proof.Machine

def exec (i : Instr) (s : State) : Host.Outcome State Fault Refusal :=
  match i with
  | .lb rt offset base => Sys2Proof.Machine.execLb rt offset base s
  | .lbu rt offset base => Sys2Proof.Machine.execLbu rt offset base s
  | .lh rt offset base => Sys2Proof.Machine.execLh rt offset base s
  | .lhu rt offset base => Sys2Proof.Machine.execLhu rt offset base s
  | .lw rt offset base => Sys2Proof.Machine.execLw rt offset base s
  | .lwu rt offset base => Sys2Proof.Machine.execLwu rt offset base s
  | .ld rt offset base => Sys2Proof.Machine.execLd rt offset base s
  | .sb rt offset base => Sys2Proof.Machine.execSb rt offset base s
  | .sh rt offset base => Sys2Proof.Machine.execSh rt offset base s
  | .sw rt offset base => Sys2Proof.Machine.execSw rt offset base s
  | .sd rt offset base => Sys2Proof.Machine.execSd rt offset base s
  | .lwl rt offset base => Sys2Proof.Machine.execLwl rt offset base s
  | .lwr rt offset base => Sys2Proof.Machine.execLwr rt offset base s
  | .swl rt offset base => Sys2Proof.Machine.execSwl rt offset base s
  | .swr rt offset base => Sys2Proof.Machine.execSwr rt offset base s
  | .ldl rt offset base => Sys2Proof.Machine.execLdl rt offset base s
  | .ldr rt offset base => Sys2Proof.Machine.execLdr rt offset base s
  | .sdl rt offset base => Sys2Proof.Machine.execSdl rt offset base s
  | .sdr rt offset base => Sys2Proof.Machine.execSdr rt offset base s
  | .ll rt offset base => Sys2Proof.Machine.execLl rt offset base s
  | .lld rt offset base => Sys2Proof.Machine.execLld rt offset base s
  | .sc rt offset base => Sys2Proof.Machine.execSc rt offset base s
  | .scd rt offset base => Sys2Proof.Machine.execScd rt offset base s
  | .addi rt rs imm => Sys2Proof.Machine.execAddi rt rs imm s
  | .addiu rt rs imm => Sys2Proof.Machine.execAddiu rt rs imm s
  | .slti rt rs imm => Sys2Proof.Machine.execSlti rt rs imm s
  | .sltiu rt rs imm => Sys2Proof.Machine.execSltiu rt rs imm s
  | .andi rt rs imm => Sys2Proof.Machine.execAndi rt rs imm s
  | .ori rt rs imm => Sys2Proof.Machine.execOri rt rs imm s
  | .xori rt rs imm => Sys2Proof.Machine.execXori rt rs imm s
  | .daddi rt rs imm => Sys2Proof.Machine.execDaddi rt rs imm s
  | .daddiu rt rs imm => Sys2Proof.Machine.execDaddiu rt rs imm s
  | .lui rt imm => Sys2Proof.Machine.execLui rt imm s
  | .add rd rs rt => Sys2Proof.Machine.execAdd rd rs rt s
  | .addu rd rs rt => Sys2Proof.Machine.execAddu rd rs rt s
  | .sub rd rs rt => Sys2Proof.Machine.execSub rd rs rt s
  | .subu rd rs rt => Sys2Proof.Machine.execSubu rd rs rt s
  | .slt rd rs rt => Sys2Proof.Machine.execSlt rd rs rt s
  | .sltu rd rs rt => Sys2Proof.Machine.execSltu rd rs rt s
  | .and rd rs rt => Sys2Proof.Machine.execAnd rd rs rt s
  | .or rd rs rt => Sys2Proof.Machine.execOr rd rs rt s
  | .xor rd rs rt => Sys2Proof.Machine.execXor rd rs rt s
  | .nor rd rs rt => Sys2Proof.Machine.execNor rd rs rt s
  | .dadd rd rs rt => Sys2Proof.Machine.execDadd rd rs rt s
  | .daddu rd rs rt => Sys2Proof.Machine.execDaddu rd rs rt s
  | .dsub rd rs rt => Sys2Proof.Machine.execDsub rd rs rt s
  | .dsubu rd rs rt => Sys2Proof.Machine.execDsubu rd rs rt s
  | .sll rd rt sa => Sys2Proof.Machine.execSll rd rt sa s
  | .srl rd rt sa => Sys2Proof.Machine.execSrl rd rt sa s
  | .sra rd rt sa => Sys2Proof.Machine.execSra rd rt sa s
  | .dsll rd rt sa => Sys2Proof.Machine.execDsll rd rt sa s
  | .dsrl rd rt sa => Sys2Proof.Machine.execDsrl rd rt sa s
  | .dsra rd rt sa => Sys2Proof.Machine.execDsra rd rt sa s
  | .dsll32 rd rt sa => Sys2Proof.Machine.execDsll32 rd rt sa s
  | .dsrl32 rd rt sa => Sys2Proof.Machine.execDsrl32 rd rt sa s
  | .dsra32 rd rt sa => Sys2Proof.Machine.execDsra32 rd rt sa s
  | .sllv rd rt rs => Sys2Proof.Machine.execSllv rd rt rs s
  | .srlv rd rt rs => Sys2Proof.Machine.execSrlv rd rt rs s
  | .srav rd rt rs => Sys2Proof.Machine.execSrav rd rt rs s
  | .dsllv rd rt rs => Sys2Proof.Machine.execDsllv rd rt rs s
  | .dsrlv rd rt rs => Sys2Proof.Machine.execDsrlv rd rt rs s
  | .dsrav rd rt rs => Sys2Proof.Machine.execDsrav rd rt rs s
  | .mult rd rs rt => Sys2Proof.Machine.execMult rd rs rt s
  | .multu rd rs rt => Sys2Proof.Machine.execMultu rd rs rt s
  | .dmult rd rs rt => Sys2Proof.Machine.execDmult rd rs rt s
  | .dmultu rd rs rt => Sys2Proof.Machine.execDmultu rd rs rt s
  | .div rs rt => Sys2Proof.Machine.execDiv rs rt s
  | .divu rs rt => Sys2Proof.Machine.execDivu rs rt s
  | .ddiv rs rt => Sys2Proof.Machine.execDdiv rs rt s
  | .ddivu rs rt => Sys2Proof.Machine.execDdivu rs rt s
  | .mfhi rd => Sys2Proof.Machine.execMfhi rd s
  | .mflo rd => Sys2Proof.Machine.execMflo rd s
  | .mthi rs => Sys2Proof.Machine.execMthi rs s
  | .mtlo rs => Sys2Proof.Machine.execMtlo rs s
  | .madd rd rs rt => Sys2Proof.Machine.execMadd rd rs rt s
  | .maddu rd rs rt => Sys2Proof.Machine.execMaddu rd rs rt s
  | .jr rs => Sys2Proof.Machine.execJr rs s
  | .jalr rd rs => Sys2Proof.Machine.execJalr rd rs s
  | .syscall code => Sys2Proof.Machine.execSyscall code s
  | .brk code => Sys2Proof.Machine.execBrk code s
  | .sdbbp code => Sys2Proof.Machine.execSdbbp code s
  | .sync => Sys2Proof.Machine.execSync s
  | .tge rs rt code => Sys2Proof.Machine.execTge rs rt code s
  | .tgeu rs rt code => Sys2Proof.Machine.execTgeu rs rt code s
  | .tlt rs rt code => Sys2Proof.Machine.execTlt rs rt code s
  | .tltu rs rt code => Sys2Proof.Machine.execTltu rs rt code s
  | .teq rs rt code => Sys2Proof.Machine.execTeq rs rt code s
  | .tne rs rt code => Sys2Proof.Machine.execTne rs rt code s
  | .j target => Sys2Proof.Machine.execJ target s
  | .jal target => Sys2Proof.Machine.execJal target s
  | .beq rs rt offset => Sys2Proof.Machine.execBeq rs rt offset s
  | .bne rs rt offset => Sys2Proof.Machine.execBne rs rt offset s
  | .blez rs offset => Sys2Proof.Machine.execBlez rs offset s
  | .bgtz rs offset => Sys2Proof.Machine.execBgtz rs offset s
  | .beql rs rt offset => Sys2Proof.Machine.execBeql rs rt offset s
  | .bnel rs rt offset => Sys2Proof.Machine.execBnel rs rt offset s
  | .blezl rs offset => Sys2Proof.Machine.execBlezl rs offset s
  | .bgtzl rs offset => Sys2Proof.Machine.execBgtzl rs offset s
  | .bltz rs offset => Sys2Proof.Machine.execBltz rs offset s
  | .bgez rs offset => Sys2Proof.Machine.execBgez rs offset s
  | .bltzl rs offset => Sys2Proof.Machine.execBltzl rs offset s
  | .bgezl rs offset => Sys2Proof.Machine.execBgezl rs offset s
  | .bltzal rs offset => Sys2Proof.Machine.execBltzal rs offset s
  | .bgezal rs offset => Sys2Proof.Machine.execBgezal rs offset s
  | .bltzall rs offset => Sys2Proof.Machine.execBltzall rs offset s
  | .bgezall rs offset => Sys2Proof.Machine.execBgezall rs offset s
  | .tgei rs imm => Sys2Proof.Machine.execTgei rs imm s
  | .tgeiu rs imm => Sys2Proof.Machine.execTgeiu rs imm s
  | .tlti rs imm => Sys2Proof.Machine.execTlti rs imm s
  | .tltiu rs imm => Sys2Proof.Machine.execTltiu rs imm s
  | .teqi rs imm => Sys2Proof.Machine.execTeqi rs imm s
  | .tnei rs imm => Sys2Proof.Machine.execTnei rs imm s
  | .lwc1 ft offset base => Sys2Proof.Machine.execLwc1 ft offset base s
  | .swc1 ft offset base => Sys2Proof.Machine.execSwc1 ft offset base s
  | .ldc1 ft offset base => Sys2Proof.Machine.execLdc1 ft offset base s
  | .sdc1 ft offset base => Sys2Proof.Machine.execSdc1 ft offset base s
  | .lwc2 rt offset base => Sys2Proof.Machine.execLwc2 rt offset base s
  | .swc2 rt offset base => Sys2Proof.Machine.execSwc2 rt offset base s
  | .ldc2 rt offset base => Sys2Proof.Machine.execLdc2 rt offset base s
  | .sdc2 rt offset base => Sys2Proof.Machine.execSdc2 rt offset base s
  | .mfc0 rt rd => Sys2Proof.Machine.execMfc0 rt rd s
  | .dmfc0 rt rd => Sys2Proof.Machine.execDmfc0 rt rd s
  | .cfc0 rt rd => Sys2Proof.Machine.execCfc0 rt rd s
  | .mtc0 rt rd => Sys2Proof.Machine.execMtc0 rt rd s
  | .dmtc0 rt rd => Sys2Proof.Machine.execDmtc0 rt rd s
  | .ctc0 rt rd => Sys2Proof.Machine.execCtc0 rt rd s
  | .mfc1 rt fs => Sys2Proof.Machine.execMfc1 rt fs s
  | .dmfc1 rt fs => Sys2Proof.Machine.execDmfc1 rt fs s
  | .cfc1 rt fs => Sys2Proof.Machine.execCfc1 rt fs s
  | .mtc1 rt fs => Sys2Proof.Machine.execMtc1 rt fs s
  | .dmtc1 rt fs => Sys2Proof.Machine.execDmtc1 rt fs s
  | .ctc1 rt fs => Sys2Proof.Machine.execCtc1 rt fs s
  | .mfc2 rt rd => Sys2Proof.Machine.execMfc2 rt rd s
  | .dmfc2 rt rd => Sys2Proof.Machine.execDmfc2 rt rd s
  | .cfc2 rt rd => Sys2Proof.Machine.execCfc2 rt rd s
  | .mtc2 rt rd => Sys2Proof.Machine.execMtc2 rt rd s
  | .dmtc2 rt rd => Sys2Proof.Machine.execDmtc2 rt rd s
  | .ctc2 rt rd => Sys2Proof.Machine.execCtc2 rt rd s
  | .bc0f offset => Sys2Proof.Machine.execBc0f offset s
  | .bc0t offset => Sys2Proof.Machine.execBc0t offset s
  | .bc0fl offset => Sys2Proof.Machine.execBc0fl offset s
  | .bc0tl offset => Sys2Proof.Machine.execBc0tl offset s
  | .bc1f offset => Sys2Proof.Machine.execBc1f offset s
  | .bc1t offset => Sys2Proof.Machine.execBc1t offset s
  | .bc1fl offset => Sys2Proof.Machine.execBc1fl offset s
  | .bc1tl offset => Sys2Proof.Machine.execBc1tl offset s
  | .bc2f offset => Sys2Proof.Machine.execBc2f offset s
  | .bc2t offset => Sys2Proof.Machine.execBc2t offset s
  | .bc2fl offset => Sys2Proof.Machine.execBc2fl offset s
  | .bc2tl offset => Sys2Proof.Machine.execBc2tl offset s
  | .bc3f offset => Sys2Proof.Machine.execBc3f offset s
  | .bc3t offset => Sys2Proof.Machine.execBc3t offset s
  | .bc3fl offset => Sys2Proof.Machine.execBc3fl offset s
  | .bc3tl offset => Sys2Proof.Machine.execBc3tl offset s
  | .tlbr => Sys2Proof.Machine.execTlbr s
  | .tlbwi => Sys2Proof.Machine.execTlbwi s
  | .tlbwr => Sys2Proof.Machine.execTlbwr s
  | .tlbp => Sys2Proof.Machine.execTlbp s
  | .eret => Sys2Proof.Machine.execEret s
  | .deret => Sys2Proof.Machine.execDeret s
  | .wait => Sys2Proof.Machine.execWait s
  | .cop2 cofun => Sys2Proof.Machine.execCop2 cofun s
  | .cache op offset base => Sys2Proof.Machine.execCache op offset base s
  | .pref hint offset base => Sys2Proof.Machine.execPref hint offset base s
  | .addFmt fmt fd fs ft => Sys2Proof.Machine.execAddFmt fmt fd fs ft s
  | .subFmt fmt fd fs ft => Sys2Proof.Machine.execSubFmt fmt fd fs ft s
  | .mulFmt fmt fd fs ft => Sys2Proof.Machine.execMulFmt fmt fd fs ft s
  | .divFmt fmt fd fs ft => Sys2Proof.Machine.execDivFmt fmt fd fs ft s
  | .sqrtFmt fmt fd fs => Sys2Proof.Machine.execSqrtFmt fmt fd fs s
  | .absFmt fmt fd fs => Sys2Proof.Machine.execAbsFmt fmt fd fs s
  | .movFmt fmt fd fs => Sys2Proof.Machine.execMovFmt fmt fd fs s
  | .negFmt fmt fd fs => Sys2Proof.Machine.execNegFmt fmt fd fs s
  | .roundLFmt fmt fd fs => Sys2Proof.Machine.execRoundLFmt fmt fd fs s
  | .truncLFmt fmt fd fs => Sys2Proof.Machine.execTruncLFmt fmt fd fs s
  | .ceilLFmt fmt fd fs => Sys2Proof.Machine.execCeilLFmt fmt fd fs s
  | .floorLFmt fmt fd fs => Sys2Proof.Machine.execFloorLFmt fmt fd fs s
  | .roundWFmt fmt fd fs => Sys2Proof.Machine.execRoundWFmt fmt fd fs s
  | .truncWFmt fmt fd fs => Sys2Proof.Machine.execTruncWFmt fmt fd fs s
  | .ceilWFmt fmt fd fs => Sys2Proof.Machine.execCeilWFmt fmt fd fs s
  | .floorWFmt fmt fd fs => Sys2Proof.Machine.execFloorWFmt fmt fd fs s
  | .cvtSFmt fmt fd fs => Sys2Proof.Machine.execCvtSFmt fmt fd fs s
  | .cvtDFmt fmt fd fs => Sys2Proof.Machine.execCvtDFmt fmt fd fs s
  | .cvtWFmt fmt fd fs => Sys2Proof.Machine.execCvtWFmt fmt fd fs s
  | .cvtLFmt fmt fd fs => Sys2Proof.Machine.execCvtLFmt fmt fd fs s
  | .cFFmt fmt fs ft => Sys2Proof.Machine.execCFFmt fmt fs ft s
  | .cUnFmt fmt fs ft => Sys2Proof.Machine.execCUnFmt fmt fs ft s
  | .cEqFmt fmt fs ft => Sys2Proof.Machine.execCEqFmt fmt fs ft s
  | .cUeqFmt fmt fs ft => Sys2Proof.Machine.execCUeqFmt fmt fs ft s
  | .cOltFmt fmt fs ft => Sys2Proof.Machine.execCOltFmt fmt fs ft s
  | .cUltFmt fmt fs ft => Sys2Proof.Machine.execCUltFmt fmt fs ft s
  | .cOleFmt fmt fs ft => Sys2Proof.Machine.execCOleFmt fmt fs ft s
  | .cUleFmt fmt fs ft => Sys2Proof.Machine.execCUleFmt fmt fs ft s
  | .cSfFmt fmt fs ft => Sys2Proof.Machine.execCSfFmt fmt fs ft s
  | .cNgleFmt fmt fs ft => Sys2Proof.Machine.execCNgleFmt fmt fs ft s
  | .cSeqFmt fmt fs ft => Sys2Proof.Machine.execCSeqFmt fmt fs ft s
  | .cNglFmt fmt fs ft => Sys2Proof.Machine.execCNglFmt fmt fs ft s
  | .cLtFmt fmt fs ft => Sys2Proof.Machine.execCLtFmt fmt fs ft s
  | .cNgeFmt fmt fs ft => Sys2Proof.Machine.execCNgeFmt fmt fs ft s
  | .cLeFmt fmt fs ft => Sys2Proof.Machine.execCLeFmt fmt fs ft s
  | .cNgtFmt fmt fs ft => Sys2Proof.Machine.execCNgtFmt fmt fs ft s

end Sys2Proof.Machine
end

