-- ==== Sys2Proof/WellFormed.lean ====
section
/-! DEFINITION. Which terms of the syntax stand for a word: a `reserved` format must be one of the codes
30_encoding.md R236 calls Reserved, and an `undefined` CACHE operation must be none of the thirteen codes of
21_cache.md R190. Everything else is well formed: every field is a bit vector of its encoded width. -/

namespace Sys2Proof

/-- A format term is well formed unless it calls one of the codes 16, 17, 20, 21 reserved. -/
def Fmt.wellFormed : Fmt → Bool
  | .reserved c => c != 0#4 && c != 1#4 && c != 4#4 && c != 5#4
  | _ => true

/-- A CACHE operation term is well formed unless it calls one of the thirteen named codes undefined. -/
def CacheOp.wellFormed : CacheOp → Bool
  | .undefined c =>
    !([0x00#5, 0x01#5, 0x04#5, 0x05#5, 0x08#5, 0x09#5, 0x0D#5, 0x10#5, 0x11#5, 0x14#5, 0x15#5, 0x19#5,
       0x1D#5].contains c)
  | _ => true

/-- The well-formed instructions. -/
def Instr.wellFormed : Instr → Bool
  | .cache op _ _ => op.wellFormed
  | .addFmt fmt _ _ _ => fmt.wellFormed
  | .subFmt fmt _ _ _ => fmt.wellFormed
  | .mulFmt fmt _ _ _ => fmt.wellFormed
  | .divFmt fmt _ _ _ => fmt.wellFormed
  | .sqrtFmt fmt _ _ => fmt.wellFormed
  | .absFmt fmt _ _ => fmt.wellFormed
  | .movFmt fmt _ _ => fmt.wellFormed
  | .negFmt fmt _ _ => fmt.wellFormed
  | .roundLFmt fmt _ _ => fmt.wellFormed
  | .truncLFmt fmt _ _ => fmt.wellFormed
  | .ceilLFmt fmt _ _ => fmt.wellFormed
  | .floorLFmt fmt _ _ => fmt.wellFormed
  | .roundWFmt fmt _ _ => fmt.wellFormed
  | .truncWFmt fmt _ _ => fmt.wellFormed
  | .ceilWFmt fmt _ _ => fmt.wellFormed
  | .floorWFmt fmt _ _ => fmt.wellFormed
  | .cvtSFmt fmt _ _ => fmt.wellFormed
  | .cvtDFmt fmt _ _ => fmt.wellFormed
  | .cvtWFmt fmt _ _ => fmt.wellFormed
  | .cvtLFmt fmt _ _ => fmt.wellFormed
  | .cFFmt fmt _ _ => fmt.wellFormed
  | .cUnFmt fmt _ _ => fmt.wellFormed
  | .cEqFmt fmt _ _ => fmt.wellFormed
  | .cUeqFmt fmt _ _ => fmt.wellFormed
  | .cOltFmt fmt _ _ => fmt.wellFormed
  | .cUltFmt fmt _ _ => fmt.wellFormed
  | .cOleFmt fmt _ _ => fmt.wellFormed
  | .cUleFmt fmt _ _ => fmt.wellFormed
  | .cSfFmt fmt _ _ => fmt.wellFormed
  | .cNgleFmt fmt _ _ => fmt.wellFormed
  | .cSeqFmt fmt _ _ => fmt.wellFormed
  | .cNglFmt fmt _ _ => fmt.wellFormed
  | .cLtFmt fmt _ _ => fmt.wellFormed
  | .cNgeFmt fmt _ _ => fmt.wellFormed
  | .cLeFmt fmt _ _ => fmt.wellFormed
  | .cNgtFmt fmt _ _ => fmt.wellFormed
  | _ => true

end Sys2Proof
end

