-- ==== Sys2Proof/Decode.lean ====
section
/-! DEFINITION. Decoding and encoding of the 32-bit instruction words (spec/30_encoding.md): the fields of a word, the
decoder by the opcode maps, the words that are no instruction, rejected by name, and the encoder. -/

namespace Sys2Proof

/-! ## Fields of a word (R221, R238, R241) -/

/-- Bits 31:26. -/
def opField (w : Word) : BitVec 6 := w.extractLsb' 26 6
/-- Bits 25:21: rs, base, the second selector of COPz. -/
def rsField (w : Word) : BitVec 5 := w.extractLsb' 21 5
/-- Bits 20:16: rt, ft, the selector of REGIMM and BC, the hint of PREF, the op of CACHE. -/
def rtField (w : Word) : BitVec 5 := w.extractLsb' 16 5
/-- Bits 15:11: rd, fs. -/
def rdField (w : Word) : BitVec 5 := w.extractLsb' 11 5
/-- Bits 10:6: sa, fd. -/
def saField (w : Word) : BitVec 5 := w.extractLsb' 6 5
/-- Bits 5:0. -/
def functField (w : Word) : BitVec 6 := w.extractLsb' 0 6
/-- Bits 15:0: immediate, displacement. -/
def immField (w : Word) : BitVec 16 := w.extractLsb' 0 16
/-- Bits 25:0: the target of a jump. -/
def targetField (w : Word) : BitVec 26 := w.extractLsb' 0 26
/-- Bits 24:0: the operation of COP2. -/
def cofunField (w : Word) : BitVec 25 := w.extractLsb' 0 25
/-- Bit 25: the word is a coprocessor operation (CO). -/
def coBit (w : Word) : Bool := w.getLsbD 25
/-- Bits 24:21: the format of a floating-point operation below the CO bit. -/
def fmtField (w : Word) : BitVec 4 := w.extractLsb' 21 4
/-- Bits 25:6: the code of SYSCALL, BREAK, SDBBP (R241). -/
def codeField20 (w : Word) : BitVec 20 := w.extractLsb' 6 20
/-- Bits 15:6: the code of the register traps (R241). -/
def codeField10 (w : Word) : BitVec 10 := w.extractLsb' 6 10

/-- The format named by bits 24:21 (R236). -/
def Fmt.ofCode (c : BitVec 4) : Fmt :=
  if c = 0#4 then .s else if c = 1#4 then .d else if c = 4#4 then .w else if c = 5#4 then .l else .reserved c

/-- Bits 24:21 of a format (R236). -/
def Fmt.code : Fmt → BitVec 4
  | .s => 0#4
  | .d => 1#4
  | .w => 4#4
  | .l => 5#4
  | .reserved c => c

/-- The CACHE operation named by the op field (21_cache.md R190). -/
def CacheOp.ofCode (c : BitVec 5) : CacheOp :=
  match c.toNat with
  | 0x00 => .indexInvalidateI
  | 0x01 => .indexWriteBackInvalidateD
  | 0x04 => .indexLoadTagI
  | 0x05 => .indexLoadTagD
  | 0x08 => .indexStoreTagI
  | 0x09 => .indexStoreTagD
  | 0x0D => .createDirtyExclusiveD
  | 0x10 => .hitInvalidateI
  | 0x11 => .hitInvalidateD
  | 0x14 => .fillI
  | 0x15 => .hitWriteBackInvalidateD
  | 0x19 => .hitWriteBackD
  | 0x1D => .fillD
  | _ => .undefined c

/-- The op field of a CACHE operation (21_cache.md R190). -/
def CacheOp.code : CacheOp → BitVec 5
  | .indexInvalidateI => 0x00#5
  | .indexWriteBackInvalidateD => 0x01#5
  | .indexLoadTagI => 0x04#5
  | .indexLoadTagD => 0x05#5
  | .indexStoreTagI => 0x08#5
  | .indexStoreTagD => 0x09#5
  | .createDirtyExclusiveD => 0x0D#5
  | .hitInvalidateI => 0x10#5
  | .hitInvalidateD => 0x11#5
  | .fillI => 0x14#5
  | .hitWriteBackInvalidateD => 0x15#5
  | .hitWriteBackD => 0x19#5
  | .fillD => 0x1D#5
  | .undefined c => c

/-! ## Words that are no instruction -/

/-- Why a word is no instruction (R225, R233): each outcome is one the step executes (`execReject`). -/
inductive Reject where
  /-- A cell marked `*` or gamma outside the coprocessor maps: Reserved Instruction. -/
  | reserved
  /-- An undefined cell of the COPz maps, z = 0, 2, 3, or of the BC map of z: Coprocessor Unusable when z is
  unusable, else Reserved Instruction (R235, 45_coprocessor.md R451 to R453). The DMF and DMT cells of COP3 are among
  them (90_conflicts.md C48, against R231; log entry 52). -/
  | copReserved (z : BitVec 2)
  /-- A phi cell of the COP0 function map: no operation, after the usability check (R234). -/
  | cop0Nop
  /-- A delta cell of the COP1 maps: Unimplemented Operation, after the usability check (R237 to R240). -/
  | fpuUnimplemented
  /-- Fewer than four bytes: the bytes hold no instruction word. -/
  | short
  deriving DecidableEq, Repr

/-! ## The decoder (R225 to R240) -/

/-- SPECIAL, op = 0x00, by funct (R227). -/
def decodeSpecial (w : Word) : Except Reject Instr :=
  match (functField w).toNat with
  | 0x00 => .ok (.sll (rdField w) (rtField w) (saField w))
  | 0x02 => .ok (.srl (rdField w) (rtField w) (saField w))
  | 0x03 => .ok (.sra (rdField w) (rtField w) (saField w))
  | 0x04 => .ok (.sllv (rdField w) (rtField w) (rsField w))
  | 0x06 => .ok (.srlv (rdField w) (rtField w) (rsField w))
  | 0x07 => .ok (.srav (rdField w) (rtField w) (rsField w))
  | 0x08 => .ok (.jr (rsField w))
  | 0x09 => .ok (.jalr (rdField w) (rsField w))
  | 0x0C => .ok (.syscall (codeField20 w))
  | 0x0D => .ok (.brk (codeField20 w))
  | 0x0E => .ok (.sdbbp (codeField20 w))
  | 0x0F => .ok .sync
  | 0x10 => .ok (.mfhi (rdField w))
  | 0x11 => .ok (.mthi (rsField w))
  | 0x12 => .ok (.mflo (rdField w))
  | 0x13 => .ok (.mtlo (rsField w))
  | 0x14 => .ok (.dsllv (rdField w) (rtField w) (rsField w))
  | 0x16 => .ok (.dsrlv (rdField w) (rtField w) (rsField w))
  | 0x17 => .ok (.dsrav (rdField w) (rtField w) (rsField w))
  | 0x18 => .ok (.mult (rdField w) (rsField w) (rtField w))
  | 0x19 => .ok (.multu (rdField w) (rsField w) (rtField w))
  | 0x1A => .ok (.div (rsField w) (rtField w))
  | 0x1B => .ok (.divu (rsField w) (rtField w))
  | 0x1C => .ok (.dmult (rdField w) (rsField w) (rtField w))
  | 0x1D => .ok (.dmultu (rdField w) (rsField w) (rtField w))
  | 0x1E => .ok (.ddiv (rsField w) (rtField w))
  | 0x1F => .ok (.ddivu (rsField w) (rtField w))
  | 0x20 => .ok (.add (rdField w) (rsField w) (rtField w))
  | 0x21 => .ok (.addu (rdField w) (rsField w) (rtField w))
  | 0x22 => .ok (.sub (rdField w) (rsField w) (rtField w))
  | 0x23 => .ok (.subu (rdField w) (rsField w) (rtField w))
  | 0x24 => .ok (.and (rdField w) (rsField w) (rtField w))
  | 0x25 => .ok (.or (rdField w) (rsField w) (rtField w))
  | 0x26 => .ok (.xor (rdField w) (rsField w) (rtField w))
  | 0x27 => .ok (.nor (rdField w) (rsField w) (rtField w))
  | 0x2A => .ok (.slt (rdField w) (rsField w) (rtField w))
  | 0x2B => .ok (.sltu (rdField w) (rsField w) (rtField w))
  | 0x2C => .ok (.dadd (rdField w) (rsField w) (rtField w))
  | 0x2D => .ok (.daddu (rdField w) (rsField w) (rtField w))
  | 0x2E => .ok (.dsub (rdField w) (rsField w) (rtField w))
  | 0x2F => .ok (.dsubu (rdField w) (rsField w) (rtField w))
  | 0x30 => .ok (.tge (rsField w) (rtField w) (codeField10 w))
  | 0x31 => .ok (.tgeu (rsField w) (rtField w) (codeField10 w))
  | 0x32 => .ok (.tlt (rsField w) (rtField w) (codeField10 w))
  | 0x33 => .ok (.tltu (rsField w) (rtField w) (codeField10 w))
  | 0x34 => .ok (.teq (rsField w) (rtField w) (codeField10 w))
  | 0x36 => .ok (.tne (rsField w) (rtField w) (codeField10 w))
  | 0x38 => .ok (.dsll (rdField w) (rtField w) (saField w))
  | 0x3A => .ok (.dsrl (rdField w) (rtField w) (saField w))
  | 0x3B => .ok (.dsra (rdField w) (rtField w) (saField w))
  | 0x3C => .ok (.dsll32 (rdField w) (rtField w) (saField w))
  | 0x3E => .ok (.dsrl32 (rdField w) (rtField w) (saField w))
  | 0x3F => .ok (.dsra32 (rdField w) (rtField w) (saField w))
  | _ => .error .reserved

/-- REGIMM, op = 0x01, by rt (R228). -/
def decodeRegimm (w : Word) : Except Reject Instr :=
  match (rtField w).toNat with
  | 0x00 => .ok (.bltz (rsField w) (immField w))
  | 0x01 => .ok (.bgez (rsField w) (immField w))
  | 0x02 => .ok (.bltzl (rsField w) (immField w))
  | 0x03 => .ok (.bgezl (rsField w) (immField w))
  | 0x08 => .ok (.tgei (rsField w) (immField w))
  | 0x09 => .ok (.tgeiu (rsField w) (immField w))
  | 0x0A => .ok (.tlti (rsField w) (immField w))
  | 0x0B => .ok (.tltiu (rsField w) (immField w))
  | 0x0C => .ok (.teqi (rsField w) (immField w))
  | 0x0E => .ok (.tnei (rsField w) (immField w))
  | 0x10 => .ok (.bltzal (rsField w) (immField w))
  | 0x11 => .ok (.bgezal (rsField w) (immField w))
  | 0x12 => .ok (.bltzall (rsField w) (immField w))
  | 0x13 => .ok (.bgezall (rsField w) (immField w))
  | _ => .error .reserved

/-- MAC, op = 0x1C, by funct (R232). -/
def decodeMac (w : Word) : Except Reject Instr :=
  match (functField w).toNat with
  | 0x00 => .ok (.madd (rdField w) (rsField w) (rtField w))
  | 0x01 => .ok (.maddu (rdField w) (rsField w) (rtField w))
  | _ => .error .reserved

/-- The branches on coprocessor condition 0, op = 0x10, rs = BC, by rt (R230). -/
def decodeBc0 (w : Word) : Except Reject Instr :=
  match (rtField w).toNat with
  | 0x00 => .ok (.bc0f (immField w))
  | 0x01 => .ok (.bc0t (immField w))
  | 0x02 => .ok (.bc0fl (immField w))
  | 0x03 => .ok (.bc0tl (immField w))
  | _ => .error (.copReserved 0#2)

/-- The branches on coprocessor condition 1, op = 0x11, rs = BC, by rt (R230). -/
def decodeBc1 (w : Word) : Except Reject Instr :=
  match (rtField w).toNat with
  | 0x00 => .ok (.bc1f (immField w))
  | 0x01 => .ok (.bc1t (immField w))
  | 0x02 => .ok (.bc1fl (immField w))
  | 0x03 => .ok (.bc1tl (immField w))
  | _ => .error (.copReserved 1#2)

/-- The branches on coprocessor condition 2, op = 0x12, rs = BC, by rt (R230). -/
def decodeBc2 (w : Word) : Except Reject Instr :=
  match (rtField w).toNat with
  | 0x00 => .ok (.bc2f (immField w))
  | 0x01 => .ok (.bc2t (immField w))
  | 0x02 => .ok (.bc2fl (immField w))
  | 0x03 => .ok (.bc2tl (immField w))
  | _ => .error (.copReserved 2#2)

/-- The branches on coprocessor condition 3, op = 0x13, rs = BC, by rt (R230). -/
def decodeBc3 (w : Word) : Except Reject Instr :=
  match (rtField w).toNat with
  | 0x00 => .ok (.bc3f (immField w))
  | 0x01 => .ok (.bc3t (immField w))
  | 0x02 => .ok (.bc3fl (immField w))
  | 0x03 => .ok (.bc3tl (immField w))
  | _ => .error (.copReserved 3#2)

/-- COP0 operations, op = 0x10 with bit 25 set, by funct (R234). -/
def decodeCop0Co (w : Word) : Except Reject Instr :=
  match (functField w).toNat with
  | 0x01 => .ok .tlbr
  | 0x02 => .ok .tlbwi
  | 0x06 => .ok .tlbwr
  | 0x08 => .ok .tlbp
  | 0x18 => .ok .eret
  | 0x1F => .ok .deret
  | 0x20 => .ok .wait
  | _ => .error .cop0Nop

/-- COP0, op = 0x10, by rs (R229, R234). -/
def decodeCop0 (w : Word) : Except Reject Instr :=
  if coBit w then decodeCop0Co w else
  match (rsField w).toNat with
  | 0x00 => .ok (.mfc0 (rtField w) (rdField w))
  | 0x01 => .ok (.dmfc0 (rtField w) (rdField w))
  | 0x02 => .ok (.cfc0 (rtField w) (rdField w))
  | 0x04 => .ok (.mtc0 (rtField w) (rdField w))
  | 0x05 => .ok (.dmtc0 (rtField w) (rdField w))
  | 0x06 => .ok (.ctc0 (rtField w) (rdField w))
  | 0x08 => decodeBc0 w
  | _ => .error (.copReserved 0#2)

/-- COP1 operations, op = 0x11 with bit 25 set, by function (R238). -/
def decodeCop1Op (w : Word) : Except Reject Instr :=
  match (functField w).toNat with
  | 0x00 => .ok (.addFmt (Fmt.ofCode (fmtField w)) (saField w) (rdField w) (rtField w))
  | 0x01 => .ok (.subFmt (Fmt.ofCode (fmtField w)) (saField w) (rdField w) (rtField w))
  | 0x02 => .ok (.mulFmt (Fmt.ofCode (fmtField w)) (saField w) (rdField w) (rtField w))
  | 0x03 => .ok (.divFmt (Fmt.ofCode (fmtField w)) (saField w) (rdField w) (rtField w))
  | 0x04 => .ok (.sqrtFmt (Fmt.ofCode (fmtField w)) (saField w) (rdField w))
  | 0x05 => .ok (.absFmt (Fmt.ofCode (fmtField w)) (saField w) (rdField w))
  | 0x06 => .ok (.movFmt (Fmt.ofCode (fmtField w)) (saField w) (rdField w))
  | 0x07 => .ok (.negFmt (Fmt.ofCode (fmtField w)) (saField w) (rdField w))
  | 0x08 => .ok (.roundLFmt (Fmt.ofCode (fmtField w)) (saField w) (rdField w))
  | 0x09 => .ok (.truncLFmt (Fmt.ofCode (fmtField w)) (saField w) (rdField w))
  | 0x0A => .ok (.ceilLFmt (Fmt.ofCode (fmtField w)) (saField w) (rdField w))
  | 0x0B => .ok (.floorLFmt (Fmt.ofCode (fmtField w)) (saField w) (rdField w))
  | 0x0C => .ok (.roundWFmt (Fmt.ofCode (fmtField w)) (saField w) (rdField w))
  | 0x0D => .ok (.truncWFmt (Fmt.ofCode (fmtField w)) (saField w) (rdField w))
  | 0x0E => .ok (.ceilWFmt (Fmt.ofCode (fmtField w)) (saField w) (rdField w))
  | 0x0F => .ok (.floorWFmt (Fmt.ofCode (fmtField w)) (saField w) (rdField w))
  | 0x20 => .ok (.cvtSFmt (Fmt.ofCode (fmtField w)) (saField w) (rdField w))
  | 0x21 => .ok (.cvtDFmt (Fmt.ofCode (fmtField w)) (saField w) (rdField w))
  | 0x24 => .ok (.cvtWFmt (Fmt.ofCode (fmtField w)) (saField w) (rdField w))
  | 0x25 => .ok (.cvtLFmt (Fmt.ofCode (fmtField w)) (saField w) (rdField w))
  | 0x30 => .ok (.cFFmt (Fmt.ofCode (fmtField w)) (rdField w) (rtField w))
  | 0x31 => .ok (.cUnFmt (Fmt.ofCode (fmtField w)) (rdField w) (rtField w))
  | 0x32 => .ok (.cEqFmt (Fmt.ofCode (fmtField w)) (rdField w) (rtField w))
  | 0x33 => .ok (.cUeqFmt (Fmt.ofCode (fmtField w)) (rdField w) (rtField w))
  | 0x34 => .ok (.cOltFmt (Fmt.ofCode (fmtField w)) (rdField w) (rtField w))
  | 0x35 => .ok (.cUltFmt (Fmt.ofCode (fmtField w)) (rdField w) (rtField w))
  | 0x36 => .ok (.cOleFmt (Fmt.ofCode (fmtField w)) (rdField w) (rtField w))
  | 0x37 => .ok (.cUleFmt (Fmt.ofCode (fmtField w)) (rdField w) (rtField w))
  | 0x38 => .ok (.cSfFmt (Fmt.ofCode (fmtField w)) (rdField w) (rtField w))
  | 0x39 => .ok (.cNgleFmt (Fmt.ofCode (fmtField w)) (rdField w) (rtField w))
  | 0x3A => .ok (.cSeqFmt (Fmt.ofCode (fmtField w)) (rdField w) (rtField w))
  | 0x3B => .ok (.cNglFmt (Fmt.ofCode (fmtField w)) (rdField w) (rtField w))
  | 0x3C => .ok (.cLtFmt (Fmt.ofCode (fmtField w)) (rdField w) (rtField w))
  | 0x3D => .ok (.cNgeFmt (Fmt.ofCode (fmtField w)) (rdField w) (rtField w))
  | 0x3E => .ok (.cLeFmt (Fmt.ofCode (fmtField w)) (rdField w) (rtField w))
  | 0x3F => .ok (.cNgtFmt (Fmt.ofCode (fmtField w)) (rdField w) (rtField w))
  | _ => .error .fpuUnimplemented

/-- COP1, op = 0x11, by rs (R237). -/
def decodeCop1 (w : Word) : Except Reject Instr :=
  if coBit w then decodeCop1Op w else
  match (rsField w).toNat with
  | 0x00 => .ok (.mfc1 (rtField w) (rdField w))
  | 0x01 => .ok (.dmfc1 (rtField w) (rdField w))
  | 0x02 => .ok (.cfc1 (rtField w) (rdField w))
  | 0x04 => .ok (.mtc1 (rtField w) (rdField w))
  | 0x05 => .ok (.dmtc1 (rtField w) (rdField w))
  | 0x06 => .ok (.ctc1 (rtField w) (rdField w))
  | 0x08 => decodeBc1 w
  | _ => .error .fpuUnimplemented

/-- COP2, op = 0x12, by rs (R229, 45_coprocessor.md R452). -/
def decodeCop2 (w : Word) : Except Reject Instr :=
  if coBit w then .ok (.cop2 (cofunField w)) else
  match (rsField w).toNat with
  | 0x00 => .ok (.mfc2 (rtField w) (rdField w))
  | 0x01 => .ok (.dmfc2 (rtField w) (rdField w))
  | 0x02 => .ok (.cfc2 (rtField w) (rdField w))
  | 0x04 => .ok (.mtc2 (rtField w) (rdField w))
  | 0x05 => .ok (.dmtc2 (rtField w) (rdField w))
  | 0x06 => .ok (.ctc2 (rtField w) (rdField w))
  | 0x08 => decodeBc2 w
  | _ => .error (.copReserved 2#2)

/-- COP3, op = 0x13: only the BC forms are valid (R233 theta, 45_coprocessor.md R453, 90_conflicts.md C48). -/
def decodeCop3 (w : Word) : Except Reject Instr :=
  match (rsField w).toNat with
  | 0x08 => decodeBc3 w
  | _ => .error (.copReserved 3#2)

/-- The decoder: the main opcode map (R226) and the class maps. -/
def decode (w : Word) : Except Reject Instr :=
  match (opField w).toNat with
  | 0x00 => decodeSpecial w
  | 0x01 => decodeRegimm w
  | 0x02 => .ok (.j (targetField w))
  | 0x03 => .ok (.jal (targetField w))
  | 0x04 => .ok (.beq (rsField w) (rtField w) (immField w))
  | 0x05 => .ok (.bne (rsField w) (rtField w) (immField w))
  | 0x06 => .ok (.blez (rsField w) (immField w))
  | 0x07 => .ok (.bgtz (rsField w) (immField w))
  | 0x08 => .ok (.addi (rtField w) (rsField w) (immField w))
  | 0x09 => .ok (.addiu (rtField w) (rsField w) (immField w))
  | 0x0A => .ok (.slti (rtField w) (rsField w) (immField w))
  | 0x0B => .ok (.sltiu (rtField w) (rsField w) (immField w))
  | 0x0C => .ok (.andi (rtField w) (rsField w) (immField w))
  | 0x0D => .ok (.ori (rtField w) (rsField w) (immField w))
  | 0x0E => .ok (.xori (rtField w) (rsField w) (immField w))
  | 0x0F => .ok (.lui (rtField w) (immField w))
  | 0x10 => decodeCop0 w
  | 0x11 => decodeCop1 w
  | 0x12 => decodeCop2 w
  | 0x13 => decodeCop3 w
  | 0x14 => .ok (.beql (rsField w) (rtField w) (immField w))
  | 0x15 => .ok (.bnel (rsField w) (rtField w) (immField w))
  | 0x16 => .ok (.blezl (rsField w) (immField w))
  | 0x17 => .ok (.bgtzl (rsField w) (immField w))
  | 0x18 => .ok (.daddi (rtField w) (rsField w) (immField w))
  | 0x19 => .ok (.daddiu (rtField w) (rsField w) (immField w))
  | 0x1A => .ok (.ldl (rtField w) (immField w) (rsField w))
  | 0x1B => .ok (.ldr (rtField w) (immField w) (rsField w))
  | 0x1C => decodeMac w
  | 0x20 => .ok (.lb (rtField w) (immField w) (rsField w))
  | 0x21 => .ok (.lh (rtField w) (immField w) (rsField w))
  | 0x22 => .ok (.lwl (rtField w) (immField w) (rsField w))
  | 0x23 => .ok (.lw (rtField w) (immField w) (rsField w))
  | 0x24 => .ok (.lbu (rtField w) (immField w) (rsField w))
  | 0x25 => .ok (.lhu (rtField w) (immField w) (rsField w))
  | 0x26 => .ok (.lwr (rtField w) (immField w) (rsField w))
  | 0x27 => .ok (.lwu (rtField w) (immField w) (rsField w))
  | 0x28 => .ok (.sb (rtField w) (immField w) (rsField w))
  | 0x29 => .ok (.sh (rtField w) (immField w) (rsField w))
  | 0x2A => .ok (.swl (rtField w) (immField w) (rsField w))
  | 0x2B => .ok (.sw (rtField w) (immField w) (rsField w))
  | 0x2C => .ok (.sdl (rtField w) (immField w) (rsField w))
  | 0x2D => .ok (.sdr (rtField w) (immField w) (rsField w))
  | 0x2E => .ok (.swr (rtField w) (immField w) (rsField w))
  | 0x2F => .ok (.cache (CacheOp.ofCode (rtField w)) (immField w) (rsField w))
  | 0x30 => .ok (.ll (rtField w) (immField w) (rsField w))
  | 0x31 => .ok (.lwc1 (rtField w) (immField w) (rsField w))
  | 0x32 => .ok (.lwc2 (rtField w) (immField w) (rsField w))
  | 0x33 => .ok (.pref (rtField w) (immField w) (rsField w))
  | 0x34 => .ok (.lld (rtField w) (immField w) (rsField w))
  | 0x35 => .ok (.ldc1 (rtField w) (immField w) (rsField w))
  | 0x36 => .ok (.ldc2 (rtField w) (immField w) (rsField w))
  | 0x37 => .ok (.ld (rtField w) (immField w) (rsField w))
  | 0x38 => .ok (.sc (rtField w) (immField w) (rsField w))
  | 0x39 => .ok (.swc1 (rtField w) (immField w) (rsField w))
  | 0x3A => .ok (.swc2 (rtField w) (immField w) (rsField w))
  | 0x3C => .ok (.scd (rtField w) (immField w) (rsField w))
  | 0x3D => .ok (.sdc1 (rtField w) (immField w) (rsField w))
  | 0x3E => .ok (.sdc2 (rtField w) (immField w) (rsField w))
  | 0x3F => .ok (.sd (rtField w) (immField w) (rsField w))
  | _ => .error .reserved

/-- The word held by four bytes in the byte order `be` (1 big endian), first byte at the lowest address
(20_memory.md R122). -/
def wordOfBytes (be : Bool) (b0 b1 b2 b3 : Byte) : Word :=
  if be then b0 ++ b1 ++ b2 ++ b3 else b3 ++ b2 ++ b1 ++ b0

/-- Decode the instruction at the head of a list of bytes and return the rest of the list. -/
def decodeBytes (be : Bool) : List Byte → Except Reject (Instr × List Byte)
  | b0 :: b1 :: b2 :: b3 :: rest =>
    match decode (wordOfBytes be b0 b1 b2 b3) with
    | .ok i => .ok (i, rest)
    | .error r => .error r
  | _ => .error .short

/-- Byte `k` of a word laid out in the byte order `be` (20_memory.md R122). -/
def byteOfWord (be : Bool) (w : Word) (k : Nat) : Byte :=
  w.extractLsb' (8 * (if be then 3 - k else k)) 8

/-- The four bytes of a word, in the byte order `be`, lowest address first. -/
def bytesOfWord (be : Bool) (w : Word) : List Byte :=
  [byteOfWord be w 0, byteOfWord be w 1, byteOfWord be w 2, byteOfWord be w 3]

/-- The instruction the decoder reads from a word numbered as spec/opcode_table.json numbers it: the word is laid
out as four bytes (little endian, the reset value of Config.BE in this model) and decoded. -/
def decodeTableWord (nbits w : Nat) : Option Instr :=
  match decodeBytes false (bytesOfWord false (BitVec.ofNat 32 (w % 2 ^ nbits))) with
  | .ok (i, _) => some i
  | .error _ => none

/-! ## The encoder -/

/-- An I-type word (R221). -/
def iType (op : BitVec 6) (rs rt : BitVec 5) (imm : BitVec 16) : Word := op ++ rs ++ rt ++ imm
/-- A J-type word (R221). -/
def jType (op : BitVec 6) (target : BitVec 26) : Word := op ++ target
/-- An R-type word (R221); also the COP1 operation word (R238). -/
def rType (op : BitVec 6) (rs rt rd sa : BitVec 5) (funct : BitVec 6) : Word := op ++ rs ++ rt ++ rd ++ sa ++ funct
/-- A SPECIAL word with a 20-bit code (R241). -/
def code20Type (code : BitVec 20) (funct : BitVec 6) : Word := 0#6 ++ code ++ funct
/-- A SPECIAL word with a 10-bit code (R241). -/
def code10Type (rs rt : BitVec 5) (code : BitVec 10) (funct : BitVec 6) : Word := 0#6 ++ rs ++ rt ++ code ++ funct
/-- A COP2 operation word (R229). -/
def cop2Type (cofun : BitVec 25) : Word := 0x12#6 ++ 1#1 ++ cofun

/-- Bits 25:21 of a floating-point operation of format `fmt`. -/
def fmtRs (fmt : Fmt) : BitVec 5 := 1#1 ++ fmt.code

/-- The word of an instruction; fields it does not use are zero (R224). -/
def encode : Instr → Word
  | .lb rt offset base => iType 0x20#6 base rt offset
  | .lbu rt offset base => iType 0x24#6 base rt offset
  | .lh rt offset base => iType 0x21#6 base rt offset
  | .lhu rt offset base => iType 0x25#6 base rt offset
  | .lw rt offset base => iType 0x23#6 base rt offset
  | .lwu rt offset base => iType 0x27#6 base rt offset
  | .ld rt offset base => iType 0x37#6 base rt offset
  | .sb rt offset base => iType 0x28#6 base rt offset
  | .sh rt offset base => iType 0x29#6 base rt offset
  | .sw rt offset base => iType 0x2B#6 base rt offset
  | .sd rt offset base => iType 0x3F#6 base rt offset
  | .lwl rt offset base => iType 0x22#6 base rt offset
  | .lwr rt offset base => iType 0x26#6 base rt offset
  | .swl rt offset base => iType 0x2A#6 base rt offset
  | .swr rt offset base => iType 0x2E#6 base rt offset
  | .ldl rt offset base => iType 0x1A#6 base rt offset
  | .ldr rt offset base => iType 0x1B#6 base rt offset
  | .sdl rt offset base => iType 0x2C#6 base rt offset
  | .sdr rt offset base => iType 0x2D#6 base rt offset
  | .ll rt offset base => iType 0x30#6 base rt offset
  | .lld rt offset base => iType 0x34#6 base rt offset
  | .sc rt offset base => iType 0x38#6 base rt offset
  | .scd rt offset base => iType 0x3C#6 base rt offset
  | .addi rt rs imm => iType 0x08#6 rs rt imm
  | .addiu rt rs imm => iType 0x09#6 rs rt imm
  | .slti rt rs imm => iType 0x0A#6 rs rt imm
  | .sltiu rt rs imm => iType 0x0B#6 rs rt imm
  | .andi rt rs imm => iType 0x0C#6 rs rt imm
  | .ori rt rs imm => iType 0x0D#6 rs rt imm
  | .xori rt rs imm => iType 0x0E#6 rs rt imm
  | .daddi rt rs imm => iType 0x18#6 rs rt imm
  | .daddiu rt rs imm => iType 0x19#6 rs rt imm
  | .lui rt imm => iType 0x0F#6 0#5 rt imm
  | .add rd rs rt => rType 0x00#6 rs rt rd 0#5 0x20#6
  | .addu rd rs rt => rType 0x00#6 rs rt rd 0#5 0x21#6
  | .sub rd rs rt => rType 0x00#6 rs rt rd 0#5 0x22#6
  | .subu rd rs rt => rType 0x00#6 rs rt rd 0#5 0x23#6
  | .slt rd rs rt => rType 0x00#6 rs rt rd 0#5 0x2A#6
  | .sltu rd rs rt => rType 0x00#6 rs rt rd 0#5 0x2B#6
  | .and rd rs rt => rType 0x00#6 rs rt rd 0#5 0x24#6
  | .or rd rs rt => rType 0x00#6 rs rt rd 0#5 0x25#6
  | .xor rd rs rt => rType 0x00#6 rs rt rd 0#5 0x26#6
  | .nor rd rs rt => rType 0x00#6 rs rt rd 0#5 0x27#6
  | .dadd rd rs rt => rType 0x00#6 rs rt rd 0#5 0x2C#6
  | .daddu rd rs rt => rType 0x00#6 rs rt rd 0#5 0x2D#6
  | .dsub rd rs rt => rType 0x00#6 rs rt rd 0#5 0x2E#6
  | .dsubu rd rs rt => rType 0x00#6 rs rt rd 0#5 0x2F#6
  | .sll rd rt sa => rType 0x00#6 0#5 rt rd sa 0x00#6
  | .srl rd rt sa => rType 0x00#6 0#5 rt rd sa 0x02#6
  | .sra rd rt sa => rType 0x00#6 0#5 rt rd sa 0x03#6
  | .dsll rd rt sa => rType 0x00#6 0#5 rt rd sa 0x38#6
  | .dsrl rd rt sa => rType 0x00#6 0#5 rt rd sa 0x3A#6
  | .dsra rd rt sa => rType 0x00#6 0#5 rt rd sa 0x3B#6
  | .dsll32 rd rt sa => rType 0x00#6 0#5 rt rd sa 0x3C#6
  | .dsrl32 rd rt sa => rType 0x00#6 0#5 rt rd sa 0x3E#6
  | .dsra32 rd rt sa => rType 0x00#6 0#5 rt rd sa 0x3F#6
  | .sllv rd rt rs => rType 0x00#6 rs rt rd 0#5 0x04#6
  | .srlv rd rt rs => rType 0x00#6 rs rt rd 0#5 0x06#6
  | .srav rd rt rs => rType 0x00#6 rs rt rd 0#5 0x07#6
  | .dsllv rd rt rs => rType 0x00#6 rs rt rd 0#5 0x14#6
  | .dsrlv rd rt rs => rType 0x00#6 rs rt rd 0#5 0x16#6
  | .dsrav rd rt rs => rType 0x00#6 rs rt rd 0#5 0x17#6
  | .mult rd rs rt => rType 0x00#6 rs rt rd 0#5 0x18#6
  | .multu rd rs rt => rType 0x00#6 rs rt rd 0#5 0x19#6
  | .dmult rd rs rt => rType 0x00#6 rs rt rd 0#5 0x1C#6
  | .dmultu rd rs rt => rType 0x00#6 rs rt rd 0#5 0x1D#6
  | .div rs rt => rType 0x00#6 rs rt 0#5 0#5 0x1A#6
  | .divu rs rt => rType 0x00#6 rs rt 0#5 0#5 0x1B#6
  | .ddiv rs rt => rType 0x00#6 rs rt 0#5 0#5 0x1E#6
  | .ddivu rs rt => rType 0x00#6 rs rt 0#5 0#5 0x1F#6
  | .mfhi rd => rType 0x00#6 0#5 0#5 rd 0#5 0x10#6
  | .mflo rd => rType 0x00#6 0#5 0#5 rd 0#5 0x12#6
  | .mthi rs => rType 0x00#6 rs 0#5 0#5 0#5 0x11#6
  | .mtlo rs => rType 0x00#6 rs 0#5 0#5 0#5 0x13#6
  | .madd rd rs rt => rType 0x1C#6 rs rt rd 0#5 0x00#6
  | .maddu rd rs rt => rType 0x1C#6 rs rt rd 0#5 0x01#6
  | .jr rs => rType 0x00#6 rs 0#5 0#5 0#5 0x08#6
  | .jalr rd rs => rType 0x00#6 rs 0#5 rd 0#5 0x09#6
  | .syscall code => code20Type code 0x0C#6
  | .brk code => code20Type code 0x0D#6
  | .sdbbp code => code20Type code 0x0E#6
  | .sync => rType 0x00#6 0x00#5 0#5 0#5 0#5 0x0F#6
  | .tge rs rt code => code10Type rs rt code 0x30#6
  | .tgeu rs rt code => code10Type rs rt code 0x31#6
  | .tlt rs rt code => code10Type rs rt code 0x32#6
  | .tltu rs rt code => code10Type rs rt code 0x33#6
  | .teq rs rt code => code10Type rs rt code 0x34#6
  | .tne rs rt code => code10Type rs rt code 0x36#6
  | .j target => jType 0x02#6 target
  | .jal target => jType 0x03#6 target
  | .beq rs rt offset => iType 0x04#6 rs rt offset
  | .bne rs rt offset => iType 0x05#6 rs rt offset
  | .blez rs offset => iType 0x06#6 rs 0x00#5 offset
  | .bgtz rs offset => iType 0x07#6 rs 0x00#5 offset
  | .beql rs rt offset => iType 0x14#6 rs rt offset
  | .bnel rs rt offset => iType 0x15#6 rs rt offset
  | .blezl rs offset => iType 0x16#6 rs 0x00#5 offset
  | .bgtzl rs offset => iType 0x17#6 rs 0x00#5 offset
  | .bltz rs offset => iType 0x01#6 rs 0x00#5 offset
  | .bgez rs offset => iType 0x01#6 rs 0x01#5 offset
  | .bltzl rs offset => iType 0x01#6 rs 0x02#5 offset
  | .bgezl rs offset => iType 0x01#6 rs 0x03#5 offset
  | .bltzal rs offset => iType 0x01#6 rs 0x10#5 offset
  | .bgezal rs offset => iType 0x01#6 rs 0x11#5 offset
  | .bltzall rs offset => iType 0x01#6 rs 0x12#5 offset
  | .bgezall rs offset => iType 0x01#6 rs 0x13#5 offset
  | .tgei rs imm => iType 0x01#6 rs 0x08#5 imm
  | .tgeiu rs imm => iType 0x01#6 rs 0x09#5 imm
  | .tlti rs imm => iType 0x01#6 rs 0x0A#5 imm
  | .tltiu rs imm => iType 0x01#6 rs 0x0B#5 imm
  | .teqi rs imm => iType 0x01#6 rs 0x0C#5 imm
  | .tnei rs imm => iType 0x01#6 rs 0x0E#5 imm
  | .lwc1 ft offset base => iType 0x31#6 base ft offset
  | .swc1 ft offset base => iType 0x39#6 base ft offset
  | .ldc1 ft offset base => iType 0x35#6 base ft offset
  | .sdc1 ft offset base => iType 0x3D#6 base ft offset
  | .lwc2 rt offset base => iType 0x32#6 base rt offset
  | .swc2 rt offset base => iType 0x3A#6 base rt offset
  | .ldc2 rt offset base => iType 0x36#6 base rt offset
  | .sdc2 rt offset base => iType 0x3E#6 base rt offset
  | .mfc0 rt rd => rType 0x10#6 0x00#5 rt rd 0#5 0#6
  | .dmfc0 rt rd => rType 0x10#6 0x01#5 rt rd 0#5 0#6
  | .cfc0 rt rd => rType 0x10#6 0x02#5 rt rd 0#5 0#6
  | .mtc0 rt rd => rType 0x10#6 0x04#5 rt rd 0#5 0#6
  | .dmtc0 rt rd => rType 0x10#6 0x05#5 rt rd 0#5 0#6
  | .ctc0 rt rd => rType 0x10#6 0x06#5 rt rd 0#5 0#6
  | .mfc1 rt fs => rType 0x11#6 0x00#5 rt fs 0#5 0#6
  | .dmfc1 rt fs => rType 0x11#6 0x01#5 rt fs 0#5 0#6
  | .cfc1 rt fs => rType 0x11#6 0x02#5 rt fs 0#5 0#6
  | .mtc1 rt fs => rType 0x11#6 0x04#5 rt fs 0#5 0#6
  | .dmtc1 rt fs => rType 0x11#6 0x05#5 rt fs 0#5 0#6
  | .ctc1 rt fs => rType 0x11#6 0x06#5 rt fs 0#5 0#6
  | .mfc2 rt rd => rType 0x12#6 0x00#5 rt rd 0#5 0#6
  | .dmfc2 rt rd => rType 0x12#6 0x01#5 rt rd 0#5 0#6
  | .cfc2 rt rd => rType 0x12#6 0x02#5 rt rd 0#5 0#6
  | .mtc2 rt rd => rType 0x12#6 0x04#5 rt rd 0#5 0#6
  | .dmtc2 rt rd => rType 0x12#6 0x05#5 rt rd 0#5 0#6
  | .ctc2 rt rd => rType 0x12#6 0x06#5 rt rd 0#5 0#6
  | .bc0f offset => iType 0x10#6 0x08#5 0x00#5 offset
  | .bc0t offset => iType 0x10#6 0x08#5 0x01#5 offset
  | .bc0fl offset => iType 0x10#6 0x08#5 0x02#5 offset
  | .bc0tl offset => iType 0x10#6 0x08#5 0x03#5 offset
  | .bc1f offset => iType 0x11#6 0x08#5 0x00#5 offset
  | .bc1t offset => iType 0x11#6 0x08#5 0x01#5 offset
  | .bc1fl offset => iType 0x11#6 0x08#5 0x02#5 offset
  | .bc1tl offset => iType 0x11#6 0x08#5 0x03#5 offset
  | .bc2f offset => iType 0x12#6 0x08#5 0x00#5 offset
  | .bc2t offset => iType 0x12#6 0x08#5 0x01#5 offset
  | .bc2fl offset => iType 0x12#6 0x08#5 0x02#5 offset
  | .bc2tl offset => iType 0x12#6 0x08#5 0x03#5 offset
  | .bc3f offset => iType 0x13#6 0x08#5 0x00#5 offset
  | .bc3t offset => iType 0x13#6 0x08#5 0x01#5 offset
  | .bc3fl offset => iType 0x13#6 0x08#5 0x02#5 offset
  | .bc3tl offset => iType 0x13#6 0x08#5 0x03#5 offset
  | .tlbr => rType 0x10#6 0x10#5 0#5 0#5 0#5 0x01#6
  | .tlbwi => rType 0x10#6 0x10#5 0#5 0#5 0#5 0x02#6
  | .tlbwr => rType 0x10#6 0x10#5 0#5 0#5 0#5 0x06#6
  | .tlbp => rType 0x10#6 0x10#5 0#5 0#5 0#5 0x08#6
  | .eret => rType 0x10#6 0x10#5 0#5 0#5 0#5 0x18#6
  | .deret => rType 0x10#6 0x10#5 0#5 0#5 0#5 0x1F#6
  | .wait => rType 0x10#6 0x10#5 0#5 0#5 0#5 0x20#6
  | .cop2 cofun => cop2Type cofun
  | .cache op offset base => iType 0x2F#6 base op.code offset
  | .pref hint offset base => iType 0x33#6 base hint offset
  | .addFmt fmt fd fs ft => rType 0x11#6 (fmtRs fmt) ft fs fd 0x00#6
  | .subFmt fmt fd fs ft => rType 0x11#6 (fmtRs fmt) ft fs fd 0x01#6
  | .mulFmt fmt fd fs ft => rType 0x11#6 (fmtRs fmt) ft fs fd 0x02#6
  | .divFmt fmt fd fs ft => rType 0x11#6 (fmtRs fmt) ft fs fd 0x03#6
  | .sqrtFmt fmt fd fs => rType 0x11#6 (fmtRs fmt) 0#5 fs fd 0x04#6
  | .absFmt fmt fd fs => rType 0x11#6 (fmtRs fmt) 0#5 fs fd 0x05#6
  | .movFmt fmt fd fs => rType 0x11#6 (fmtRs fmt) 0#5 fs fd 0x06#6
  | .negFmt fmt fd fs => rType 0x11#6 (fmtRs fmt) 0#5 fs fd 0x07#6
  | .roundLFmt fmt fd fs => rType 0x11#6 (fmtRs fmt) 0#5 fs fd 0x08#6
  | .truncLFmt fmt fd fs => rType 0x11#6 (fmtRs fmt) 0#5 fs fd 0x09#6
  | .ceilLFmt fmt fd fs => rType 0x11#6 (fmtRs fmt) 0#5 fs fd 0x0A#6
  | .floorLFmt fmt fd fs => rType 0x11#6 (fmtRs fmt) 0#5 fs fd 0x0B#6
  | .roundWFmt fmt fd fs => rType 0x11#6 (fmtRs fmt) 0#5 fs fd 0x0C#6
  | .truncWFmt fmt fd fs => rType 0x11#6 (fmtRs fmt) 0#5 fs fd 0x0D#6
  | .ceilWFmt fmt fd fs => rType 0x11#6 (fmtRs fmt) 0#5 fs fd 0x0E#6
  | .floorWFmt fmt fd fs => rType 0x11#6 (fmtRs fmt) 0#5 fs fd 0x0F#6
  | .cvtSFmt fmt fd fs => rType 0x11#6 (fmtRs fmt) 0#5 fs fd 0x20#6
  | .cvtDFmt fmt fd fs => rType 0x11#6 (fmtRs fmt) 0#5 fs fd 0x21#6
  | .cvtWFmt fmt fd fs => rType 0x11#6 (fmtRs fmt) 0#5 fs fd 0x24#6
  | .cvtLFmt fmt fd fs => rType 0x11#6 (fmtRs fmt) 0#5 fs fd 0x25#6
  | .cFFmt fmt fs ft => rType 0x11#6 (fmtRs fmt) ft fs 0#5 0x30#6
  | .cUnFmt fmt fs ft => rType 0x11#6 (fmtRs fmt) ft fs 0#5 0x31#6
  | .cEqFmt fmt fs ft => rType 0x11#6 (fmtRs fmt) ft fs 0#5 0x32#6
  | .cUeqFmt fmt fs ft => rType 0x11#6 (fmtRs fmt) ft fs 0#5 0x33#6
  | .cOltFmt fmt fs ft => rType 0x11#6 (fmtRs fmt) ft fs 0#5 0x34#6
  | .cUltFmt fmt fs ft => rType 0x11#6 (fmtRs fmt) ft fs 0#5 0x35#6
  | .cOleFmt fmt fs ft => rType 0x11#6 (fmtRs fmt) ft fs 0#5 0x36#6
  | .cUleFmt fmt fs ft => rType 0x11#6 (fmtRs fmt) ft fs 0#5 0x37#6
  | .cSfFmt fmt fs ft => rType 0x11#6 (fmtRs fmt) ft fs 0#5 0x38#6
  | .cNgleFmt fmt fs ft => rType 0x11#6 (fmtRs fmt) ft fs 0#5 0x39#6
  | .cSeqFmt fmt fs ft => rType 0x11#6 (fmtRs fmt) ft fs 0#5 0x3A#6
  | .cNglFmt fmt fs ft => rType 0x11#6 (fmtRs fmt) ft fs 0#5 0x3B#6
  | .cLtFmt fmt fs ft => rType 0x11#6 (fmtRs fmt) ft fs 0#5 0x3C#6
  | .cNgeFmt fmt fs ft => rType 0x11#6 (fmtRs fmt) ft fs 0#5 0x3D#6
  | .cLeFmt fmt fs ft => rType 0x11#6 (fmtRs fmt) ft fs 0#5 0x3E#6
  | .cNgtFmt fmt fs ft => rType 0x11#6 (fmtRs fmt) ft fs 0#5 0x3F#6

/-! ## The rows of the opcode table -/

/-- The mask and the match of an instruction's row of spec/opcode_table.json (30_encoding.md R222, R243). -/
def Instr.row : Instr → Word × Word
  | .lb .. => (0xFC000000#32, 0x80000000#32)
  | .lbu .. => (0xFC000000#32, 0x90000000#32)
  | .lh .. => (0xFC000000#32, 0x84000000#32)
  | .lhu .. => (0xFC000000#32, 0x94000000#32)
  | .lw .. => (0xFC000000#32, 0x8C000000#32)
  | .lwu .. => (0xFC000000#32, 0x9C000000#32)
  | .ld .. => (0xFC000000#32, 0xDC000000#32)
  | .sb .. => (0xFC000000#32, 0xA0000000#32)
  | .sh .. => (0xFC000000#32, 0xA4000000#32)
  | .sw .. => (0xFC000000#32, 0xAC000000#32)
  | .sd .. => (0xFC000000#32, 0xFC000000#32)
  | .lwl .. => (0xFC000000#32, 0x88000000#32)
  | .lwr .. => (0xFC000000#32, 0x98000000#32)
  | .swl .. => (0xFC000000#32, 0xA8000000#32)
  | .swr .. => (0xFC000000#32, 0xB8000000#32)
  | .ldl .. => (0xFC000000#32, 0x68000000#32)
  | .ldr .. => (0xFC000000#32, 0x6C000000#32)
  | .sdl .. => (0xFC000000#32, 0xB0000000#32)
  | .sdr .. => (0xFC000000#32, 0xB4000000#32)
  | .ll .. => (0xFC000000#32, 0xC0000000#32)
  | .lld .. => (0xFC000000#32, 0xD0000000#32)
  | .sc .. => (0xFC000000#32, 0xE0000000#32)
  | .scd .. => (0xFC000000#32, 0xF0000000#32)
  | .addi .. => (0xFC000000#32, 0x20000000#32)
  | .addiu .. => (0xFC000000#32, 0x24000000#32)
  | .slti .. => (0xFC000000#32, 0x28000000#32)
  | .sltiu .. => (0xFC000000#32, 0x2C000000#32)
  | .andi .. => (0xFC000000#32, 0x30000000#32)
  | .ori .. => (0xFC000000#32, 0x34000000#32)
  | .xori .. => (0xFC000000#32, 0x38000000#32)
  | .daddi .. => (0xFC000000#32, 0x60000000#32)
  | .daddiu .. => (0xFC000000#32, 0x64000000#32)
  | .lui .. => (0xFC000000#32, 0x3C000000#32)
  | .add .. => (0xFC00003F#32, 0x00000020#32)
  | .addu .. => (0xFC00003F#32, 0x00000021#32)
  | .sub .. => (0xFC00003F#32, 0x00000022#32)
  | .subu .. => (0xFC00003F#32, 0x00000023#32)
  | .slt .. => (0xFC00003F#32, 0x0000002A#32)
  | .sltu .. => (0xFC00003F#32, 0x0000002B#32)
  | .and .. => (0xFC00003F#32, 0x00000024#32)
  | .or .. => (0xFC00003F#32, 0x00000025#32)
  | .xor .. => (0xFC00003F#32, 0x00000026#32)
  | .nor .. => (0xFC00003F#32, 0x00000027#32)
  | .dadd .. => (0xFC00003F#32, 0x0000002C#32)
  | .daddu .. => (0xFC00003F#32, 0x0000002D#32)
  | .dsub .. => (0xFC00003F#32, 0x0000002E#32)
  | .dsubu .. => (0xFC00003F#32, 0x0000002F#32)
  | .sll .. => (0xFC00003F#32, 0x00000000#32)
  | .srl .. => (0xFC00003F#32, 0x00000002#32)
  | .sra .. => (0xFC00003F#32, 0x00000003#32)
  | .dsll .. => (0xFC00003F#32, 0x00000038#32)
  | .dsrl .. => (0xFC00003F#32, 0x0000003A#32)
  | .dsra .. => (0xFC00003F#32, 0x0000003B#32)
  | .dsll32 .. => (0xFC00003F#32, 0x0000003C#32)
  | .dsrl32 .. => (0xFC00003F#32, 0x0000003E#32)
  | .dsra32 .. => (0xFC00003F#32, 0x0000003F#32)
  | .sllv .. => (0xFC00003F#32, 0x00000004#32)
  | .srlv .. => (0xFC00003F#32, 0x00000006#32)
  | .srav .. => (0xFC00003F#32, 0x00000007#32)
  | .dsllv .. => (0xFC00003F#32, 0x00000014#32)
  | .dsrlv .. => (0xFC00003F#32, 0x00000016#32)
  | .dsrav .. => (0xFC00003F#32, 0x00000017#32)
  | .mult .. => (0xFC00003F#32, 0x00000018#32)
  | .multu .. => (0xFC00003F#32, 0x00000019#32)
  | .dmult .. => (0xFC00003F#32, 0x0000001C#32)
  | .dmultu .. => (0xFC00003F#32, 0x0000001D#32)
  | .div .. => (0xFC00003F#32, 0x0000001A#32)
  | .divu .. => (0xFC00003F#32, 0x0000001B#32)
  | .ddiv .. => (0xFC00003F#32, 0x0000001E#32)
  | .ddivu .. => (0xFC00003F#32, 0x0000001F#32)
  | .mfhi .. => (0xFC00003F#32, 0x00000010#32)
  | .mflo .. => (0xFC00003F#32, 0x00000012#32)
  | .mthi .. => (0xFC00003F#32, 0x00000011#32)
  | .mtlo .. => (0xFC00003F#32, 0x00000013#32)
  | .madd .. => (0xFC00003F#32, 0x70000000#32)
  | .maddu .. => (0xFC00003F#32, 0x70000001#32)
  | .jr .. => (0xFC00003F#32, 0x00000008#32)
  | .jalr .. => (0xFC00003F#32, 0x00000009#32)
  | .syscall .. => (0xFC00003F#32, 0x0000000C#32)
  | .brk .. => (0xFC00003F#32, 0x0000000D#32)
  | .sdbbp .. => (0xFC00003F#32, 0x0000000E#32)
  | .sync => (0xFC00003F#32, 0x0000000F#32)
  | .tge .. => (0xFC00003F#32, 0x00000030#32)
  | .tgeu .. => (0xFC00003F#32, 0x00000031#32)
  | .tlt .. => (0xFC00003F#32, 0x00000032#32)
  | .tltu .. => (0xFC00003F#32, 0x00000033#32)
  | .teq .. => (0xFC00003F#32, 0x00000034#32)
  | .tne .. => (0xFC00003F#32, 0x00000036#32)
  | .j .. => (0xFC000000#32, 0x08000000#32)
  | .jal .. => (0xFC000000#32, 0x0C000000#32)
  | .beq .. => (0xFC000000#32, 0x10000000#32)
  | .bne .. => (0xFC000000#32, 0x14000000#32)
  | .blez .. => (0xFC000000#32, 0x18000000#32)
  | .bgtz .. => (0xFC000000#32, 0x1C000000#32)
  | .beql .. => (0xFC000000#32, 0x50000000#32)
  | .bnel .. => (0xFC000000#32, 0x54000000#32)
  | .blezl .. => (0xFC000000#32, 0x58000000#32)
  | .bgtzl .. => (0xFC000000#32, 0x5C000000#32)
  | .bltz .. => (0xFC1F0000#32, 0x04000000#32)
  | .bgez .. => (0xFC1F0000#32, 0x04010000#32)
  | .bltzl .. => (0xFC1F0000#32, 0x04020000#32)
  | .bgezl .. => (0xFC1F0000#32, 0x04030000#32)
  | .bltzal .. => (0xFC1F0000#32, 0x04100000#32)
  | .bgezal .. => (0xFC1F0000#32, 0x04110000#32)
  | .bltzall .. => (0xFC1F0000#32, 0x04120000#32)
  | .bgezall .. => (0xFC1F0000#32, 0x04130000#32)
  | .tgei .. => (0xFC1F0000#32, 0x04080000#32)
  | .tgeiu .. => (0xFC1F0000#32, 0x04090000#32)
  | .tlti .. => (0xFC1F0000#32, 0x040A0000#32)
  | .tltiu .. => (0xFC1F0000#32, 0x040B0000#32)
  | .teqi .. => (0xFC1F0000#32, 0x040C0000#32)
  | .tnei .. => (0xFC1F0000#32, 0x040E0000#32)
  | .lwc1 .. => (0xFC000000#32, 0xC4000000#32)
  | .swc1 .. => (0xFC000000#32, 0xE4000000#32)
  | .ldc1 .. => (0xFC000000#32, 0xD4000000#32)
  | .sdc1 .. => (0xFC000000#32, 0xF4000000#32)
  | .lwc2 .. => (0xFC000000#32, 0xC8000000#32)
  | .swc2 .. => (0xFC000000#32, 0xE8000000#32)
  | .ldc2 .. => (0xFC000000#32, 0xD8000000#32)
  | .sdc2 .. => (0xFC000000#32, 0xF8000000#32)
  | .mfc0 .. => (0xFFE00000#32, 0x40000000#32)
  | .dmfc0 .. => (0xFFE00000#32, 0x40200000#32)
  | .cfc0 .. => (0xFFE00000#32, 0x40400000#32)
  | .mtc0 .. => (0xFFE00000#32, 0x40800000#32)
  | .dmtc0 .. => (0xFFE00000#32, 0x40A00000#32)
  | .ctc0 .. => (0xFFE00000#32, 0x40C00000#32)
  | .mfc1 .. => (0xFFE00000#32, 0x44000000#32)
  | .dmfc1 .. => (0xFFE00000#32, 0x44200000#32)
  | .cfc1 .. => (0xFFE00000#32, 0x44400000#32)
  | .mtc1 .. => (0xFFE00000#32, 0x44800000#32)
  | .dmtc1 .. => (0xFFE00000#32, 0x44A00000#32)
  | .ctc1 .. => (0xFFE00000#32, 0x44C00000#32)
  | .mfc2 .. => (0xFFE00000#32, 0x48000000#32)
  | .dmfc2 .. => (0xFFE00000#32, 0x48200000#32)
  | .cfc2 .. => (0xFFE00000#32, 0x48400000#32)
  | .mtc2 .. => (0xFFE00000#32, 0x48800000#32)
  | .dmtc2 .. => (0xFFE00000#32, 0x48A00000#32)
  | .ctc2 .. => (0xFFE00000#32, 0x48C00000#32)
  | .bc0f .. => (0xFFFF0000#32, 0x41000000#32)
  | .bc0t .. => (0xFFFF0000#32, 0x41010000#32)
  | .bc0fl .. => (0xFFFF0000#32, 0x41020000#32)
  | .bc0tl .. => (0xFFFF0000#32, 0x41030000#32)
  | .bc1f .. => (0xFFFF0000#32, 0x45000000#32)
  | .bc1t .. => (0xFFFF0000#32, 0x45010000#32)
  | .bc1fl .. => (0xFFFF0000#32, 0x45020000#32)
  | .bc1tl .. => (0xFFFF0000#32, 0x45030000#32)
  | .bc2f .. => (0xFFFF0000#32, 0x49000000#32)
  | .bc2t .. => (0xFFFF0000#32, 0x49010000#32)
  | .bc2fl .. => (0xFFFF0000#32, 0x49020000#32)
  | .bc2tl .. => (0xFFFF0000#32, 0x49030000#32)
  | .bc3f .. => (0xFFFF0000#32, 0x4D000000#32)
  | .bc3t .. => (0xFFFF0000#32, 0x4D010000#32)
  | .bc3fl .. => (0xFFFF0000#32, 0x4D020000#32)
  | .bc3tl .. => (0xFFFF0000#32, 0x4D030000#32)
  | .tlbr => (0xFE00003F#32, 0x42000001#32)
  | .tlbwi => (0xFE00003F#32, 0x42000002#32)
  | .tlbwr => (0xFE00003F#32, 0x42000006#32)
  | .tlbp => (0xFE00003F#32, 0x42000008#32)
  | .eret => (0xFE00003F#32, 0x42000018#32)
  | .deret => (0xFE00003F#32, 0x4200001F#32)
  | .wait => (0xFE00003F#32, 0x42000020#32)
  | .cop2 .. => (0xFE000000#32, 0x4A000000#32)
  | .cache .. => (0xFC000000#32, 0xBC000000#32)
  | .pref .. => (0xFC000000#32, 0xCC000000#32)
  | .addFmt .. => (0xFE00003F#32, 0x46000000#32)
  | .subFmt .. => (0xFE00003F#32, 0x46000001#32)
  | .mulFmt .. => (0xFE00003F#32, 0x46000002#32)
  | .divFmt .. => (0xFE00003F#32, 0x46000003#32)
  | .sqrtFmt .. => (0xFE00003F#32, 0x46000004#32)
  | .absFmt .. => (0xFE00003F#32, 0x46000005#32)
  | .movFmt .. => (0xFE00003F#32, 0x46000006#32)
  | .negFmt .. => (0xFE00003F#32, 0x46000007#32)
  | .roundLFmt .. => (0xFE00003F#32, 0x46000008#32)
  | .truncLFmt .. => (0xFE00003F#32, 0x46000009#32)
  | .ceilLFmt .. => (0xFE00003F#32, 0x4600000A#32)
  | .floorLFmt .. => (0xFE00003F#32, 0x4600000B#32)
  | .roundWFmt .. => (0xFE00003F#32, 0x4600000C#32)
  | .truncWFmt .. => (0xFE00003F#32, 0x4600000D#32)
  | .ceilWFmt .. => (0xFE00003F#32, 0x4600000E#32)
  | .floorWFmt .. => (0xFE00003F#32, 0x4600000F#32)
  | .cvtSFmt .. => (0xFE00003F#32, 0x46000020#32)
  | .cvtDFmt .. => (0xFE00003F#32, 0x46000021#32)
  | .cvtWFmt .. => (0xFE00003F#32, 0x46000024#32)
  | .cvtLFmt .. => (0xFE00003F#32, 0x46000025#32)
  | .cFFmt .. => (0xFE00003F#32, 0x46000030#32)
  | .cUnFmt .. => (0xFE00003F#32, 0x46000031#32)
  | .cEqFmt .. => (0xFE00003F#32, 0x46000032#32)
  | .cUeqFmt .. => (0xFE00003F#32, 0x46000033#32)
  | .cOltFmt .. => (0xFE00003F#32, 0x46000034#32)
  | .cUltFmt .. => (0xFE00003F#32, 0x46000035#32)
  | .cOleFmt .. => (0xFE00003F#32, 0x46000036#32)
  | .cUleFmt .. => (0xFE00003F#32, 0x46000037#32)
  | .cSfFmt .. => (0xFE00003F#32, 0x46000038#32)
  | .cNgleFmt .. => (0xFE00003F#32, 0x46000039#32)
  | .cSeqFmt .. => (0xFE00003F#32, 0x4600003A#32)
  | .cNglFmt .. => (0xFE00003F#32, 0x4600003B#32)
  | .cLtFmt .. => (0xFE00003F#32, 0x4600003C#32)
  | .cNgeFmt .. => (0xFE00003F#32, 0x4600003D#32)
  | .cLeFmt .. => (0xFE00003F#32, 0x4600003E#32)
  | .cNgtFmt .. => (0xFE00003F#32, 0x4600003F#32)

/-- Whether a word has the bits that select the row of `i`. -/
def Instr.inRow (i : Instr) (w : Word) : Bool := w &&& i.row.1 == i.row.2

end Sys2Proof
end

