-- ==== Sys2Proof/Machine/Sources.lean ====
section
/-! DEFINITION. The registers an instruction uses, by which a load's late bus error is reported at the load
(spec/20_memory.md R166, 60_exceptions.md R651, 70_reset_and_hazards.md R776). -/

namespace Sys2Proof.Machine

/-- The general and the floating-point registers an instruction reads: its operands, the registers that form its address,
the register it stores or merges into. -/
def sources (i : Instr) : List LoadDest :=
  match i with
  | .lb _ _ base | .lbu _ _ base | .lh _ _ base | .lhu _ _ base | .lw _ _ base | .lwu _ _ base | .ld _ _ base
  | .ll _ _ base | .lld _ _ base | .lwc1 _ _ base | .ldc1 _ _ base | .lwc2 _ _ base | .swc2 _ _ base
  | .ldc2 _ _ base | .sdc2 _ _ base | .cache _ _ base | .pref _ _ base => [.gpr base]
  | .sb rt _ base | .sh rt _ base | .sw rt _ base | .sd rt _ base | .lwl rt _ base | .lwr rt _ base
  | .swl rt _ base | .swr rt _ base | .ldl rt _ base | .ldr rt _ base | .sdl rt _ base | .sdr rt _ base
  | .sc rt _ base | .scd rt _ base => [.gpr rt, .gpr base]
  | .addi _ rs _ | .addiu _ rs _ | .slti _ rs _ | .sltiu _ rs _ | .andi _ rs _ | .ori _ rs _ | .xori _ rs _
  | .daddi _ rs _ | .daddiu _ rs _ | .mthi rs | .mtlo rs | .jr rs | .jalr _ rs | .blez rs _ | .bgtz rs _
  | .blezl rs _ | .bgtzl rs _ | .bltz rs _ | .bgez rs _ | .bltzl rs _ | .bgezl rs _ | .bltzal rs _
  | .bgezal rs _ | .bltzall rs _ | .bgezall rs _ | .tgei rs _ | .tgeiu rs _ | .tlti rs _ | .tltiu rs _
  | .teqi rs _ | .tnei rs _ => [.gpr rs]
  | .lui _ _ | .mfhi _ | .mflo _ | .syscall _ | .brk _ | .sdbbp _ | .sync | .j _ | .jal _ | .mfc0 _ _
  | .dmfc0 _ _ | .cfc0 _ _ | .cfc1 _ _ | .mfc2 _ _ | .dmfc2 _ _ | .cfc2 _ _ | .bc0f _ | .bc0t _ | .bc0fl _
  | .bc0tl _ | .bc1f _ | .bc1t _ | .bc1fl _ | .bc1tl _ | .bc2f _ | .bc2t _ | .bc2fl _ | .bc2tl _ | .bc3f _
  | .bc3t _ | .bc3fl _ | .bc3tl _ | .tlbr | .tlbwi | .tlbwr | .tlbp | .eret | .deret | .wait | .cop2 _ => []
  | .add _ rs rt | .addu _ rs rt | .sub _ rs rt | .subu _ rs rt | .slt _ rs rt | .sltu _ rs rt | .and _ rs rt
  | .or _ rs rt | .xor _ rs rt | .nor _ rs rt | .dadd _ rs rt | .daddu _ rs rt | .dsub _ rs rt | .dsubu _ rs rt
  | .mult _ rs rt | .multu _ rs rt | .dmult _ rs rt | .dmultu _ rs rt | .div rs rt | .divu rs rt | .ddiv rs rt
  | .ddivu rs rt | .madd _ rs rt | .maddu _ rs rt | .tge rs rt _ | .tgeu rs rt _ | .tlt rs rt _ | .tltu rs rt _
  | .teq rs rt _ | .tne rs rt _ | .beq rs rt _ | .bne rs rt _ | .beql rs rt _ | .bnel rs rt _ => [.gpr rs, .gpr rt]
  | .sll _ rt _ | .srl _ rt _ | .sra _ rt _ | .dsll _ rt _ | .dsrl _ rt _ | .dsra _ rt _ | .dsll32 _ rt _
  | .dsrl32 _ rt _ | .dsra32 _ rt _ | .mtc0 rt _ | .dmtc0 rt _ | .ctc0 rt _ | .mtc1 rt _ | .dmtc1 rt _
  | .ctc1 rt _ | .mtc2 rt _ | .dmtc2 rt _ | .ctc2 rt _ => [.gpr rt]
  | .sllv _ rt rs | .srlv _ rt rs | .srav _ rt rs | .dsllv _ rt rs | .dsrlv _ rt rs | .dsrav _ rt rs => [.gpr rt, .gpr rs]
  | .swc1 ft _ base | .sdc1 ft _ base => [.fpr ft, .gpr base]
  | .mfc1 _ fs | .dmfc1 _ fs | .sqrtFmt _ _ fs | .absFmt _ _ fs | .movFmt _ _ fs | .negFmt _ _ fs
  | .roundLFmt _ _ fs | .truncLFmt _ _ fs | .ceilLFmt _ _ fs | .floorLFmt _ _ fs | .roundWFmt _ _ fs
  | .truncWFmt _ _ fs | .ceilWFmt _ _ fs | .floorWFmt _ _ fs | .cvtSFmt _ _ fs | .cvtDFmt _ _ fs
  | .cvtWFmt _ _ fs | .cvtLFmt _ _ fs => [.fpr fs]
  | .addFmt _ _ fs ft | .subFmt _ _ fs ft | .mulFmt _ _ fs ft | .divFmt _ _ fs ft | .cFFmt _ fs ft
  | .cUnFmt _ fs ft | .cEqFmt _ fs ft | .cUeqFmt _ fs ft | .cOltFmt _ fs ft | .cUltFmt _ fs ft
  | .cOleFmt _ fs ft | .cUleFmt _ fs ft | .cSfFmt _ fs ft | .cNgleFmt _ fs ft | .cSeqFmt _ fs ft
  | .cNglFmt _ fs ft | .cLtFmt _ fs ft | .cNgeFmt _ fs ft | .cLeFmt _ fs ft | .cNgtFmt _ fs ft => [.fpr fs, .fpr ft]

/-- Whether an instruction stops until a load's response is there: SYNC, and one that uses the load's destination (R651,
R776). DESIGN CHOICE, unsafe: one that overwrites the destination without reading it does not stop, and one that reads the
value so written does (log entry 65). -/
def waitsFor (i : Instr) (fr : Bool) (dest : LoadDest) : Bool :=
  i == .sync || (sources i).any (dest.usedBy fr)

end Sys2Proof.Machine
end

