-- ==== Sys2Proof/Machine/Cycle.lean ====
section
/-! DEFINITION. One step of the machine: an input event, or one instruction of the processor with the timer, the write
buffer, late bus errors, interrupts, NMI, single step and the power state (20_memory.md R166; 60_exceptions.md R625,
R633, R651, R659 to R665; 61_interrupts_platform.md R700 to R732; log entries 29 to 34, 40, 48). -/

namespace Sys2Proof.Machine

/-! ## Words that are no instruction (30_encoding.md R233, R235) -/

/-- What the processor does with a word the decoder rejects. -/
def execReject (r : Reject) (s : State) : Out :=
  match r with
  | .reserved => raise .reservedInstruction s
  | .copReserved z => needs z s (raise .reservedInstruction s)
  | .cop0Nop => needs 0#2 s (.next s.advance)
  | .fpuUnimplemented => needs 1#2 s (fpUnimplemented s)
  | .short => raise .reservedInstruction s

/-- The meaning of an instruction word. -/
def execWord (w : Word) (s : State) : Out :=
  match decode w with
  | .ok i => exec i s
  | .error r => execReject r s

/-! ## What goes on beside the instructions -/

/-- Count after `n` increments, and whether it passed through the value of Compare (11_cp0_registers.md R73, D3). -/
def tickCount (n : Nat) (s : State) : State :=
  let distance := (s.cp0.compare - s.cp0.count).toNat
  { s with
    cp0 := { s.cp0 with count := s.cp0.count + BitVec.ofNat 32 n }
    plat := { s.plat with timerInt := s.plat.timerInt || (0 < distance && distance ≤ n) || 2 ^ 32 ≤ n } }

/-- Whether the read time-out counter counts: R4300 type protocol, TOutEnable, and a read not answered, whether the
processor waits for it or goes on (R732). -/
def State.timing (s : State) : Bool := s.readsTimed && (s.plat.reading || s.awaiting)

/-- The read time-out counter (R732): it counts down while both conditions hold, else TOutVal is loaded into it. When it
has run out, the error of a load that went on arrives. -/
def tickTimeout (s : State) : State :=
  let next : BitVec 16 :=
    if s.timing then (if s.plat.timeout = 0#16 then 0#16 else s.plat.timeout - 1#16)
    else s.timeoutStart
  let t := { s with plat := { s.plat with timeout := next } }
  { t with lateError := if s.timing && t.timeoutOver then t.errorArrives.lateError else t.lateError }

/-- The write buffer gives its oldest entry to the agent, unless the agent holds writes or a read request is on hold or
outstanding (20_memory.md R162, R163). -/
def tickBuffer (s : State) : State := if s.plat.reading || !s.writesGo then s else s.drainOne

/-- What a step does whatever the processor does. -/
def tick (s : State) : State := tickBuffer (tickTimeout (tickCount s.params.countPerInstr s))

/-- Random after an executed instruction (11_cp0_registers.md R64, D2): down by one, from Wired to 47; 47 while Wired
is above 47 (U10). -/
def nextRandom (random wired : BitVec 6) : BitVec 6 :=
  if random ≤ wired || 47#6 < random then 47#6 else random - 1#6

/-- The state an instruction executes in: Random counted, the read of its fetch answered. -/
def State.prepared (s : State) : State :=
  { s.offHold with cp0 := { s.cp0 with random := nextRandom s.cp0.random s.cp0.wired } }

/-- The state an attempt begins in: the marks of the step before are gone, but for that of the read on hold, which the
attempt goes on with. -/
def State.unstalled (s : State) : State :=
  { s with plat := { s.plat with stalled := false, fetched := none }, excTaken := false }

/-- An instruction that stalled is in progress: the next step goes on with it. -/
def hold (w : Word) (o : Out) : Out :=
  match o with
  | .next t => .next (if t.plat.stalled then { t with plat := { t.plat with fetched := some w } } else t)
  | o => o

/-! ## One instruction -/

/-- Whether a word is SDBBP. -/
def isSdbbp (w : Word) : Bool :=
  match decode w with
  | .ok (.sdbbp _) => true
  | _ => false

/-- An instruction with an interrupt pending (R625, 61_interrupts_platform.md R708): the interrupt is taken instead of
the instruction unless the instruction raises an exception, which comes first; with SDBBP it coincides with the debug
exception (R665). That it is taken at the first boundary is log entry 31. -/
def runInterrupted (w : Word) (s : State) : Out :=
  if isSdbbp w then .next (takeDebugWith debugDbp .interrupt s)
  else
    match execWord w s.prepared with
    | .next t => if t.excTaken then .next t else .next (takeException .interrupt s)
    | _ => .next (takeException .interrupt s)

/-- A fetched word runs, after the interrupt due before it. -/
def runInstr (w : Word) (s : State) : Out :=
  if s.interruptPending then runInterrupted w s else hold w (execWord w s.prepared)

/-- The state in which a late bus error is reported before the word `w` runs (20_memory.md R166, 60_exceptions.md R651, 70
R776): at the load if no instruction has completed since and `w` waits for its response; else at `w`, if it waits for it
or the error has arrived. What the destination's being overwritten in between changes is log entry 65. -/
def lateErrorAt (w : Word) (s : State) : Option State :=
  match s.lateError with
  | none => none
  | some e =>
    let waits := match decode w with
      | .ok i => waitsFor i s.fr e.dest
      | .error _ => false
    if waits && e.fresh then some (s.settleLate.backToLoad e)
    else if waits || e.arrived then some s.settleLate
    else none

/-- A late bus error due before the word `w` is raised, or masked in debug mode (60_exceptions.md R663); with SDBBP it
coincides with the debug exception (R627, R665; log entry 60); else `k` goes on. -/
def afterLateError (w : Word) (s : State) (k : State → Out) : Out :=
  match lateErrorAt w s with
  | none => k s
  | some t =>
    if s.debugMode then k (s.settleLate.flagMasked .busErrorData)
    else if isSdbbp w then .next (takeDebugWith debugDbp .busErrorData s.settleLate)
    else .next (takeException .busErrorData t)

/-- Whether a single-step debug exception is due before the instruction at `pc` (R661). -/
def State.stepDue (s : State) : Bool := s.stepPending && !s.debugMode && s.delaySlot.isNone

/-- The status bits of the debug exceptions due before the instruction at `pc`: of the breaks that wait (R662) and of a
single step (R661). Those of all that are due are set (R660). -/
def State.debugDue (s : State) : BitVec 32 :=
  0#26 ++ (if s.debugMode then 0#4 else s.plat.breaks) ++ 0#1 ++ BitVec.ofBool s.stepDue

/-- A debug exception before the instruction at `pc`, with the exception due there that coincides with it, of several the
one of the highest priority (R625, R665): a late bus error that has arrived (log entry 60); an enabled interrupt. -/
def enterDebug (bits : BitVec 32) (s : State) : State :=
  if s.lateError.any (·.arrived) then takeDebugWith bits .busErrorData s.settleLate
  else if s.interruptPending then takeDebugWith bits .interrupt s
  else takeDebug bits s

/-- A fetched word runs, after the debug exception, the late bus error and the interrupt due before it. -/
def runWord (w : Word) (s : State) : Out :=
  if s.debugDue ≠ 0#32 then .next (enterDebug s.debugDue s) else afterLateError w s (runInstr w)

/-- An instruction that stalled goes on: it is neither fetched nor counted again (log entry 55). -/
def resume (w : Word) (s : State) : Out := afterLateError w s fun s => hold w (execWord w s)

/-- A fetch that stops: a debug exception that is due comes first. -/
def afterDebug (s : State) (o : Out) : Out := if s.debugDue ≠ 0#32 then .next (enterDebug s.debugDue s) else o

/-- The fetch at `pc` and what follows from it (R625 ranks 4 to 14). An exception of the fetch coincides with a debug
exception that is due (R665); one of the instruction's execution is left until after DERET (log entry 40). A debug
exception waits while the fetch has no answer, as NMI does: the pipeline stands still (log entry 39). In debug mode a bus
error of the fetch is masked (R663): the word is free (log entry 56). That an exception of the fetch comes before a late
bus error that has arrived, which stays to be reported, is a choice (log entry 63). -/
def runPc (s : State) : Out :=
  match s.fetchWord with
  | .ok w t => runWord w t
  | .exc x t =>
    if t.debugMode && x = .busErrorFetch then runWord (low32 (t.fresh .fetchWord)) t
    else if t.debugDue ≠ 0#32 then .next (takeDebugWith t.debugDue x t)
    else raise x t
  | .stall t => .next t.stall
  | .fault f => afterDebug s (.fault f)
  | .refuse r => afterDebug s (.refused r)

/-- Whether the instruction at `pc` is SDBBP, as far as it can be fetched. -/
def State.atSdbbp (s : State) : Bool :=
  match s.fetchWord with
  | .ok w _ => isSdbbp w
  | _ => false

/-- A waiting NMI is taken at an instruction boundary outside debug mode (R642), with NIS when a debug exception
coincides (R665). -/
def runNmi (s : State) : State :=
  if s.debugDue ≠ 0#32 then takeDebugWithNmi s.debugDue s
  else if s.atSdbbp then takeDebugWithNmi debugDbp s
  else takeNmi s

/-- A waiting NMI while the fetch at `pc` stalls: it is taken once the fetch has its answer, since it takes effect only
when the pipeline runs (R642, 61_interrupts_platform.md R702). -/
def runStalledNmi (s : State) : Out :=
  match s.fetchWord with
  | .ok _ t => .next (runNmi t)
  | .exc _ t => .next (runNmi t)
  | .stall t => .next t.stall
  | .fault _ => .next (runNmi s)
  | .refuse _ => .next (runNmi s)

/-- Whether a step in Halt or Doze wakes the processor (61_interrupts_platform.md R722, D29): a source of IP[7:2] asks, an
NMI or a debug break waits (log entry 48). -/
def State.wakes (s : State) : Bool := s.hardIp != 0#6 || s.plat.nmiPending || s.plat.breaks != 0#4

/-- The processor's part of a step. -/
def runProcessor (s : State) : Out :=
  if s.plat.power ≠ .normal then
    .next (if s.wakes then { s with plat := { s.plat with power := .normal } } else s)
  else
    match s.plat.fetched with
    | some w => resume w s.unstalled
    | none =>
      if s.plat.nmiPending && !s.debugMode then
        (if s.plat.stalled then runStalledNmi s.unstalled else .next (runNmi s.unstalled))
      else runPc s.unstalled

/-- The end of a step that began in `s`. Single step is due again after an instruction outside debug mode with SSt set,
once no delay slot is left to run (R661); a stalled or a sleeping step leaves it. In debug mode no break waits (R662,
R663). A read is on hold only while the processor stalls on it. An instruction has completed since the load of a late bus
error. The words read ahead are kept while the flow goes on in sequence (20_memory.md R167). Fresh free values. -/
def finish (s t : State) : State :=
  { t with
    plat := { t.plat with
      breaks := if t.debugMode then 0#4 else t.plat.breaks
      reading := t.plat.stalled && t.plat.reading }
    stepPending :=
      if t.plat.stalled || s.plat.power ≠ .normal then s.stepPending
      else !s.debugMode && !t.debugMode && t.singleStep && t.delaySlot.isNone
    lateError :=
      if s.lateError.isSome && !t.plat.stalled then t.lateError.map fun e => { e with fresh := false } else t.lateError
    ahead := if t.plat.stalled || (t.pc == s.pc + 4#64 && s.delaySlot.isNone) then t.ahead else []
    free := t.free + freePerStep }

/-- What the processor answered in a step that began in `s`, with the end of the step. -/
def ended (s : State) (o : Out) : Out :=
  match o with
  | .next t => .next (finish s t)
  | o => o

/-- A step of the processor. -/
def processorStep (s : State) : Out := ended (tick s) (runProcessor (tick s))

/-! ## Events from outside -/

/-- The NMI edge detector (61_interrupts_platform.md R702): a request that was not there before waits to be taken. That
several requests before the first is taken are one is a choice (log entry 57). -/
def State.sampleNmi (s : State) : State :=
  { s with plat := { s.plat with
      nmiPending := s.plat.nmiPending || (s.nmiRequest && !s.plat.nmiPrev)
      nmiPrev := s.nmiRequest } }

/-- An external write request (R703): bits 22:16 enable the bits 6:0 that are written. -/
def externalWrite (d : Word) (r : BitVec 7) : BitVec 7 :=
  (r &&& ~~~(d.extractLsb' 16 7)) ||| (d.extractLsb' 0 7 &&& d.extractLsb' 16 7)

/-- A free cache line (60_exceptions.md R641: the cache state is undefined after SoftReset). -/
def freeLine (n key : Nat) (data : Bool) : CacheLine :=
  let w := fun j => Config.freeCache n (8 * key + j)
  { tag := (w 4).extractLsb' 0 24
    valid := (w 4).getLsbD 24
    lock := (w 4).getLsbD 25 && key % 4 != 0
    dirty := (w 4).getLsbD 26 && data
    data := Vector.ofFn fun i => (w (i.val / 8)).extractLsb' (8 * (i.val % 8)) 8 }

/-- A cache in a free state. -/
def freeCacheState (n : Nat) (data : Bool) : Cache :=
  { lines := (List.range 1024).foldl (fun l k => sparsePut CacheLine.empty l k (freeLine n k data)) []
    fifo := (List.range 256).foldl
      (fun l k => sparsePut 0#2 l k ((Config.freeCache n (8 * k + 5)).extractLsb' 0 2)) [] }

/-- The platform after SoftReset: the processor runs, no access is in progress and no break waits. -/
def Platform.running (p : Platform) : Platform :=
  { p with power := .normal, breaks := 0#4, stalled := false, reading := false, fetched := none }

/-- Memory with some bytes overwritten. -/
def spoilBytes (m : List Host.Cell) (bytes : List (PAddr × Byte)) : List Host.Cell :=
  bytes.foldl (fun m c => Memory.set m c.1 c.2) m

/-- SoftReset (60_exceptions.md R641, 70_reset_and_hazards.md R756): the reset entry, power Normal, the caches free,
each pending write kept or lost, the bytes of the accesses it cuts off as the event says (log entry 38). That a
single-step exception due and the breaks that wait are dropped is a choice (log entry 62). -/
def softReset (spoiled : List (PAddr × Byte)) (s : State) : State :=
  let kept := s.wbuf.zipIdx.filter fun e => (Config.freeCache s.free (8 * e.2 + 6)).getLsbD 0
  { s.resetEntry with
    icache := freeCacheState s.free false
    dcache := freeCacheState (s.free + 1) true
    wbuf := kept.map Prod.fst
    lateError := none
    ahead := []
    mem := spoilBytes s.mem spoiled
    plat := s.plat.running
    excTaken := false
    stepPending := false
    free := s.free + freePerStep }

/-- ColdReset (60_exceptions.md R640, 70_reset_and_hazards.md R755): the reset state with the pins as sampled; memory,
the environment and the parameters are outside the processor. With MODE43N = 0 and BSIZE64N = 0, which 00_scope.md R9
calls not available, the R4300 type protocol is taken (log entry 58). -/
def coldReset (pins : Straps) (s : State) : State :=
  { State.reset with
    cp0 := resetCp0 pins
    straps := pins
    params := s.params
    mem := s.mem
    env := s.env
    plat := { resetPlatform with nmiPrev := s.env.nmiPin }
    free := s.free + freePerStep
    choices := s.choices }

/-- A break of the probe or the debug unit (60_exceptions.md R662), if a probe is present and debug exceptions are not
masked: it waits for the next instruction boundary at which the pipeline runs (log entry 39). -/
def debugBreak (k : BreakKind) (s : State) : State :=
  if s.params.probePresent && !s.debugMode then
    { s with plat := { s.plat with breaks := s.plat.breaks ||| k.bit.extractLsb' 2 4 } }
  else s

/-- The effect of an event. -/
def applyEvent (e : ExtEvent) (s : State) : State :=
  match e with
  | .run => s
  | .setIntPins pins => { s with env := { s.env with intPins := pins } }
  | .setNmiPin b => { s with env := { s.env with nmiPin := b } }.sampleNmi
  | .extWrite d => { s with plat := { s.plat with intReg := externalWrite d s.plat.intReg } }.sampleNmi
  | .softReset spoiled => softReset spoiled s
  | .coldReset pins => coldReset pins s
  | .setWriteHold b => { s with env := { s.env with writeHold := b } }
  | .setErrors l => { s with env := { s.env with errors := l } }
  | .setUnanswered l => { s with env := { s.env with unanswered := l } }
  | .dmaWrite pa b => { s with mem := Memory.set s.mem pa b }
  | .debugBreak k => debugBreak k s
  | .setLateErrors b => { s with env := { s.env with lateErrors := b } }
  | .busErrorArrives => s.errorArrives
  | .setStoreErrors b => { s with env := { s.env with storeErrors := b } }
  | .setReadAhead n => { s with env := { s.env with readAhead := n } }

/-- One step: the next event if one waits (`run` lets the processor make a step), else a step of the processor. -/
def cycle (s : State) : Out :=
  match s.env.inputs with
  | [] => processorStep s
  | .run :: es => processorStep { s with env := { s.env with inputs := es } }
  | e :: es => .next (applyEvent e { s with env := { s.env with inputs := es } })

/-! ## Placing a word where the next step fetches -/

/-- Store a word at the physical address of `pc`, in the byte order of Config.BE, with the write buffer emptied first;
a valid instruction cache line that the fetch would hit gets the word too; no instruction is in progress and no word
read ahead. -/
def placeWord (s : State) (w : Word) : State :=
  match s.translate .fetch s.pc with
  | .ok p _ =>
    let s := { s.drainAll with
      mem := Memory.setBytes s.drainAll.mem p.pa (bytesOfWord s.be w)
      ahead := []
      plat := { s.plat with fetched := none } }
    match s.icache.hits (setOf s.pc) (tagOf p.pa) with
    | [way] =>
      let l := s.icache.line (setOf s.pc) way
      let l' := { l with data := setLineBytes l.data (p.pa.extractLsb' 0 5) (bytesOfWord s.be w) }
      { s with icache := s.icache.setLine (setOf s.pc) way l' }
    | _ => s
  | _ => s

end Sys2Proof.Machine
end

