-- ==== Sys2Proof/Safety.lean ====
section
/-! DEFINITION. The terms claims are written in: safe runs; what a completed instruction leaves unchanged; the accesses
that complete; the invariants of the state. -/

namespace Sys2Proof

/-- `k` steps of the machine. -/
def runSteps : Nat → Machine.State → Machine.Out
  | 0, s => .next s
  | k + 1, s =>
    match Machine.step s with
    | .next t => runSteps k t
    | .fault f => .fault f
    | .refused r => .refused r

/-- A run of `k` steps is safe: it reaches a state. -/
def SafeRun (k : Nat) (s : Machine.State) : Prop := ∃ t, runSteps k s = .next t

namespace Machine

/-! ## Numbers -/

/-- `sext_64` of the low 32 bits of an integer (10_state.md R27). -/
def sextWord (n : Int) : DWord := BitVec.ofInt 64 (n.bmod (2 ^ 32))

/-- The value of bytes, least significant first. -/
def bytesNat : List Byte → Nat
  | [] => 0
  | b :: bs => b.toNat + 256 * bytesNat bs

/-- The value of the `n` bytes of physical memory from `pa` up in the byte order of data accesses, as the processor's
own reads see them (20_memory.md R122). -/
def State.memNat (s : State) (pa : PAddr) (n : Nat) : Nat :=
  let bytes := (List.range n).map fun i => s.physByte (pa + BitVec.ofNat 36 i)
  bytesNat (if s.dataBe then bytes.reverse else bytes)

/-- The target of a relative branch (43_jump_branch.md R381), as an integer sum. -/
def State.relativeTarget (s : State) (offset : BitVec 16) : DWord :=
  BitVec.ofInt 64 ((s.pc.toNat : Int) + 4 + 4 * offset.toInt)

/-! ## What a completed instruction leaves unchanged

Each frame is an equation of the whole state, so every field it does not name is as before: the floating-point
registers, FCR31, every CP0 register, the TLB, the caches, the buffer, the platform. What memory holds is said through the
read of one byte. -/

/-- Every byte of physical memory reads as before. -/
def State.sameBytes (s t : State) : Prop := ∀ a, t.physByte a = s.physByte a

/-- Nothing changed but the pc and the branch state. -/
def State.sameButFlow (s t : State) : Prop :=
  t = { s with pc := t.pc, delaySlot := t.delaySlot } ∧ s.sameBytes t

/-- Nothing changed but GPR `r`, the pc and the branch state. -/
def State.sameButGpr (s t : State) (r : RegNum) : Prop :=
  (∀ q, q ≠ r → t.rget q = s.rget q) ∧
    t = { s with gpr := t.gpr, pc := t.pc, delaySlot := t.delaySlot } ∧ s.sameBytes t

/-- Nothing changed but GPR `r`, HI, LO, the pc and the branch state. -/
def State.sameButProduct (s t : State) (r : RegNum) : Prop :=
  (∀ q, q ≠ r → t.rget q = s.rget q) ∧
    t = { s with gpr := t.gpr, hi := t.hi, lo := t.lo, pc := t.pc, delaySlot := t.delaySlot } ∧ s.sameBytes t

/-- Nothing changed but the FPRs of one name, FCR31, the pc and the branch state: FGR `f`, and while FR = 0 the other
half of its pair. -/
def State.sameButFpr (s t : State) (f : FpRegNum) : Prop :=
  (∀ g, g ≠ f → (s.fr = true ∨ fpEven g ≠ fpEven f) → t.fget g = s.fget g) ∧
    t = { s with fgr := t.fgr, fcr31 := t.fcr31, pc := t.pc, delaySlot := t.delaySlot } ∧ s.sameBytes t

/-- What an uncached access may change beside its destination: the buffer has been emptied into memory, and every byte
reads as before. -/
def State.sameButLoaded (s t : State) (r : RegNum) : Prop :=
  (∀ q, q ≠ r → t.rget q = s.rget q) ∧
    t = { s with gpr := t.gpr, pc := t.pc, delaySlot := t.delaySlot, wbuf := t.wbuf, mem := t.mem } ∧ s.sameBytes t

/-- The instruction completed in sequence: the pc is at the next instruction, which is not in a delay slot. -/
def State.movedOn (s t : State) : Prop := t.pc = s.nextPc ∧ t.delaySlot = none

/-- The value GPR `r` holds after `v` was written to it (10_state.md R21). -/
def gprHolds (r : RegNum) (v : DWord) : DWord := if r = 0#5 then 0#64 else v

/-- `i` completes from `s` with `v` in GPR `r` and changes nothing else but the pc, which moves on. -/
def Computes (i : Instr) (s : State) (r : RegNum) (v : DWord) : Prop :=
  ∃ t, exec i s = .next t ∧ t.rget r = gprHolds r v ∧ s.movedOn t ∧ s.sameButGpr t r

/-- `i` completes from `s` with `hi` in HI and `lo` in LO and in GPR `r`, and changes nothing else but the pc. -/
def ComputesProduct (i : Instr) (s : State) (r : RegNum) (hi lo : DWord) : Prop :=
  ∃ t, exec i s = .next t ∧ t.hi = hi ∧ t.lo = lo ∧ t.rget r = gprHolds r lo ∧ s.movedOn t ∧ s.sameButProduct t r

/-- `i` completes from `s` and changes nothing but the pc, which moves on. -/
def DoesNothing (i : Instr) (s : State) : Prop := ∃ t, exec i s = .next t ∧ s.movedOn t ∧ s.sameButFlow t

/-- `i` takes the general exception `x` at `s` (60_exceptions.md R630). -/
def Raises (i : Instr) (s : State) (x : Exc) : Prop := exec i s = .next (takeException x s)

/-- `i` completes from `s` with the pc at the delay slot and `target` to follow. -/
def BranchesTo (i : Instr) (s : State) (target : DWord) : Prop :=
  ∃ t, exec i s = .next t ∧ t.pc = s.pc + 4#64 ∧ t.delaySlot = some target ∧ s.sameButFlow t

/-- `i` completes from `s` with the pc at `pc`, no branch taken. -/
def ContinuesAt (i : Instr) (s : State) (pc : DWord) : Prop :=
  ∃ t, exec i s = .next t ∧ t.pc = pc ∧ t.delaySlot = none ∧ s.sameButFlow t

/-- An ordinary branch on the condition `c`: taken to its target, else on to the delay slot as to any instruction. -/
def BranchesIf (i : Instr) (s : State) (c : Prop) (offset : BitVec 16) : Prop :=
  (c → BranchesTo i s (s.relativeTarget offset)) ∧ (¬c → ContinuesAt i s (s.pc + 4#64))

/-- A branch-likely on the condition `c`: taken to its target, else past its delay slot. -/
def BranchesLikelyIf (i : Instr) (s : State) (c : Prop) (offset : BitVec 16) : Prop :=
  (c → BranchesTo i s (s.relativeTarget offset)) ∧ (¬c → ContinuesAt i s (s.pc + 8#64))

/-! ## Classes of instructions -/

/-- The 64-bit operations, marked epsilon (30_encoding.md R231). -/
def isDoubleword (i : Instr) : Bool :=
  match i with
  | .lwu .. | .ld .. | .sd .. | .ldl .. | .ldr .. | .sdl .. | .sdr .. | .lld .. | .scd .. => true
  | .daddi .. | .daddiu .. | .dadd .. | .daddu .. | .dsub .. | .dsubu .. => true
  | .dsll .. | .dsrl .. | .dsra .. | .dsll32 .. | .dsrl32 .. | .dsra32 .. | .dsllv .. | .dsrlv .. | .dsrav .. => true
  | .dmult .. | .dmultu .. | .ddiv .. | .ddivu .. => true
  | .dmfc0 .. | .dmtc0 .. | .dmfc1 .. | .dmtc1 .. | .dmfc2 .. | .dmtc2 .. => true
  | _ => false

/-- The coprocessor an instruction belongs to (45_coprocessor.md R450). -/
def coprocessorOf (i : Instr) : Option (BitVec 2) :=
  match i with
  | .mfc0 .. | .dmfc0 .. | .cfc0 .. | .mtc0 .. | .dmtc0 .. | .ctc0 .. => some 0#2
  | .bc0f .. | .bc0t .. | .bc0fl .. | .bc0tl .. | .cache .. => some 0#2
  | .tlbr | .tlbwi | .tlbwr | .tlbp | .eret | .deret | .wait => some 0#2
  | .lwc1 .. | .swc1 .. | .ldc1 .. | .sdc1 .. => some 1#2
  | .mfc1 .. | .dmfc1 .. | .cfc1 .. | .mtc1 .. | .dmtc1 .. | .ctc1 .. => some 1#2
  | .bc1f .. | .bc1t .. | .bc1fl .. | .bc1tl .. => some 1#2
  | .addFmt .. | .subFmt .. | .mulFmt .. | .divFmt .. | .sqrtFmt .. | .absFmt .. | .movFmt .. | .negFmt .. => some 1#2
  | .roundLFmt .. | .truncLFmt .. | .ceilLFmt .. | .floorLFmt .. => some 1#2
  | .roundWFmt .. | .truncWFmt .. | .ceilWFmt .. | .floorWFmt .. => some 1#2
  | .cvtSFmt .. | .cvtDFmt .. | .cvtWFmt .. | .cvtLFmt .. => some 1#2
  | .cFFmt .. | .cUnFmt .. | .cEqFmt .. | .cUeqFmt .. | .cOltFmt .. | .cUltFmt .. | .cOleFmt .. | .cUleFmt .. => some 1#2
  | .cSfFmt .. | .cNgleFmt .. | .cSeqFmt .. | .cNglFmt .. | .cLtFmt .. | .cNgeFmt .. | .cLeFmt .. | .cNgtFmt .. => some 1#2
  | .lwc2 .. | .swc2 .. | .ldc2 .. | .sdc2 .. => some 2#2
  | .mfc2 .. | .dmfc2 .. | .cfc2 .. | .mtc2 .. | .dmtc2 .. | .ctc2 .. | .cop2 .. => some 2#2
  | .bc2f .. | .bc2t .. | .bc2fl .. | .bc2tl .. => some 2#2
  | .bc3f .. | .bc3t .. | .bc3fl .. | .bc3tl .. => some 3#2
  | _ => none

/-- The jumps, branches and returns, which may not stand in a delay slot (43_jump_branch.md R382). -/
def transfersControl (i : Instr) : Bool :=
  match i with
  | .j .. | .jal .. | .jr .. | .jalr .. => true
  | .beq .. | .bne .. | .blez .. | .bgtz .. | .bltz .. | .bgez .. | .bltzal .. | .bgezal .. => true
  | .beql .. | .bnel .. | .blezl .. | .bgtzl .. | .bltzl .. | .bgezl .. | .bltzall .. | .bgezall .. => true
  | .bc0f .. | .bc0t .. | .bc0fl .. | .bc0tl .. | .bc1f .. | .bc1t .. | .bc1fl .. | .bc1tl .. => true
  | .eret | .deret => true
  | _ => false

/-! ## Accesses that complete -/

/-- The bus accepts what an uncached load needs: the pending writes can drain, the reads at `pa` are answered with
data, and no bus error of an earlier load is still to be reported (20_memory.md R160, R161, R166; 60_exceptions.md
R651). -/
def State.busReads (s : State) (pa : PAddr) : Prop :=
  (s.wbuf = [] ∨ s.env.writeHold = false) ∧ s.readAnswer [pa.toNat / 8] = .data ∧ s.lateError = none

/-- An access of kind `k` at `va` goes past the caches to physical address `pa`, outside the chip's own range: its attribute is
uncached, or the cache it would use is disabled, so that it acts as uncached (21_cache.md R186, R201). -/
def State.pastCache (s : State) (k : AccessKind) (va : DWord) (pa : PAddr) : Prop :=
  inChipRange pa = false ∧
    ∃ attr, s.translate k va = .ok { pa := pa, attr := attr } s ∧
      (attr = attrUncached ∨ (if k = .fetch then s.icacheOff else s.dcacheOff) = true)

/-- A load at `va` goes past the cache to physical address `pa` and is answered. -/
def State.loadsAt (s : State) (va : DWord) (pa : PAddr) : Prop := s.pastCache .load va pa ∧ s.busReads pa

/-- A store at `va` goes past the cache to physical address `pa` and enters the write buffer. -/
def State.storesAt (s : State) (va : DWord) (pa : PAddr) : Prop :=
  s.pastCache .store va pa ∧
    (s.wbuf.length < 4 ∨ s.writesGo = true)

/-- The `n` bytes from `pa` up hold the low `8 * n` bits of `v` in the byte order of data accesses, and every other byte
reads as before. -/
def State.storedBytes (s t : State) (pa : PAddr) (n : Nat) (v : DWord) : Prop :=
  (∀ k, k < n → t.physByte (pa + BitVec.ofNat 36 (if s.dataBe then n - 1 - k else k)) = v.extractLsb' (8 * k) 8) ∧
    ∀ a : PAddr, n ≤ (a - pa).toNat → t.physByte a = s.physByte a

/-- Nothing changed but memory, the write buffer, the pc and the branch state. -/
def State.sameButStored (s t : State) : Prop :=
  t = { s with pc := t.pc, delaySlot := t.delaySlot, wbuf := t.wbuf, mem := t.mem }

/-- `i` completes from `s`: the `n` bytes at `pa` hold `v`, and nothing else changed but the pc. -/
def Stores (i : Instr) (s : State) (pa : PAddr) (n : Nat) (v : DWord) : Prop :=
  ∃ t, exec i s = .next t ∧ s.storedBytes t pa n v ∧ s.movedOn t ∧ s.sameButStored t

/-- `i` completes from `s` with `v` in GPR `r`; memory reads as before and nothing else changed but the pc. -/
def Loads (i : Instr) (s : State) (r : RegNum) (v : DWord) : Prop :=
  ∃ t, exec i s = .next t ∧ t.rget r = gprHolds r v ∧ s.movedOn t ∧ s.sameButLoaded t r

/-! ## Invariants -/

/-- Memory and the caches have their canonical form, and the write buffer holds at most its four entries of at most
eight bytes (20_memory.md R160). -/
def State.MemoryForm (s : State) : Prop :=
  Memory.wf s.mem ∧ Cache.wf s.icache ∧ Cache.wf s.dcache ∧ s.wbuf.length ≤ 4 ∧ ∀ e ∈ s.wbuf, e.data.length ≤ 8

/-- The reserved and the fixed fields of the CP0 registers and of FCR31 hold what their field tables say
(11_cp0_registers.md, 10_state.md R42), and r0 holds 0. -/
def State.FixedFields (s : State) : Prop :=
  s.gpr[0] = 0#64 ∧
  s.cp0.index &&& 0x7FFFFFC0#32 = 0#32 ∧
  s.cp0.entryLo0 &&& 0xFFFFFFFF00000000#64 = 0#64 ∧
  s.cp0.entryLo1 &&& 0xFFFFFFFF00000000#64 = 0#64 ∧
  s.cp0.context &&& 0xF#64 = 0#64 ∧
  s.cp0.pageMask &&& 0xFE001FFF#32 = 0#32 ∧
  s.cp0.entryHi &&& 0x3FFFFF0000001F00#64 = 0#64 ∧
  s.cp0.status &&& 0x09AB0000#32 = 0#32 ∧
  s.cp0.cause &&& 0x4FFFFC83#32 = 0#32 ∧
  s.cp0.config &&& 0xFFF8FFF8#32 = resetConfig s.straps ∧
  s.cp0.xContext &&& 0xF#64 = 0#64 ∧
  s.cp0.debug &&& 0x3FFF8240#32 = 0#32 ∧
  s.cp0.tagLo &&& 0x1#32 = 0#32 ∧
  s.cp0.tagHi &&& 0x3FFFFFFF#32 = 0#32 ∧
  s.fcr31 &&& 0xFE7C0000#32 = 0#32

/-- Random lies between Wired and 47 whenever Wired is at most 47 (11_cp0_registers.md R64). -/
def State.RandomInRange (s : State) : Prop :=
  s.cp0.random.toNat ≤ 47 ∧ (s.cp0.wired.toNat ≤ 47 → s.cp0.wired.toNat ≤ s.cp0.random.toNat)

end Machine

end Sys2Proof
end

