-- ==== Sys2Proof/Certificates/Slice0/Obligations.lean ====
section
/-! DEFINITION. The statements for the provers. A docstring names the rule each follows; where a statement rests on a choice
of the model it names the log entry. -/

open Sys2Proof Sys2Proof.Machine

/-! ## Encoding -/

/-- Decoding undoes encoding, for every well-formed instruction (30_encoding.md). -/
def Obligations.DecodeOfEncode : Prop := ∀ i : Instr, i.wellFormed = true → decode (encode i) = .ok i

/-- Decoder and opcode table agree: whatever decodes is well formed, lies in its row and is what its encoding decodes to; and
every word of a row decodes to an instruction of that row (30_encoding.md R222, R224, R243). -/
def Obligations.DecoderFollowsTable : Prop :=
  (∀ (w : Word) (i : Instr), decode w = .ok i →
    i.wellFormed = true ∧ i.inRow w = true ∧ decode (encode i) = .ok i) ∧
  ∀ (w : Word) (i : Instr), i.inRow w = true → ∃ j, decode w = .ok j ∧ j.row = i.row

/-- A few words written out from the maps of 30_encoding.md decode to their instructions. -/
def Obligations.ExampleWordsDecode : Prop :=
  decode (0b100011#6 ++ 4#5 ++ 2#5 ++ 4#16) = .ok (.lw 2#5 4#16 4#5) ∧
  decode (0b000000#6 ++ 4#5 ++ 5#5 ++ 2#5 ++ 0#5 ++ 0b100000#6) = .ok (.add 2#5 4#5 5#5) ∧
  decode (0b011100#6 ++ 4#5 ++ 5#5 ++ 2#5 ++ 0#5 ++ 0b000000#6) = .ok (.madd 2#5 4#5 5#5) ∧
  decode (0b000001#6 ++ 4#5 ++ 0b10001#5 ++ 3#16) = .ok (.bgezal 4#5 3#16) ∧
  decode (0b010000#6 ++ 0b00100#5 ++ 2#5 ++ 12#5 ++ 0#11) = .ok (.mtc0 2#5 12#5) ∧
  decode (0b010000#6 ++ 1#1 ++ 0#19 ++ 0b011000#6) = .ok .eret ∧
  decode (0b101111#6 ++ 4#5 ++ 0b01001#5 ++ 0#16) = .ok (.cache .indexStoreTagD 0#16 4#5) ∧
  decode (0b010001#6 ++ 0b10000#5 ++ 6#5 ++ 4#5 ++ 2#5 ++ 0b000000#6) = .ok (.addFmt .s 2#5 4#5 6#5)

/-! ## Invariants of a step -/

/-- Memory, the caches and the write buffer keep their canonical form through every step. -/
def Obligations.StepKeepsMemoryForm : Prop :=
  ∀ s t : State, s.MemoryForm → step s = .next t → t.MemoryForm

/-- The reserved and fixed fields of the CP0 registers and of FCR31 keep what their tables say through every step, and r0
stays 0 (11_cp0_registers.md, 10_state.md R21, R42; that writes leave them is 00_scope.md R14 with D4). -/
def Obligations.StepKeepsFixedFields : Prop :=
  ∀ s t : State, s.FixedFields → step s = .next t → t.FixedFields

/-- Random stays between Wired and 47 through every step whenever Wired is at most 47 (11_cp0_registers.md R64). That it is
at most 47 with a greater Wired is the model's choice (log entry 18). -/
def Obligations.StepKeepsRandomInRange : Prop :=
  ∀ s t : State, s.RandomInRange → step s = .next t → t.RandomInRange

/-- The three invariants hold after reset. -/
def Obligations.ResetMeetsInvariants : Prop :=
  State.reset.MemoryForm ∧ State.reset.FixedFields ∧ State.reset.RandomInRange

/-- What ColdReset leaves, for the values the spec gives: the pc, ERL, BEV, SR, Random, Wired, Config but for EC and BE, TagLo,
TagHi, no valid line in either cache, an empty write buffer, no pending branch (70_reset_and_hazards.md R755, 95 X9). -/
def Obligations.ResetValues : Prop :=
  State.reset.pc = 0xFFFFFFFFBFC00000#64 ∧ State.reset.delaySlot = none ∧
  State.reset.erl = true ∧ State.reset.bev = true ∧ State.reset.cp0.status.getLsbD 20 = false ∧
  State.reset.mode = .kernel ∧
  State.reset.cp0.random = 47#6 ∧ State.reset.cp0.wired = 0#6 ∧ State.reset.cp0.pageMask = 0#32 ∧
  State.reset.cp0.config &&& 0x0FFF7FFF#32 = 0x66F0#32 ∧
  State.reset.cp0.tagLo = 0#32 ∧ State.reset.cp0.tagHi = 0#32 ∧ State.reset.cp0.debug = 0#32 ∧
  (∀ set way, (State.reset.icache.line set way).valid = false ∧ (State.reset.dcache.line set way).valid = false) ∧
  State.reset.wbuf = [] ∧ State.reset.plat.power = .normal

/-! ## Steps -/

/-- A step runs the word at the pc: when no event waits, the processor runs and nothing is to be taken before the word
fetched, the step is its meaning in the prepared state, an instruction that stalls being left in progress, then the end of
the step; an instruction in progress goes on without a fetch. The meaning of a word that decodes to `i` is that of `i`
(10_state.md R26, 60_exceptions.md R625; that a stalled instruction goes on so is log entry 55). A fetch that raises, with no
debug exception due: the step takes that exception, ranks 4 to 7 of R625, also where an interrupt is pending; that it comes before
a late bus error that has arrived is log entry 63. In debug mode it stops by name (U24), but for a bus error, which is masked and
lets some word run (R663; log entry 56). At which words a late bus error is due is log entries 33 and 65. -/
def Obligations.StepRunsDecodedInstruction : Prop :=
  (∀ (s u : State) (w : Word),
    s.env.inputs = [] → s.plat.power = .normal →
    (s.plat.fetched = none → (s.plat.nmiPending = false ∨ s.debugMode = true) →
      (tick s).unstalled.fetchWord = .ok w u →
      u.debugDue = 0#32 → lateErrorAt w u = none → u.interruptPending = false →
      step s = ended (tick s) (hold w (execWord w u.prepared))) ∧
    (s.plat.fetched = some w → lateErrorAt w (tick s) = none →
      step s = ended (tick s) (hold w (execWord w (tick s).unstalled)))) ∧
  (∀ (s u : State) (x : Exc),
    s.env.inputs = [] → s.plat.power = .normal → s.plat.fetched = none → (s.plat.nmiPending = false ∨ s.debugMode = true) →
    (tick s).unstalled.fetchWord = .exc x u → u.debugDue = 0#32 →
    (s.debugMode = false → step s = .next (finish (tick s) (takeException x u))) ∧
    (s.debugMode = true → x ≠ .busErrorFetch → step s = .refused .exceptionInDebug) ∧
    (s.debugMode = true → x = .busErrorFetch → u.lateError = none →
      ∃ w, step s = ended (tick s) (hold w (execWord w u.prepared)))) ∧
  ∀ (w : Word) (i : Instr) (s : State), decode w = .ok i → execWord w s = exec i s

/-- The word of memory at a physical address in the byte order of Config.BE. -/
def Sys2Proof.memoryWord (s : State) (pa : PAddr) : Nat :=
  let bytes := (List.range 4).map fun i => Memory.get s.mem (pa + BitVec.ofNat 36 i)
  bytesNat (if s.be then bytes.reverse else bytes)

/-- When a fetch raises, and what it reads past the instruction cache, from an uncached address or with that cache disabled. A
misaligned pc is an Address Error, an aligned one raises what its translation answers, and a read answered with an error is a Bus
Error (20_memory.md R125, R145; 60_exceptions.md R625, R651). Else it reads the word of memory at the address in the byte order of
Config.BE, unless it has been read ahead, and changes nothing but the words read ahead, and that a late bus error has arrived;
those it adds are memory's at the time and lie in the page of the address (20_memory.md R123, R162, R167, 21_cache.md R186, R201,
R205). How many it adds, and that they lie in one page, is log entry 45. The fetch through the instruction cache is in
`CachedWordHits`. -/
def Obligations.FetchPastCache : Prop :=
  (∀ s : State, s.pc.toNat % 4 ≠ 0 → s.fetchWord = .exc (.addressError .fetch s.pc) s) ∧
  (∀ (s : State) (x : Exc), s.pc.toNat % 4 = 0 → s.translate .fetch s.pc = .exc x s → s.fetchWord = .exc x s) ∧
  ∀ (s : State) (pa : PAddr), s.pastCache .fetch s.pc pa → s.pc.toNat % 4 = 0 →
    (s.ahead.lookup pa = none → s.wbuf = [] → s.readAnswer [pa.toNat / 8] = .data →
      ∃ w t, s.fetchWord = .ok w t ∧ w.toNat = memoryWord s pa) ∧
    (s.ahead.lookup pa = none → s.wbuf = [] → s.readAnswer [pa.toNat / 8] = .error →
      ∃ t, s.fetchWord = .exc .busErrorFetch t ∧ (t = s ∨ t = s.errorArrives)) ∧
    (∀ w, s.ahead.lookup pa = some w → ∃ t, s.fetchWord = .ok w t) ∧
    ∀ w t, s.wbuf = [] → s.fetchWord = .ok w t →
      (t = { s with ahead := t.ahead } ∨ t = { s.errorArrives with ahead := t.ahead }) ∧
        ∀ p ∈ t.ahead, p ∈ s.ahead ∨ (p.1.toNat / 2 ^ 12 = pa.toNat / 2 ^ 12 ∧ p.2.toNat = memoryWord s p.1)

/-- Interrupts are enabled when IE = 1, EXL = 0, ERL = 0, outside debug mode, and one is pending when an IP bit is set with its
IM bit (11_cp0_registers.md R82, 61_interrupts_platform.md R708). IP6 to IP2 are at every moment the bits 4 to 0 of the Interrupt
register or the pins Int4 to Int0; IP7 is bit 5 or the pin Int5 with TINTDIS = 1, else the timer latch; IP1, IP0 and every other
field of Cause are the stored ones (R704 to R706). -/
def Obligations.InterruptPendingWhen : Prop :=
  ∀ s : State,
    (s.interruptPending = true ↔
      (∃ k, k < 8 ∧ s.causeWord.getLsbD (8 + k) = true ∧ s.cp0.status.getLsbD (8 + k) = true) ∧
        s.cp0.status.getLsbD 0 = true ∧ s.cp0.status.getLsbD 1 = false ∧ s.cp0.status.getLsbD 2 = false ∧
        s.debugMode = false) ∧
    (∀ k, k < 5 → s.causeWord.getLsbD (10 + k) = (s.plat.intReg.getLsbD k || s.env.intPins.getLsbD k)) ∧
    s.causeWord.getLsbD 15 =
      (if s.straps.tIntDis then s.plat.intReg.getLsbD 5 || s.env.intPins.getLsbD 5 else s.plat.timerInt) ∧
    ∀ k, k < 10 ∨ 15 < k → s.causeWord.getLsbD k = s.cp0.cause.getLsbD k

/-- With an interrupt pending the Interrupt exception is taken instead of the instruction at the pc, unless that instruction
takes an exception, which comes first (60_exceptions.md R625). That it is taken at this boundary, the first one, is the
model's choice (log entry 31): 61_interrupts_platform.md R708 and decision D28 let the processor take it at any later boundary
too. At which words a late bus error is due is log entries 33 and 65. -/
def Obligations.StepTakesInterrupt : Prop :=
  ∀ (s u : State) (w : Word) (i : Instr),
    s.env.inputs = [] → s.plat.power = .normal → s.plat.nmiPending = false → s.plat.fetched = none →
    (tick s).unstalled.fetchWord = .ok w u → decode w = .ok i → isSdbbp w = false →
    u.debugDue = 0#32 → lateErrorAt w u = none → u.interruptPending = true →
    (∀ t, exec i u.prepared = .next t → t.excTaken = false → step s = .next (finish (tick s) (takeException .interrupt u))) ∧
    (∀ t, exec i u.prepared = .next t → t.excTaken = true → step s = .next (finish (tick s) t))

/-- The timer latch is set when Count takes the value of Compare, and nothing in the tick clears it (61_interrupts_platform.md
R707; the count of one a step is log entry 30). -/
def Obligations.TimerLatchSetAtCompare : Prop :=
  ∀ s : State, s.params.countPerInstr = 1 →
    (tick s).cp0.count = s.cp0.count + 1#32 ∧
      ((tick s).plat.timerInt = true ↔ s.plat.timerInt = true ∨ s.cp0.count + 1#32 = s.cp0.compare)

/-- The reset class: a step whose event is SoftReset, and a waiting NMI at an instruction boundary, save the restart pc in ErrorEPC,
set ERL, SR and BEV alone in Status, go to the reset vector and keep the registers and the TLB; the NMI keeps memory and the
caches too. While a fetch has no answer the NMI waits; it is taken once the fetch has one (60_exceptions.md R641, R642,
61_interrupts_platform.md R702). -/
def Obligations.ResetClassEntry : Prop :=
  (∀ (s : State) (spoiled : List (PAddr × Byte)) (es : List ExtEvent), s.env.inputs = .softReset spoiled :: es →
    ∃ t, step s = .next t ∧ t.pc = 0xFFFFFFFFBFC00000#64 ∧ t.delaySlot = none ∧
      t.cp0 = { s.cp0 with
        errorEpc := if s.delaySlot.isSome then s.pc - 4#64 else s.pc
        status := s.cp0.status ||| 0x00500004#32 } ∧
      t.gpr = s.gpr ∧ t.hi = s.hi ∧ t.lo = s.lo ∧ t.fgr = s.fgr ∧ t.fcr31 = s.fcr31 ∧ t.tlb = s.tlb) ∧
  ∀ s : State,
    s.env.inputs = [] → s.plat.power = .normal → s.plat.nmiPending = true → s.plat.fetched = none → s.debugMode = false →
    (s.plat.stalled = false → (tick s).debugDue = 0#32 → (tick s).unstalled.atSdbbp = false →
      ∃ t, step s = .next t ∧ t.pc = 0xFFFFFFFFBFC00000#64 ∧ t.delaySlot = none ∧ t.plat.nmiPending = false ∧
        t.cp0 = { (tick s).cp0 with
          errorEpc := if s.delaySlot.isSome then s.pc - 4#64 else s.pc
          status := s.cp0.status ||| 0x00500004#32 } ∧
        t.gpr = s.gpr ∧ t.hi = s.hi ∧ t.lo = s.lo ∧ t.fgr = s.fgr ∧ t.fcr31 = s.fcr31 ∧ t.tlb = s.tlb ∧
        t.icache = s.icache ∧ t.dcache = s.dcache ∧ s.sameBytes t) ∧
    (∀ u, s.plat.stalled = true → (tick s).unstalled.fetchWord = .stall u →
      ∃ t, step s = .next t ∧ t.pc = s.pc ∧ t.delaySlot = s.delaySlot ∧ t.plat.nmiPending = true ∧ t.plat.stalled = true ∧
        t.cp0 = (tick s).cp0 ∧ t.gpr = s.gpr) ∧
    ∀ w u, s.plat.stalled = true → (tick s).unstalled.fetchWord = .ok w u → u.debugDue = 0#32 → u.atSdbbp = false →
      step s = .next (finish (tick s) (takeNmi u))

/-! ## Computational instructions -/

/-- `i` writes the integer `n` to GPR `r` if it fits in `bits` bits, and raises Integer Overflow with nothing written if it
does not. -/
def Sys2Proof.ComputesOrOverflows (i : Instr) (s : State) (r : RegNum) (bits : Nat) (n : Int) : Prop :=
  (-(2 ^ (bits - 1)) ≤ n ∧ n < 2 ^ (bits - 1) → Computes i s r (BitVec.ofInt 64 n)) ∧
  (¬(-(2 ^ (bits - 1)) ≤ n ∧ n < 2 ^ (bits - 1)) → s.debugMode = false → Raises i s .overflow)

/-- ADD, SUB, ADDI and ADDU, SUBU, ADDIU: the 32-bit sum or difference, sign-extended; the first three raise Integer Overflow
instead of a result that does not fit (41_computational.md R301 to R303, R312 to R315). For operands that are not
sign-extended entry U1 leaves any value: that bits 63:32 take no part is the model's choice (log entry 12). -/
def Obligations.WordAddSubtract : Prop :=
  ∀ (s : State) (rd rs rt : RegNum) (imm : BitVec 16),
    ComputesOrOverflows (.add rd rs rt) s rd 32 ((s.rget32 rs).toInt + (s.rget32 rt).toInt) ∧
    ComputesOrOverflows (.sub rd rs rt) s rd 32 ((s.rget32 rs).toInt - (s.rget32 rt).toInt) ∧
    ComputesOrOverflows (.addi rt rs imm) s rt 32 ((s.rget32 rs).toInt + imm.toInt) ∧
    Computes (.addu rd rs rt) s rd (sextWord ((s.rget32 rs).toInt + (s.rget32 rt).toInt)) ∧
    Computes (.subu rd rs rt) s rd (sextWord ((s.rget32 rs).toInt - (s.rget32 rt).toInt)) ∧
    Computes (.addiu rt rs imm) s rt (sextWord ((s.rget32 rs).toInt + imm.toInt))

/-- DADD, DADDI, DSUB and DADDU, DADDIU, DSUBU with 64-bit operations enabled (41_computational.md R301, R310, R311, R322 to
R325). -/
def Obligations.DoublewordAddSubtract : Prop :=
  ∀ (s : State) (rd rs rt : RegNum) (imm : BitVec 16), s.is64bitOps = true →
    ComputesOrOverflows (.dadd rd rs rt) s rd 64 ((s.rget rs).toInt + (s.rget rt).toInt) ∧
    ComputesOrOverflows (.dsub rd rs rt) s rd 64 ((s.rget rs).toInt - (s.rget rt).toInt) ∧
    ComputesOrOverflows (.daddi rt rs imm) s rt 64 ((s.rget rs).toInt + imm.toInt) ∧
    Computes (.daddu rd rs rt) s rd (BitVec.ofInt 64 ((s.rget rs).toInt + (s.rget rt).toInt)) ∧
    Computes (.dsubu rd rs rt) s rd (BitVec.ofInt 64 ((s.rget rs).toInt - (s.rget rt).toInt)) ∧
    Computes (.daddiu rt rs imm) s rt (BitVec.ofInt 64 ((s.rget rs).toInt + imm.toInt))

/-- SLT, SLTI, SLTU, SLTIU: 1 or 0 by a 64-bit comparison, signed or unsigned, the immediate sign-extended either way
(41_computational.md R304, R305, R316, R317). -/
def Obligations.SetOnLessThan : Prop :=
  ∀ (s : State) (rd rs rt : RegNum) (imm : BitVec 16),
    Computes (.slt rd rs rt) s rd (if (s.rget rs).toInt < (s.rget rt).toInt then 1#64 else 0#64) ∧
    Computes (.slti rt rs imm) s rt (if (s.rget rs).toInt < imm.toInt then 1#64 else 0#64) ∧
    Computes (.sltu rd rs rt) s rd (if (s.rget rs).toNat < (s.rget rt).toNat then 1#64 else 0#64) ∧
    Computes (.sltiu rt rs imm) s rt
      (if ((s.rget rs).toNat : Int) < imm.toInt % 2 ^ 64 then 1#64 else 0#64)

/-- AND, OR, XOR, NOR and ANDI, ORI, XORI bit by bit, the immediate zero-extended; LUI (41_computational.md R306 to R309, R318
to R321). -/
def Obligations.LogicalOperations : Prop :=
  ∀ (s : State) (rd rs rt : RegNum) (imm : BitVec 16),
    Computes (.and rd rs rt) s rd (BitVec.ofNat 64 ((s.rget rs).toNat &&& (s.rget rt).toNat)) ∧
    Computes (.or rd rs rt) s rd (BitVec.ofNat 64 ((s.rget rs).toNat ||| (s.rget rt).toNat)) ∧
    Computes (.xor rd rs rt) s rd (BitVec.ofNat 64 ((s.rget rs).toNat ^^^ (s.rget rt).toNat)) ∧
    Computes (.nor rd rs rt) s rd (BitVec.ofNat 64 (2 ^ 64 - 1 - ((s.rget rs).toNat ||| (s.rget rt).toNat))) ∧
    Computes (.andi rt rs imm) s rt (BitVec.ofNat 64 ((s.rget rs).toNat &&& imm.toNat)) ∧
    Computes (.ori rt rs imm) s rt (BitVec.ofNat 64 ((s.rget rs).toNat ||| imm.toNat)) ∧
    Computes (.xori rt rs imm) s rt (BitVec.ofNat 64 ((s.rget rs).toNat ^^^ imm.toNat)) ∧
    Computes (.lui rt imm) s rt (BitVec.ofInt 64 (imm.toInt * 2 ^ 16))

/-- The shifts: SLL, SRL, SRA, SLLV, SRLV, SRAV of the low word, sign-extended, a variable amount being bits 4:0 of rs; and with
64-bit operations enabled the nine 64-bit shifts, by sa, by sa + 32, or by bits 5:0 of rs (41_computational.md R326 to R340).
For an operand of a 32-bit shift that is not sign-extended entry U1 leaves any value: that bits 63:32 take no part is the model's
choice (log entry 12). -/
def Obligations.Shifts : Prop :=
  ∀ (s : State) (rd rt rs : RegNum) (sa : BitVec 5),
    Computes (.sll rd rt sa) s rd (sextWord ((s.rget32 rt).toInt * 2 ^ sa.toNat)) ∧
    Computes (.srl rd rt sa) s rd (sextWord ((s.rget32 rt).toNat / 2 ^ sa.toNat : Nat)) ∧
    Computes (.sra rd rt sa) s rd (sextWord ((s.rget32 rt).toInt / 2 ^ sa.toNat)) ∧
    Computes (.sllv rd rt rs) s rd (sextWord ((s.rget32 rt).toInt * 2 ^ ((s.rget rs).toNat % 32))) ∧
    Computes (.srlv rd rt rs) s rd (sextWord ((s.rget32 rt).toNat / 2 ^ ((s.rget rs).toNat % 32) : Nat)) ∧
    Computes (.srav rd rt rs) s rd (sextWord ((s.rget32 rt).toInt / 2 ^ ((s.rget rs).toNat % 32))) ∧
    (s.is64bitOps = true →
      Computes (.dsll rd rt sa) s rd (BitVec.ofInt 64 ((s.rget rt).toInt * 2 ^ sa.toNat)) ∧
      Computes (.dsrl rd rt sa) s rd (BitVec.ofNat 64 ((s.rget rt).toNat / 2 ^ sa.toNat)) ∧
      Computes (.dsra rd rt sa) s rd (BitVec.ofInt 64 ((s.rget rt).toInt / 2 ^ sa.toNat)) ∧
      Computes (.dsll32 rd rt sa) s rd (BitVec.ofInt 64 ((s.rget rt).toInt * 2 ^ (sa.toNat + 32))) ∧
      Computes (.dsrl32 rd rt sa) s rd (BitVec.ofNat 64 ((s.rget rt).toNat / 2 ^ (sa.toNat + 32))) ∧
      Computes (.dsra32 rd rt sa) s rd (BitVec.ofInt 64 ((s.rget rt).toInt / 2 ^ (sa.toNat + 32))) ∧
      Computes (.dsllv rd rt rs) s rd (BitVec.ofInt 64 ((s.rget rt).toInt * 2 ^ ((s.rget rs).toNat % 64))) ∧
      Computes (.dsrlv rd rt rs) s rd (BitVec.ofNat 64 ((s.rget rt).toNat / 2 ^ ((s.rget rs).toNat % 64))) ∧
      Computes (.dsrav rd rt rs) s rd (BitVec.ofInt 64 ((s.rget rt).toInt / 2 ^ ((s.rget rs).toNat % 64))))

/-! ## Multiply and divide -/

/-- MULT, MULTU, and with 64-bit operations enabled DMULT, DMULTU: the product over HI and LO, LO also to rd
(42_multiply_divide.md R351 to R353, R356, R357, R366). For operands of MULT and MULTU that are not sign-extended entry U1
leaves any value: that bits 63:32 take no part is the model's choice (log entry 12). -/
def Obligations.MultiplyProducts : Prop :=
  ∀ (s : State) (rd rs rt : RegNum),
    (let p := (s.rget32 rs).toInt * (s.rget32 rt).toInt
     ComputesProduct (.mult rd rs rt) s rd (sextWord (p / 2 ^ 32)) (sextWord p)) ∧
    (let p : Nat := (s.rget32 rs).toNat * (s.rget32 rt).toNat
     ComputesProduct (.multu rd rs rt) s rd (sextWord (p / 2 ^ 32 : Nat)) (sextWord p)) ∧
    (s.is64bitOps = true →
      let p := (s.rget rs).toInt * (s.rget rt).toInt
      ComputesProduct (.dmult rd rs rt) s rd (BitVec.ofInt 64 (p / 2 ^ 64)) (BitVec.ofInt 64 p)) ∧
    (s.is64bitOps = true →
      let p := (s.rget rs).toNat * (s.rget rt).toNat
      ComputesProduct (.dmultu rd rs rt) s rd (BitVec.ofNat 64 (p / 2 ^ 64)) (BitVec.ofNat 64 p))

/-- MADD and MADDU add the product to the low words of HI and LO (42_multiply_divide.md R364, R365, R366). For operands that are
not sign-extended entry U1 leaves any value: that bits 63:32 take no part is the model's choice (log entry 12). -/
def Obligations.MultiplyAccumulate : Prop :=
  ∀ (s : State) (rd rs rt : RegNum),
    let acc : Int := (s.hi.toNat % 2 ^ 32 * 2 ^ 32 + s.lo.toNat % 2 ^ 32 : Nat)
    (let n := acc + (s.rget32 rs).toInt * (s.rget32 rt).toInt
     ComputesProduct (.madd rd rs rt) s rd (sextWord (n / 2 ^ 32)) (sextWord n)) ∧
    (let n := acc + ((s.rget32 rs).toNat * (s.rget32 rt).toNat : Nat)
     ComputesProduct (.maddu rd rs rt) s rd (sextWord (n / 2 ^ 32)) (sextWord n))

/-- `i` completes with `hi` in HI and `lo` in LO, and changes nothing else but the pc. -/
def Sys2Proof.ComputesHiLo (i : Instr) (s : State) (hi lo : DWord) : Prop :=
  ∃ t, exec i s = .next t ∧ t.hi = hi ∧ t.lo = lo ∧ s.movedOn t ∧ s.sameBytes t ∧
    t = { s with hi := t.hi, lo := t.lo, pc := t.pc, delaySlot := t.delaySlot }

/-- DIV, DIVU, and with 64-bit operations enabled DDIV, DDIVU: the remainder in HI and the quotient, truncated toward zero, in LO;
by zero they complete with no exception and nothing changed but HI and LO, whose values are free (42_multiply_divide.md R354,
R355, R358, R359, R368; U20). That the most negative dividend by -1 wraps is decision D18. For operands of DIV and DIVU that
are not sign-extended entry U1 leaves any value: that bits 63:32 take no part is the model's choice (log entry 12). -/
def Obligations.Divides : Prop :=
  ∀ (s : State) (rs rt : RegNum),
    (let n := (s.rget32 rs).toInt
     let d := (s.rget32 rt).toInt
     d ≠ 0 → ComputesHiLo (.div rs rt) s (sextWord (n.tmod d)) (sextWord (n.tdiv d))) ∧
    (let n := (s.rget32 rs).toNat
     let d := (s.rget32 rt).toNat
     d ≠ 0 → ComputesHiLo (.divu rs rt) s (sextWord (n % d : Nat)) (sextWord (n / d : Nat))) ∧
    (let n := (s.rget rs).toInt
     let d := (s.rget rt).toInt
     s.is64bitOps = true → d ≠ 0 →
       ComputesHiLo (.ddiv rs rt) s (BitVec.ofInt 64 (n.tmod d)) (BitVec.ofInt 64 (n.tdiv d))) ∧
    (let n := (s.rget rs).toNat
     let d := (s.rget rt).toNat
     s.is64bitOps = true → d ≠ 0 →
       ComputesHiLo (.ddivu rs rt) s (BitVec.ofNat 64 (n % d)) (BitVec.ofNat 64 (n / d))) ∧
    (s.rget32 rt = 0#32 →
      (∃ hi lo, ComputesHiLo (.div rs rt) s hi lo) ∧ (∃ hi lo, ComputesHiLo (.divu rs rt) s hi lo)) ∧
    (s.is64bitOps = true → s.rget rt = 0#64 →
      (∃ hi lo, ComputesHiLo (.ddiv rs rt) s hi lo) ∧ (∃ hi lo, ComputesHiLo (.ddivu rs rt) s hi lo))

/-- MFHI, MFLO, MTHI, MTLO (42_multiply_divide.md R360 to R363). -/
def Obligations.HiLoMoves : Prop :=
  ∀ (s : State) (rd rs : RegNum),
    Computes (.mfhi rd) s rd s.hi ∧ Computes (.mflo rd) s rd s.lo ∧
    ComputesHiLo (.mthi rs) s (s.rget rs) s.lo ∧ ComputesHiLo (.mtlo rs) s s.hi (s.rget rs)

/-! ## Jumps and branches -/

/-- `i` completes with the pc at the delay slot, `target` to follow, `link` in GPR `r`, and nothing else changed. -/
def Sys2Proof.LinksTo (i : Instr) (s : State) (r : RegNum) (target : DWord) : Prop :=
  ∃ t, exec i s = .next t ∧ t.rget r = gprHolds r (s.pc + 8#64) ∧ t.pc = s.pc + 4#64 ∧ t.delaySlot = some target ∧
    s.sameButGpr t r

/-- J, JAL, JR, JALR outside a delay slot: the target in the 256 MB region of the delay slot, or from rs as it was before the
link was written; the link is the address after the delay slot (43_jump_branch.md R380, R384 to R387). -/
def Obligations.JumpTargets : Prop :=
  ∀ (s : State) (target : BitVec 26) (rd rs : RegNum), s.delaySlot = none →
    let region := BitVec.ofNat 64 ((s.pc + 4#64).toNat / 2 ^ 28 * 2 ^ 28 + 4 * target.toNat)
    BranchesTo (.j target) s region ∧ LinksTo (.jal target) s 31#5 region ∧
    BranchesTo (.jr rs) s (s.rget rs) ∧ LinksTo (.jalr rd rs) s rd (s.rget rs)

/-- The conditional branches outside a delay slot, on the full 64-bit registers; of the branch-likely forms, when not taken, the
delay slot is nullified (43_jump_branch.md R380, R381, R383, R388 to R393, R396 to R401). -/
def Obligations.ConditionalBranches : Prop :=
  ∀ (s : State) (rs rt : RegNum) (offset : BitVec 16), s.delaySlot = none →
    BranchesIf (.beq rs rt offset) s (s.rget rs = s.rget rt) offset ∧
    BranchesIf (.bne rs rt offset) s (s.rget rs ≠ s.rget rt) offset ∧
    BranchesIf (.blez rs offset) s ((s.rget rs).toInt ≤ 0) offset ∧
    BranchesIf (.bgtz rs offset) s (0 < (s.rget rs).toInt) offset ∧
    BranchesIf (.bltz rs offset) s ((s.rget rs).toInt < 0) offset ∧
    BranchesIf (.bgez rs offset) s (0 ≤ (s.rget rs).toInt) offset ∧
    BranchesLikelyIf (.beql rs rt offset) s (s.rget rs = s.rget rt) offset ∧
    BranchesLikelyIf (.bnel rs rt offset) s (s.rget rs ≠ s.rget rt) offset ∧
    BranchesLikelyIf (.blezl rs offset) s ((s.rget rs).toInt ≤ 0) offset ∧
    BranchesLikelyIf (.bgtzl rs offset) s (0 < (s.rget rs).toInt) offset ∧
    BranchesLikelyIf (.bltzl rs offset) s ((s.rget rs).toInt < 0) offset ∧
    BranchesLikelyIf (.bgezl rs offset) s (0 ≤ (s.rget rs).toInt) offset

/-- A linking branch on the condition `c`: r31 takes the address after the delay slot whether or not it is taken; not taken,
the next pc is `other`. -/
def Sys2Proof.LinkingBranch (i : Instr) (s : State) (c : Prop) (offset : BitVec 16) (other : DWord) : Prop :=
  (c → LinksTo i s 31#5 (s.relativeTarget offset)) ∧
  (¬c → ∃ t, exec i s = .next t ∧ t.rget 31#5 = s.pc + 8#64 ∧ t.pc = other ∧ t.delaySlot = none ∧ s.sameButGpr t 31#5)

/-- BLTZAL, BGEZAL, BLTZALL, BGEZALL outside a delay slot: rs is read before r31 is written (43_jump_branch.md R394, R395, R402,
R403). -/
def Obligations.LinkingBranches : Prop :=
  ∀ (s : State) (rs : RegNum) (offset : BitVec 16), s.delaySlot = none →
    LinkingBranch (.bltzal rs offset) s ((s.rget rs).toInt < 0) offset (s.pc + 4#64) ∧
    LinkingBranch (.bgezal rs offset) s (0 ≤ (s.rget rs).toInt) offset (s.pc + 4#64) ∧
    LinkingBranch (.bltzall rs offset) s ((s.rget rs).toInt < 0) offset (s.pc + 8#64) ∧
    LinkingBranch (.bgezall rs offset) s (0 ≤ (s.rget rs).toInt) offset (s.pc + 8#64)

/-- The branches on the FPU condition and on the empty write buffer, usable and outside a delay slot (45_coprocessor.md R464 to
R471; 20_memory.md R163; that the buffer is seen after the drain of the step is log entry 35). -/
def Obligations.CoprocessorBranches : Prop :=
  ∀ (s : State) (offset : BitVec 16), s.delaySlot = none →
    (s.usable 1#2 = true →
      BranchesIf (.bc1f offset) s (s.fcr31.getLsbD 23 = false) offset ∧
      BranchesIf (.bc1t offset) s (s.fcr31.getLsbD 23 = true) offset ∧
      BranchesLikelyIf (.bc1fl offset) s (s.fcr31.getLsbD 23 = false) offset ∧
      BranchesLikelyIf (.bc1tl offset) s (s.fcr31.getLsbD 23 = true) offset) ∧
    (s.usable 0#2 = true →
      BranchesIf (.bc0f offset) s (s.wbuf ≠ []) offset ∧
      BranchesIf (.bc0t offset) s (s.wbuf = []) offset ∧
      BranchesLikelyIf (.bc0fl offset) s (s.wbuf ≠ []) offset ∧
      BranchesLikelyIf (.bc0tl offset) s (s.wbuf = []) offset)

/-- A jump, branch, ERET or DERET in the delay slot of a taken branch or jump, where it would otherwise run, stops
(43_jump_branch.md R382, U21). -/
def Obligations.TransferInDelaySlotStops : Prop :=
  ∀ (i : Instr) (s : State) (target : DWord), transfersControl i = true → s.delaySlot = some target →
    (∀ z, coprocessorOf i = some z → s.usable z = true) → (i = .deret → s.debugMode = true) →
    exec i s = .refused .delaySlotControl

/-! ## Traps, system calls, SYNC, and the instructions with no effect -/

/-- `i` raises the Trap exception when `c` holds, else does nothing. -/
def Sys2Proof.TrapsIf (i : Instr) (s : State) (c : Prop) : Prop :=
  (c → s.debugMode = false → Raises i s .trap) ∧ (¬c → DoesNothing i s)

/-- SYSCALL and BREAK take their exceptions whatever their code field. The twelve trap instructions compare full registers, or
a register and a sign-extended immediate, signed or unsigned (44_special_trap.md R422 to R436; 60_exceptions.md R653 to R655). -/
def Obligations.TrapsAndCalls : Prop :=
  ∀ (s : State) (rs rt : RegNum) (code : BitVec 10) (imm : BitVec 16),
    (∀ code : BitVec 20, s.debugMode = false →
      Raises (.syscall code) s .syscall ∧ Raises (.brk code) s .breakpoint) ∧
    TrapsIf (.tge rs rt code) s ((s.rget rt).toInt ≤ (s.rget rs).toInt) ∧
    TrapsIf (.tgeu rs rt code) s ((s.rget rt).toNat ≤ (s.rget rs).toNat) ∧
    TrapsIf (.tlt rs rt code) s ((s.rget rs).toInt < (s.rget rt).toInt) ∧
    TrapsIf (.tltu rs rt code) s ((s.rget rs).toNat < (s.rget rt).toNat) ∧
    TrapsIf (.teq rs rt code) s (s.rget rs = s.rget rt) ∧
    TrapsIf (.tne rs rt code) s (s.rget rs ≠ s.rget rt) ∧
    TrapsIf (.tgei rs imm) s (imm.toInt ≤ (s.rget rs).toInt) ∧
    TrapsIf (.tgeiu rs imm) s (imm.toInt % 2 ^ 64 ≤ ((s.rget rs).toNat : Int)) ∧
    TrapsIf (.tlti rs imm) s ((s.rget rs).toInt < imm.toInt) ∧
    TrapsIf (.tltiu rs imm) s (((s.rget rs).toNat : Int) < imm.toInt % 2 ^ 64) ∧
    TrapsIf (.teqi rs imm) s ((s.rget rs).toInt = imm.toInt) ∧
    TrapsIf (.tnei rs imm) s ((s.rget rs).toInt ≠ imm.toInt)

/-- SYNC completes when the pending writes can drain, with the write buffer empty and every byte of memory as the processor
saw it (44_special_trap.md R421, 20_memory.md R164); while no writes go out it waits. -/
def Obligations.SyncEmptiesBuffer : Prop :=
  ∀ s : State,
    ((s.wbuf = [] ∨ s.writesGo = true) →
      ∃ t, exec .sync s = .next t ∧ t.wbuf = [] ∧ (∀ a, Memory.get t.mem a = s.physByte a) ∧ s.movedOn t ∧
        s.sameButStored t) ∧
    (s.wbuf ≠ [] → s.writesGo = false →
      ∃ t, exec .sync s = .next t ∧ t.pc = s.pc ∧ t.delaySlot = s.delaySlot ∧ t.plat.stalled = true)

/-- PREF in every mode, and CTC0 where coprocessor 0 is usable, do nothing; CFC0 writes a free value to rt and changes nothing
else (47_debug_other.md R522 to R524; the two CP0 forms follow the total model of U25, log entry 25). -/
def Obligations.PrefetchAndControlMoves : Prop :=
  ∀ (s : State) (hint : BitVec 5) (offset : BitVec 16) (base rt : RegNum) (rd : Cop0RegNum),
    DoesNothing (.pref hint offset base) s ∧
    (s.usable 0#2 = true → DoesNothing (.ctc0 rt rd) s ∧ ∃ v, Computes (.cfc0 rt rd) s rt v)

/-! ## Exceptions -/

/-- The offset of an exception's vector from the base: that of a TLB refill outside an exception by the X bit of the region of
the address, user below 2^62, supervisor up to 2^63 and in cksseg, else kernel; 0x180 for all others. -/
def Sys2Proof.vectorOffsetOf (s : State) (x : Exc) : Nat :=
  match x with
  | .tlbRefill _ va =>
    if s.exl then 0x180
    else
      let wide :=
        if va.toNat < 2 ^ 62 then s.ux
        else if va.toNat < 2 ^ 63 ∨ (0xFFFFFFFFC0000000 ≤ va.toNat ∧ va.toNat < 0xFFFFFFFFE0000000) then s.sx
        else s.kx
      if wide then 0x080 else 0x000
  | _ => 0x180

/-- Taking a general exception (60_exceptions.md R630, R647): ExcCode, CE of a Coprocessor Unusable, EPC and BD unless EXL was
set, EXL, the vector, Kernel mode; no other field of Cause and Status, no register and no memory changes. -/
def Obligations.ExceptionEntry : Prop :=
  ∀ (x : Exc) (s : State),
    let t := takeException x s
    t.cp0.cause.extractLsb' 2 5 = x.code ∧
    (∀ z, x = .copUnusable z → t.cp0.cause.extractLsb' 28 2 = z) ∧
    (s.exl = false →
      t.cp0.epc = (if s.delaySlot.isSome then s.pc - 4#64 else s.pc) ∧ t.cp0.cause.getLsbD 31 = s.delaySlot.isSome) ∧
    (s.exl = true → t.cp0.epc = s.cp0.epc ∧ t.cp0.cause.getLsbD 31 = s.cp0.cause.getLsbD 31) ∧
    t.cp0.cause &&& 0x4FFFFF83#32 = s.cp0.cause &&& 0x4FFFFF83#32 ∧
    t.cp0.status = s.cp0.status ||| 0x2#32 ∧ t.mode = .kernel ∧
    t.pc = (if s.bev then 0xFFFFFFFFBFC00200#64 else 0xFFFFFFFF80000000#64) + BitVec.ofNat 64 (vectorOffsetOf s x) ∧
    t.delaySlot = none ∧
    t = { s with cp0 := t.cp0, pc := t.pc, delaySlot := none, excTaken := true } ∧
    t.cp0 = { s.cp0 with
      cause := t.cp0.cause, epc := t.cp0.epc, status := t.cp0.status, badVAddr := t.cp0.badVAddr
      entryLo0 := t.cp0.entryLo0, entryLo1 := t.cp0.entryLo1, context := t.cp0.context
      xContext := t.cp0.xContext, entryHi := t.cp0.entryHi }

/-- What a TLB exception or an Address Error records whatever EXL is, and that the others leave those registers
(60_exceptions.md R632, D25). -/
def Obligations.BadAddressRecorded : Prop :=
  ∀ (s : State) (k : AccessKind) (va : DWord),
    (∀ x ∈ [Exc.tlbModified va, .tlbRefill k va, .tlbInvalid k va],
      let c := (takeException x s).cp0
      c.badVAddr = va ∧
      c.context.extractLsb' 4 19 = va.extractLsb' 13 19 ∧
      c.context &&& 0xFFFFFFFFFF80000F#64 = s.cp0.context &&& 0xFFFFFFFFFF80000F#64 ∧
      c.xContext.extractLsb' 4 27 = va.extractLsb' 13 27 ∧ c.xContext.extractLsb' 31 2 = va.extractLsb' 62 2 ∧
      c.xContext &&& 0xFFFFFFFE0000000F#64 = s.cp0.xContext &&& 0xFFFFFFFE0000000F#64 ∧
      c.entryHi.extractLsb' 13 27 = va.extractLsb' 13 27 ∧ c.entryHi.extractLsb' 62 2 = va.extractLsb' 62 2 ∧
      c.entryHi &&& 0x3FFFFF0000001FFF#64 = s.cp0.entryHi &&& 0x3FFFFF0000001FFF#64) ∧
    (takeException (.addressError k va) s).cp0.badVAddr = va ∧
    ∀ x, x.badAddr? = none →
      let c := (takeException x s).cp0
      c.badVAddr = s.cp0.badVAddr ∧ c.context = s.cp0.context ∧ c.xContext = s.cp0.xContext ∧ c.entryHi = s.cp0.entryHi ∧
        c.entryLo0 = s.cp0.entryLo0 ∧ c.entryLo1 = s.cp0.entryLo1

/-- ERET where coprocessor 0 is usable, outside a delay slot: to ErrorEPC with ERL cleared if ERL is set, else to EPC with EXL
cleared; LLbit is cleared, nothing else changes (46_cp0_instructions.md R500, 60_exceptions.md R634). -/
def Obligations.EretReturns : Prop :=
  ∀ s : State, s.usable 0#2 = true → s.delaySlot = none →
    ∃ t, exec .eret s = .next t ∧
      (s.erl = true → t.pc = s.cp0.errorEpc ∧ t.cp0.status = s.cp0.status &&& 0xFFFFFFFB#32) ∧
      (s.erl = false → t.pc = s.cp0.epc ∧ t.cp0.status = s.cp0.status &&& 0xFFFFFFFD#32) ∧
      t.delaySlot = none ∧ t.llbit = false ∧
      t = { s with pc := t.pc, delaySlot := none, llbit := t.llbit, cp0 := { s.cp0 with status := t.cp0.status } }

/-- `t` is the debug exception entered from `s` before the instruction at the pc, with the status bits `bits`, the other CP0
registers being those of `c`: DEPC, DBD and DM are set, Debug keeps TLF, BsF, SSt, JtagRst and its reserved bits, the pc is at the
vector (60_exceptions.md R660, R624). -/
def Sys2Proof.entersDebugWith (s t : State) (bits : BitVec 32) (c : Cp0) : Prop :=
  t.cp0.depc = (if s.delaySlot.isSome then s.pc - 4#64 else s.pc) ∧
  t.debugMode = true ∧ (t.cp0.debug).getLsbD 31 = s.delaySlot.isSome ∧
  t.cp0.debug &&& 0x0000703F#32 = bits ∧ t.cp0.debug &&& 0x3FFF8FC0#32 = s.cp0.debug &&& 0x3FFF8FC0#32 ∧
  t.pc = (if s.params.probEnb then 0xFFFFFFFFFF200200#64 else 0xFFFFFFFFBFC00400#64) ∧ t.delaySlot = none ∧
  t.cp0 = { c with depc := t.cp0.depc, debug := t.cp0.debug }

/-- `t` is the debug exception entered from `s` with no other exception: no other CP0 register changes. -/
def Sys2Proof.entersDebug (s t : State) (bits : BitVec 32) : Prop := entersDebugWith s t bits s.cp0

/-- `t` is the debug exception entered from `s` together with the general exception `x`: its register updates are made, OES or, for
a TLB Refill, TRS is set with `bits` (60_exceptions.md R665). -/
def Sys2Proof.entersDebugBeside (s t : State) (bits : BitVec 32) (x : Exc) : Prop :=
  entersDebugWith s t (bits ||| (match x with | .tlbRefill _ _ => 0x2000#32 | _ => 0x1000#32)) (takeException x s).cp0

/-- The status bits of the debug exceptions due before the instruction at the pc, outside debug mode: those of the breaks that
wait, bits 5:2, and DSS where a single step is due and no delay slot is left to run (60_exceptions.md R660 to R662). -/
def Sys2Proof.dueBits (s : State) : BitVec 32 :=
  if s.debugMode then 0#32
  else BitVec.ofNat 32 (4 * s.plat.breaks.toNat + if s.stepPending && s.delaySlot.isNone then 1 else 0)

/-- No break waits and no single step is due. -/
def Sys2Proof.noneDue (s : State) : Prop := s.plat.breaks = 0#4 ∧ s.stepPending = false

/-- A waiting break or a single step finds the state `u` at the boundary before the instruction at the pc of `s`: the word is
fetched, or the fetch stops by name. -/
def Sys2Proof.reachesBoundary (s u : State) : Prop :=
  let v := (tick s).unstalled
  (∃ w, v.fetchWord = .ok w u) ∨ (u = v ∧ ((∃ f, v.fetchWord = .fault f) ∨ ∃ r, v.fetchWord = .refuse r))

/-- `t` is the debug exception entered from `s` together with an NMI (60_exceptions.md R642, R665). -/
def Sys2Proof.entersDebugWithNmi (s t : State) (bits : BitVec 32) : Prop :=
  t.plat.nmiPending = false ∧
    entersDebugWith s t (bits ||| 0x4000#32) { s.cp0 with
      errorEpc := if s.delaySlot.isSome then s.pc - 4#64 else s.pc
      status := s.cp0.status ||| 0x00500004#32 }

/-- `t` is the debug exception entered from `s` at a boundary where no NMI waits: together with a late bus error that has arrived
(log entry 60), else with the interrupt pending, else alone. -/
def Sys2Proof.entersDebugAtBoundary (s t : State) (bits : BitVec 32) : Prop :=
  if s.lateError.any (·.arrived) then entersDebugBeside s t bits .busErrorData
  else if s.interruptPending then entersDebugBeside s t bits .interrupt
  else entersDebug s t bits

/-- SDBBP outside debug mode enters the debug exception with DBp and changes nothing else; DERET in debug mode, usable and
outside a delay slot, returns. SDBBP in debug mode and DERET outside it stop (60_exceptions.md R660, 47_debug_other.md R520,
R521; U24). Before the instruction after one run with SSt set the single step enters it with DSS (R661). A break from outside,
with a probe present and outside debug mode, sets the bit of its kind (R662, R102; that those of the JTAG and the bus breaks and of
the debug interrupt are DINT is log entry 39). That a break waits for the next instruction boundary at which the pipeline runs, and
while a fetch has no answer, is log entry 39; there it enters the debug exception with its bit, and a single step due with DSS
beside it. A waiting NMI, an exception of the fetch, a late bus error that has arrived, an interrupt pending coincide with them:
the registers of the first of these are written, and NIS, TRS or OES is set (R627, R665; log entries 39, 40, 60). That the status
bits of earlier debug exceptions are cleared is log entry 41. -/
def Obligations.DebugEntryAndReturn : Prop :=
  (∀ (s : State) (code : BitVec 20),
    (s.debugMode = false →
      ∃ t, exec (.sdbbp code) s = .next t ∧ entersDebug s t 0x2#32 ∧
        t = { s with pc := t.pc, delaySlot := none, excTaken := true, cp0 := t.cp0 }) ∧
    (s.debugMode = true → exec (.sdbbp code) s = .refused .sdbbpInDebug) ∧
    (s.usable 0#2 = true → s.debugMode = true → s.delaySlot = none →
      ∃ t, exec .deret s = .next t ∧ t.pc = s.cp0.depc ∧ t.cp0.debug = s.cp0.debug &&& 0xBFFFFFFF#32 ∧
        t = { s with pc := t.pc, delaySlot := none, cp0 := { s.cp0 with debug := t.cp0.debug } }) ∧
    (s.usable 0#2 = true → s.debugMode = false → exec .deret s = .refused .deretOutsideDebug)) ∧
  (∀ s : State, s.env.inputs = [] → s.plat.power = .normal → s.plat.fetched = none →
    let v := (tick s).unstalled
    (dueBits s ≠ 0#32 → ∀ u, v.fetchWord = .stall u → s.plat.nmiPending = false ∨ s.plat.stalled = true →
      ∃ t, step s = .next t ∧ dueBits t = dueBits s ∧ t.plat.stalled = true ∧ t.pc = s.pc ∧ t.delaySlot = s.delaySlot ∧
        t.gpr = s.gpr ∧ t.cp0 = (tick s).cp0) ∧
    (dueBits s ≠ 0#32 → s.plat.nmiPending = true → s.plat.stalled = false →
      ∃ t, step s = .next t ∧ entersDebugWithNmi (tick s) t (dueBits s) ∧ noneDue t ∧ t.gpr = s.gpr) ∧
    (∀ u, dueBits s ≠ 0#32 → s.plat.nmiPending = true → s.plat.stalled = true → reachesBoundary s u →
      ∃ t, step s = .next t ∧ entersDebugWithNmi u t (dueBits s) ∧ noneDue t ∧ t.gpr = s.gpr) ∧
    (∀ x u, dueBits s ≠ 0#32 → s.plat.nmiPending = false → v.fetchWord = .exc x u →
      ∃ t, step s = .next t ∧ entersDebugBeside u t (dueBits s) x ∧ noneDue t ∧ t.gpr = s.gpr) ∧
    (∀ u, dueBits s ≠ 0#32 → s.plat.nmiPending = false → reachesBoundary s u →
      ∃ t, step s = .next t ∧ entersDebugAtBoundary u t (dueBits s) ∧ noneDue t ∧ (u.lateError = none → t.gpr = s.gpr)) ∧
    (∀ u w code, dueBits s = 0#32 → s.debugMode = false → s.plat.nmiPending = false → v.fetchWord = .ok w u →
      decode w = .ok (.sdbbp code) → u.interruptPending = true ∨ u.lateError.any (·.arrived) = true →
      ∃ t, step s = .next t ∧ entersDebugAtBoundary u t 0x2#32 ∧ (u.lateError = none → t.gpr = s.gpr))) ∧
  ∀ (s : State) (es : List ExtEvent),
    ∀ p ∈ [(BreakKind.instrAddress, 0x10#32), (.dataStore, 0x8#32), (.dataLoad, 0x4#32), (.jtag, 0x20#32),
        (.processorBus, 0x20#32), (.interrupt, 0x20#32)],
      s.env.inputs = .debugBreak p.1 :: es →
      ∃ t, step s = .next t ∧ t = { s with env := { s.env with inputs := es }, plat := { s.plat with breaks := t.plat.breaks } } ∧
        (s.debugMode = false → s.params.probePresent = true → dueBits t = dueBits s ||| p.2) ∧
        (s.debugMode = true ∨ s.params.probePresent = false → t.plat.breaks = s.plat.breaks)

/-- WAIT, where usable and the pending writes can drain, empties the write buffer and enters Doze or Halt by Config.HALT with
the pc past it (46_cp0_instructions.md R501, 61_interrupts_platform.md R721, R722). A step in Halt or Doze runs no instruction and
wakes the processor exactly when a source of IP[7:2], masked or not, the timer and the Interrupt register among them, an NMI or a
debug break asks: that it is just these that wake is decision D29 and, with Count and the buffer going on in Halt, the model's choice
of log entry 48. -/
def Obligations.WaitSleepsUntilWoken : Prop :=
  ∀ s : State,
    (s.usable 0#2 = true → (s.wbuf = [] ∨ s.writesGo = true) →
      ∃ t, exec .wait s = .next t ∧ s.movedOn t ∧ t.wbuf = [] ∧ s.sameBytes t ∧
        t.plat = { s.plat with power := if s.haltBit then .doze else .halt } ∧
        t = { s with pc := t.pc, delaySlot := t.delaySlot, wbuf := t.wbuf, mem := t.mem, plat := t.plat }) ∧
    (s.env.inputs = [] → s.plat.power ≠ .normal →
      ∃ t, step s = .next t ∧ t.pc = s.pc ∧ t.delaySlot = s.delaySlot ∧ t.gpr = s.gpr ∧
        (t.plat.power = .normal ↔ (tick s).hardIp ≠ 0#6 ∨ s.plat.nmiPending = true ∨ s.plat.breaks ≠ 0#4))

/-! ## Coprocessor 0 -/

/-- What the CP0 registers show, by number; the reserved numbers read 0 (11_cp0_registers.md R60, R98; D6). -/
def Sys2Proof.cp0Values (s : State) : List (Cop0RegNum × DWord) :=
  [(0#5, s.cp0.index.signExtend 64), (1#5, s.cp0.random.setWidth 64), (2#5, s.cp0.entryLo0), (3#5, s.cp0.entryLo1),
   (4#5, s.cp0.context), (5#5, s.cp0.pageMask.signExtend 64), (6#5, s.cp0.wired.setWidth 64), (7#5, 0#64),
   (8#5, s.cp0.badVAddr), (9#5, s.cp0.count.signExtend 64), (10#5, s.cp0.entryHi),
   (11#5, s.cp0.compare.signExtend 64), (12#5, s.cp0.status.signExtend 64), (13#5, s.causeWord.signExtend 64),
   (14#5, s.cp0.epc), (15#5, (0x002D#24 ++ s.params.pridRev).signExtend 64), (16#5, s.cp0.config.signExtend 64),
   (17#5, s.cp0.llAddr.signExtend 64), (18#5, 0#64), (19#5, 0#64), (20#5, s.cp0.xContext), (21#5, 0#64), (22#5, 0#64),
   (23#5, (s.cp0.debug).signExtend 64), (24#5, s.cp0.depc), (25#5, 0#64), (26#5, 0#64), (27#5, 0#64),
   (28#5, s.cp0.tagLo.signExtend 64), (29#5, s.cp0.tagHi.signExtend 64), (30#5, s.cp0.errorEpc), (31#5, s.cp0.desave)]

/-- MFC0 reads the low word of each register sign-extended, DMFC0 the 64-bit registers whole and the 32-bit ones sign-extended
(46_cp0_instructions.md R490, R492, D5). -/
def Obligations.Cop0Reads : Prop :=
  ∀ (s : State) (rt : RegNum), s.usable 0#2 = true →
    ∀ p ∈ cp0Values s,
      Computes (.mfc0 rt p.1) s rt (sextWord p.2.toNat) ∧
        (s.is64bitOps = true → Computes (.dmfc0 rt p.1) s rt p.2)

/-- The registers a write changes by its mask alone: number, mask of the writable bits, whether it holds 64 bits. -/
def Sys2Proof.cp0Masks : List (Cop0RegNum × DWord × Bool) :=
  [(0#5, 0xFFFFFFFF8000003F#64, false), (2#5, 0x00000000FFFFFFFF#64, true), (3#5, 0x00000000FFFFFFFF#64, true),
   (4#5, 0xFFFFFFFFFF800000#64, true), (5#5, 0x01FFE000#64, false), (10#5, 0xC00000FFFFFFE0FF#64, true),
   (13#5, 0x300#64, false), (14#5, 0xFFFFFFFFFFFFFFFF#64, true), (16#5, 0x00070007#64, false),
   (17#5, 0xFFFFFFFFFFFFFFFF#64, false), (20#5, 0xFFFFFFFF80000000#64, true), (24#5, 0xFFFFFFFFFFFFFFFF#64, true),
   (28#5, 0xFFFFFFFFFFFFFFFE#64, false), (29#5, 0xFFFFFFFFC0000000#64, false),
   (30#5, 0xFFFFFFFFFFFFFFFF#64, true), (31#5, 0xFFFFFFFFFFFFFFFF#64, true)]

/-- `i` completes with the bits of `mask` of CP0 register `r` taken from `v`, and every other CP0 register as before. -/
def Sys2Proof.WritesCp0 (i : Instr) (s : State) (r : Cop0RegNum) (mask v : DWord) : Prop :=
  ∃ t, exec i s = .next t ∧ t.readCp0 r = (s.readCp0 r &&& ~~~mask) ||| (v &&& mask) ∧
    (∀ q, q ≠ r → t.readCp0 q = s.readCp0 q) ∧ s.movedOn t ∧ s.sameBytes t ∧
    t = { s with cp0 := t.cp0, pc := t.pc, delaySlot := t.delaySlot }

/-- MTC0 writes the sign-extended low word, DMTC0 the whole register, under the masks of the field tables; a write to Random,
BadVAddr, PRId or a reserved number changes nothing (46_cp0_instructions.md R491, R493, 11_cp0_registers.md, D5, D6; that a
reserved bit keeps its value is 00_scope.md R14 with D4). -/
def Obligations.Cop0WritesByMask : Prop :=
  ∀ (s : State) (rt : RegNum), s.usable 0#2 = true →
    (∀ p ∈ cp0Masks,
      WritesCp0 (.mtc0 rt p.1) s p.1 p.2.1 (sextWord (s.rget rt).toNat) ∧
        (s.is64bitOps = true →
          WritesCp0 (.dmtc0 rt p.1) s p.1 p.2.1 (if p.2.2 then s.rget rt else sextWord (s.rget rt).toNat))) ∧
    ∀ r ∈ [1#5, 7#5, 8#5, 15#5, 18#5, 19#5, 21#5, 22#5, 25#5, 26#5, 27#5],
      DoesNothing (.mtc0 rt r) s ∧ (s.is64bitOps = true → DoesNothing (.dmtc0 rt r) s)

/-- The writes of MTC0, and of DMTC0 with 64-bit operations enabled, with effects of their own: Wired sets Random to 47; Count;
Compare clears the timer interrupt; Status, which leaves the FPRs as they are unless FR changes; Debug (46_cp0_instructions.md
R491, R493; 11_cp0_registers.md R69, R73, R74, R80, R102, R105). That a changed FR leaves the FPRs free is U2 (log entry 13), that
Count written equal to Compare sets the timer latch is log entry 30. -/
def Obligations.Cop0WriteEffects : Prop :=
  ∀ (s : State) (rt : RegNum), s.usable 0#2 = true →
    let writes := fun (r : Cop0RegNum) (i : Instr) => i = .mtc0 rt r ∨ (i = .dmtc0 rt r ∧ s.is64bitOps = true)
    (∀ i, writes 6#5 i → ∃ t, exec i s = .next t ∧ s.movedOn t ∧
      t.cp0 = { s.cp0 with wired := (s.rget rt).extractLsb' 0 6, random := 47#6 } ∧
      t = { s with cp0 := t.cp0, pc := t.pc, delaySlot := t.delaySlot }) ∧
    (∀ i, writes 9#5 i → ∃ t, exec i s = .next t ∧ s.movedOn t ∧ t.cp0 = { s.cp0 with count := s.rget32 rt } ∧
      (t.plat.timerInt = true ↔ s.plat.timerInt = true ∨ s.rget32 rt = s.cp0.compare) ∧
      t = { s with cp0 := t.cp0, pc := t.pc, delaySlot := t.delaySlot, plat := { s.plat with timerInt := t.plat.timerInt } }) ∧
    (∀ i, writes 11#5 i → ∃ t, exec i s = .next t ∧ s.movedOn t ∧ t.cp0 = { s.cp0 with compare := s.rget32 rt } ∧
      t.plat = { s.plat with timerInt := false } ∧
      t = { s with cp0 := t.cp0, pc := t.pc, delaySlot := t.delaySlot, plat := t.plat }) ∧
    (∀ i, writes 12#5 i → ∃ t, exec i s = .next t ∧ s.movedOn t ∧
      t.cp0 = { s.cp0 with status := (s.cp0.status &&& 0x09AB0000#32) ||| (s.rget32 rt &&& 0xF654FFFF#32) } ∧
      (s.fr = (s.rget rt).getLsbD 26 → t.fgr = s.fgr) ∧
      t = { s with cp0 := t.cp0, pc := t.pc, delaySlot := t.delaySlot, fgr := t.fgr }) ∧
    (∀ i, writes 23#5 i → ∃ t, exec i s = .next t ∧ s.movedOn t ∧
      t.cp0 = { s.cp0 with debug := t.cp0.debug } ∧
      t.cp0.debug &&& 0xFFFFF27F#32 = s.cp0.debug &&& 0xFFFFF27F#32 ∧
      (t.cp0.debug).getLsbD 8 = (s.rget rt).getLsbD 8 ∧ (t.cp0.debug).getLsbD 7 = (s.rget rt).getLsbD 7 ∧
      (t.cp0.debug).getLsbD 10 = ((s.cp0.debug).getLsbD 10 && (s.rget rt).getLsbD 10) ∧
      (t.cp0.debug).getLsbD 11 = ((s.cp0.debug).getLsbD 11 && (s.rget rt).getLsbD 11) ∧
      t = { s with cp0 := t.cp0, pc := t.pc, delaySlot := t.delaySlot })

/-! ## The TLB -/

/-- The page an EntryLo register describes. -/
def Sys2Proof.pageIs (p : TlbPage) (lo : DWord) : Prop :=
  p.pfn.toNat = lo.toNat / 2 ^ 6 % 2 ^ 24 ∧ p.c.toNat = lo.toNat / 2 ^ 3 % 2 ^ 3 ∧ p.d = lo.getLsbD 2 ∧ p.v = lo.getLsbD 1

/-- `i` writes the entry that PageMask, EntryHi and EntryLo0/1 describe at index `k` of the TLB and changes nothing else. -/
def Sys2Proof.WritesTlb (i : Instr) (s : State) (k : Fin 48) : Prop :=
  ∃ t, exec i s = .next t ∧
    (let e := t.tlb[k.val]
     e.mask.toNat = s.cp0.pageMask.toNat / 2 ^ 13 % 2 ^ 12 ∧ e.r.toNat = s.cp0.entryHi.toNat / 2 ^ 62 ∧
       e.vpn2.toNat = s.cp0.entryHi.toNat / 2 ^ 13 % 2 ^ 27 ∧ e.asid.toNat = s.cp0.entryHi.toNat % 2 ^ 8 ∧
       (e.g = true ↔ s.cp0.entryLo0.getLsbD 0 = true ∧ s.cp0.entryLo1.getLsbD 0 = true) ∧
       pageIs e.even s.cp0.entryLo0 ∧ pageIs e.odd s.cp0.entryLo1) ∧
    (∀ j : Fin 48, j ≠ k → t.tlb[j.val] = s.tlb[j.val]) ∧ s.movedOn t ∧ s.sameBytes t ∧
    t = { s with tlb := t.tlb, pc := t.pc, delaySlot := t.delaySlot }

/-- TLBWI writes the entry Index names and TLBWR the entry Random names, where the number is below 48 and PageMask holds one of
the seven masks; with another mask they stop (46_cp0_instructions.md R496, R497; U9). -/
def Obligations.TlbWrites : Prop :=
  ∀ s : State, s.usable 0#2 = true →
    let mask := s.cp0.pageMask.toNat / 2 ^ 13 % 2 ^ 12
    let legal := mask ∈ [0x000, 0x003, 0x00F, 0x03F, 0x0FF, 0x3FF, 0xFFF]
    (∀ k : Fin 48, s.cp0.index.toNat % 2 ^ 6 = k.val →
      (legal → WritesTlb .tlbwi s k) ∧ (¬legal → exec .tlbwi s = .refused .tlbBadMask)) ∧
    (∀ k : Fin 48, s.cp0.random.toNat = k.val →
      (legal → WritesTlb .tlbwr s k) ∧ (¬legal → exec .tlbwr s = .refused .tlbBadMask))

/-- The matching of a TLB entry with the region and the VPN2 of `key`, laid out as in an address, the bits under the mask left out,
and with the ASID of EntryHi (20_memory.md R145 step 3). -/
def Sys2Proof.matchesKey (s : State) (e : TlbEntry) (key : DWord) : Prop :=
  (∀ b, b < 27 → (b < 12 → e.mask.getLsbD b = false) → e.vpn2.getLsbD b = key.getLsbD (13 + b)) ∧
    e.r = key.extractLsb' 62 2 ∧ (e.g = true ∨ e.asid.toNat = s.cp0.entryHi.toNat % 2 ^ 8)

/-- The matching of a TLB entry with EntryHi. -/
def Sys2Proof.matchesEntryHi (s : State) (e : TlbEntry) : Prop := matchesKey s e s.cp0.entryHi

/-- TLBR loads PageMask, EntryHi, EntryLo0 and EntryLo1 from the entry Index names. TLBP puts the number of the one matching
entry into Index, or sets P if there is none, and stops if there are several (46_cp0_instructions.md R495, R498; U15; the
index field after a miss is free, U23). -/
def Obligations.TlbReadAndProbe : Prop :=
  ∀ s : State, s.usable 0#2 = true →
    (∀ k : Fin 48, s.cp0.index.toNat % 2 ^ 6 = k.val →
      ∃ t, exec .tlbr s = .next t ∧
        (let e := s.tlb[k.val]
         t.cp0 = { s.cp0 with
           pageMask := t.cp0.pageMask, entryHi := t.cp0.entryHi, entryLo0 := t.cp0.entryLo0, entryLo1 := t.cp0.entryLo1 } ∧
         t.cp0.pageMask.toNat = e.mask.toNat * 2 ^ 13 ∧
         t.cp0.entryHi.toNat = e.r.toNat * 2 ^ 62 + e.vpn2.toNat * 2 ^ 13 + e.asid.toNat ∧
         pageIs e.even t.cp0.entryLo0 ∧ pageIs e.odd t.cp0.entryLo1 ∧
         t.cp0.entryLo0.getLsbD 0 = e.g ∧ t.cp0.entryLo1.getLsbD 0 = e.g ∧
         t.cp0.entryLo0.toNat < 2 ^ 30 ∧ t.cp0.entryLo1.toNat < 2 ^ 30) ∧
        s.movedOn t ∧ t = { s with cp0 := t.cp0, pc := t.pc, delaySlot := t.delaySlot }) ∧
    (∀ k : Fin 48, matchesEntryHi s s.tlb[k.val] → (∀ j : Fin 48, j ≠ k → ¬matchesEntryHi s s.tlb[j.val]) →
      ∃ t, exec .tlbp s = .next t ∧ t.cp0 = { s.cp0 with index := BitVec.ofNat 32 k.val } ∧ s.movedOn t ∧
        t = { s with cp0 := t.cp0, pc := t.pc, delaySlot := t.delaySlot }) ∧
    ((∀ j : Fin 48, ¬matchesEntryHi s s.tlb[j.val]) →
      ∃ t, exec .tlbp s = .next t ∧ t.cp0.index.getLsbD 31 = true ∧ t.cp0.index.toNat % 2 ^ 31 < 2 ^ 6 ∧ s.movedOn t ∧
        t = { s with cp0 := { s.cp0 with index := t.cp0.index }, pc := t.pc, delaySlot := t.delaySlot }) ∧
    (∀ j k : Fin 48, j ≠ k → matchesEntryHi s s.tlb[j.val] → matchesEntryHi s s.tlb[k.val] →
      exec .tlbp s = .refused .tlbMultiMatch)

/-- The translation of a mapped address by the one entry that matches it, in its region, in its VPN2 outside the mask, and global or
in the ASID: the page of the pair by the address bit above the offset, Invalid if not V, Modified for a store if not D, else the
frame over the offset bits with the page's attribute; a Refill if none matches (20_memory.md R143, R144, R145). It stops if
several match (U15), with a mask that is no page size (U9) and with a reserved attribute (U8). -/
def Obligations.MappedTranslation : Prop :=
  ∀ (s : State) (k : AccessKind) (va : DWord), s.segment? va = some .mapped →
    ((∀ j : Fin 48, ¬matchesKey s s.tlb[j.val] va) → s.translate k va = .exc (.tlbRefill k va) s) ∧
    (∀ i j : Fin 48, i ≠ j → matchesKey s s.tlb[i.val] va → matchesKey s s.tlb[j.val] va →
      s.translate k va = .refuse .tlbMultiMatch) ∧
    ∀ i : Fin 48, matchesKey s s.tlb[i.val] va → (∀ j : Fin 48, j ≠ i → ¬matchesKey s s.tlb[j.val] va) →
      let e := s.tlb[i.val]
      let sizes := [(0x000, 12), (0x003, 14), (0x00F, 16), (0x03F, 18), (0x0FF, 20), (0x3FF, 22), (0xFFF, 24)]
      ((∀ n, (e.mask.toNat, n) ∉ sizes) → s.translate k va = .refuse .tlbBadMask) ∧
      ∀ n, (e.mask.toNat, n) ∈ sizes →
        let p := if va.toNat / 2 ^ n % 2 = 1 then e.odd else e.even
        (p.v = false → s.translate k va = .exc (.tlbInvalid k va) s) ∧
        (p.v = true → k = .store → p.d = false → s.translate k va = .exc (.tlbModified va) s) ∧
        (p.v = true → (k = .store → p.d = true) → 4 ≤ p.c.toNat → s.translate k va = .refuse .reservedCacheAttr) ∧
        (p.v = true → (k = .store → p.d = true) → p.c.toNat < 4 →
          ∃ pa : PAddr, s.translate k va = .ok { pa := pa, attr := p.c } s ∧
            pa.toNat = p.pfn.toNat * 2 ^ 12 / 2 ^ n * 2 ^ n + va.toNat % 2 ^ n)

/-- `va` lies in an unmapped segment: it translates to the physical address `pa` with the attribute `attr`, unless that is
reserved (20_memory.md R133, R145; U8). -/
def Sys2Proof.isUnmapped (s : State) (k : AccessKind) (va : DWord) (pa : Nat) (attr : BitVec 3) : Prop :=
  s.segment? va = some (.unmapped (BitVec.ofNat 36 pa) attr) ∧
    (attr.toNat < 4 → s.translate k va = .ok { pa := BitVec.ofNat 36 pa, attr := attr } s) ∧
    (4 ≤ attr.toNat → s.translate k va = .refuse .reservedCacheAttr)

/-- The Kernel segments at the top of the address space: kseg0, kseg1, ksseg, kseg3 and the reserved range within it, named
ckseg0, ckseg1, cksseg and ckseg3 under 64-bit addressing. -/
def Sys2Proof.compatSegments (s : State) (k : AccessKind) (va : DWord) : Prop :=
  let n := va.toNat
  let unmapped := isUnmapped s k va
  (0xFFFFFFFF80000000 ≤ n → n < 0xFFFFFFFFA0000000 → unmapped (n - 0xFFFFFFFF80000000) (s.cp0.config.extractLsb' 0 3)) ∧
  (0xFFFFFFFFA0000000 ≤ n → n < 0xFFFFFFFFC0000000 → unmapped (n - 0xFFFFFFFFA0000000) 2#3) ∧
  (0xFFFFFFFFC0000000 ≤ n → n < 0xFFFFFFFFFF000000 → s.segment? va = some .mapped) ∧
  (0xFFFFFFFFFF000000 ≤ n → n < 0xFFFFFFFFFF400000 → unmapped (n % 2 ^ 36) 2#3) ∧
  (0xFFFFFFFFFF400000 ≤ n → s.segment? va = some .mapped)

/-- The segments of User, Supervisor and Kernel mode, under 32-bit and under 64-bit addressing: which addresses are mapped, which
are unmapped, to what physical address they translate and with what attribute, and which raise Address Error (20_memory.md R127
to R134, R139, R145). Two of its clauses are decisions of the spec and not the source's own words: that every hole of the 64-bit maps
is an Address Error is D9, and that with ERL = 1 only the lower 2 GB are unmapped also under 64-bit addressing, KX = 1, is D10. -/
def Obligations.AddressSegments : Prop :=
  ∀ (s : State) (k : AccessKind) (va : DWord),
    let n := va.toNat
    let mapped := s.segment? va = some .mapped
    let unmapped := isUnmapped s k va
    let error := s.translate k va = .exc (.addressError k va) s
    (s.is64bitAddr = false →
      (s.mode = .user → (n < 2 ^ 31 → mapped) ∧ (2 ^ 31 ≤ n → error)) ∧
      (s.mode = .supervisor →
        (n < 2 ^ 31 → mapped) ∧ (2 ^ 31 ≤ n → n < 0xFFFFFFFFC0000000 → error) ∧
        (0xFFFFFFFFC0000000 ≤ n → n < 0xFFFFFFFFE0000000 → mapped) ∧ (0xFFFFFFFFE0000000 ≤ n → error)) ∧
      (s.mode = .kernel →
        (n < 2 ^ 31 → s.erl = false → mapped) ∧ (n < 2 ^ 31 → s.erl = true → unmapped n 2#3) ∧
        (2 ^ 31 ≤ n → n < 0xFFFFFFFF80000000 → error) ∧ compatSegments s k va)) ∧
    (s.is64bitAddr = true →
      (s.mode = .user → (n < 2 ^ 40 → mapped) ∧ (2 ^ 40 ≤ n → error)) ∧
      (s.mode = .supervisor →
        (n < 2 ^ 40 → mapped) ∧ (2 ^ 40 ≤ n → n < 2 ^ 62 → error) ∧
        (2 ^ 62 ≤ n → n < 2 ^ 62 + 2 ^ 40 → mapped) ∧ (2 ^ 62 + 2 ^ 40 ≤ n → n < 0xFFFFFFFFC0000000 → error) ∧
        (0xFFFFFFFFC0000000 ≤ n → n < 0xFFFFFFFFE0000000 → mapped) ∧ (0xFFFFFFFFE0000000 ≤ n → error)) ∧
      (s.mode = .kernel →
        (n < 2 ^ 40 → s.erl = false ∨ 2 ^ 31 ≤ n → mapped) ∧ (n < 2 ^ 31 → s.erl = true → unmapped n 2#3) ∧
        (2 ^ 40 ≤ n → n < 2 ^ 62 → error) ∧ (2 ^ 62 ≤ n → n < 2 ^ 62 + 2 ^ 40 → mapped) ∧
        (2 ^ 62 + 2 ^ 40 ≤ n → n < 2 ^ 63 → error) ∧
        (2 ^ 63 ≤ n → n < 2 ^ 63 + 2 ^ 62 →
          (n % 2 ^ 59 < 2 ^ 36 → unmapped (n % 2 ^ 59) (BitVec.ofNat 3 (n / 2 ^ 59))) ∧ (2 ^ 36 ≤ n % 2 ^ 59 → error)) ∧
        (0xC000000000000000 ≤ n → n < 0xC00000FF80000000 → mapped) ∧
        (0xC00000FF80000000 ≤ n → n < 0xFFFFFFFF80000000 → error) ∧ compatSegments s k va))

/-! ## Caches -/

/-- Every line of cache `c` but `way` of `set` is as before. -/
def Sys2Proof.sameOtherLines (s t : State) (c : CacheId) (set : BitVec 8) (way : BitVec 2) : Prop :=
  ∀ set' way', (set', way') ≠ (set, way) → (t.cache c).line set' way' = (s.cache c).line set' way'

/-- Nothing changed but the caches, the write buffer, memory, CP0, the open replacement choices, the pc and the branch state. -/
def Sys2Proof.sameButCaches (s t : State) : Prop :=
  t = { s with
    icache := t.icache, dcache := t.dcache, wbuf := t.wbuf, mem := t.mem, cp0 := t.cp0, choices := t.choices
    pc := t.pc, delaySlot := t.delaySlot }

/-- The line of tag `tag` in `set` holds `data` in memory as the processor sees it, and every byte outside it reads as before. -/
def Sys2Proof.lineStored (s t : State) (tag : BitVec 24) (set : BitVec 8) (data : Vector Byte 32) : Prop :=
  let pa := tag.toNat * 2 ^ 12 + set.toNat % 2 ^ 7 * 2 ^ 5
  (∀ k (h : k < 32), t.physByte (BitVec.ofNat 36 (pa + k)) = data[k]) ∧
    ∀ a : PAddr, a.toNat / 32 ≠ pa / 32 → t.physByte a = s.physByte a

/-- The way `d` places on from the one the replacement bits name holds a locked valid line: one that no refill replaces outside
debug mode. Way 0 has no lock (21_cache.md R181, R199). -/
def Sys2Proof.lockedFrom (s : State) (c : CacheId) (set : BitVec 8) (d : Nat) : Prop :=
  let way := (s.cache c).fifoOf set + BitVec.ofNat 2 d
  way ≠ 0#2 ∧ s.debugMode = false ∧ ((s.cache c).line set way).lock = true ∧ ((s.cache c).line set way).valid = true

/-- `way` is one a refill of `set` may take (21_cache.md R189, R199): an invalid way; or, where every way is valid, the first
from the one the replacement bits name, in circular order, that is not locked. -/
def Sys2Proof.isVictim (s : State) (c : CacheId) (set : BitVec 8) (way : BitVec 2) : Prop :=
  ((s.cache c).line set way).valid = false ∨
    ((∀ w, ((s.cache c).line set w).valid = true) ∧
      ∃ d, way = (s.cache c).fifoOf set + BitVec.ofNat 2 d ∧ ¬lockedFrom s c set d ∧ ∀ d', d' < d → lockedFrom s c set d')

/-- What the line that a refill or a Create Dirty Exclusive takes over held is written back if it was valid and dirty, else
every byte of memory reads as before (21_cache.md R185, R187). -/
def Sys2Proof.castsOut (s t : State) (c : CacheId) (set : BitVec 8) (way : BitVec 2) : Prop :=
  let l := (s.cache c).line set way
  (l.valid = true → l.dirty = true → lineStored s t l.tag set l.data) ∧
    (l.valid = false ∨ l.dirty = false → s.sameBytes t)

/-- The line of `way` in `t` is the line of `pa`, valid, locked if the way was; its data is memory's (21_cache.md R185, R199). That
in debug mode, where lines are not locked (60_exceptions.md R663), it loses its lock is log entry 41. -/
def Sys2Proof.refilled (s t : State) (c : CacheId) (set : BitVec 8) (way : BitVec 2) (pa : PAddr) : Prop :=
  let n := (t.cache c).line set way
  n.tag = pa.extractLsb' 12 24 ∧ n.valid = true ∧
    n.lock = (((s.cache c).line set way).lock && !s.debugMode) ∧
    ∀ k (h : k < 32), n.data[k] = s.physByte (BitVec.ofNat 36 (pa.toNat / 32 * 32 + k))

/-- The block read of the line of `pa` is answered: nothing waits in the write buffer, no bus error is still to be reported, and
the four doublewords are answered with data (20_memory.md R161; 60_exceptions.md R651). -/
def Sys2Proof.lineReads (s : State) (pa : PAddr) : Prop :=
  s.wbuf = [] ∧ s.lateError = none ∧ inChipRange pa = false ∧
    s.readAnswer ((List.range 4).map fun i => pa.toNat / 32 * 4 + i) = .data

/-- The other cache is as before. -/
def Sys2Proof.sameOtherCache (s t : State) (c : CacheId) : Prop :=
  match c with
  | .inst => t.dcache = s.dcache
  | .data => t.icache = s.icache

/-- The Index operations, where coprocessor 0 is usable and the mode may name the address: Invalidate leaves the line invalid,
with a dirty data line in the write buffer; Load Tag shows the line in TagLo and TagHi and leaves it; Store Tag writes tag,
state and lock from TagLo, no lock in way 0, and leaves the data (21_cache.md R191 to R193). The way is a parameter of the model
(log entry 7, D13). -/
def Obligations.CacheIndexOperations : Prop :=
  ∀ (s : State) (offset : BitVec 16) (base : RegNum) (seg : Segment),
    s.MemoryForm → s.usable 0#2 = true →
    let va := s.effAddr base offset
    let set := va.extractLsb' 5 8
    let way := s.wayOf va
    s.segment? va = some seg → seg ≠ .addressError →
    (∀ op c, (op, c) ∈ [(CacheOp.indexInvalidateI, CacheId.inst), (.indexWriteBackInvalidateD, .data)] →
      let l := (s.cache c).line set way
      (l.dirty = false ∨ s.wbuf = [] ∨ s.writesGo = true) →
      ∃ t, exec (.cache op offset base) s = .next t ∧ ((t.cache c).line set way).valid = false ∧
        sameOtherLines s t c set way ∧ sameOtherCache s t c ∧ t.cp0 = s.cp0 ∧ sameButCaches s t ∧ s.movedOn t ∧
        (l.valid = true → l.dirty = true → lineStored s t l.tag set l.data) ∧
        (l.valid = false ∨ l.dirty = false → s.sameBytes t)) ∧
    (∀ op c, (op, c) ∈ [(CacheOp.indexLoadTagI, CacheId.inst), (.indexLoadTagD, .data)] →
      let l := (s.cache c).line set way
      ∃ t, exec (.cache op offset base) s = .next t ∧
        t.cp0 = { s.cp0 with tagLo := t.cp0.tagLo, tagHi := t.cp0.tagHi } ∧
        t.cp0.tagLo.extractLsb' 8 24 = l.tag ∧ t.cp0.tagLo.extractLsb' 6 2 = (if l.valid then 3#2 else 0#2) ∧
        t.cp0.tagLo.getLsbD 2 = (l.lock && way != 0#2) ∧
        t.cp0.tagHi.extractLsb' 31 1 ++ t.cp0.tagLo.extractLsb' 1 1 = (s.cache c).fifoOf set ∧
        t.cp0.tagLo.extractLsb' 3 3 = s.cp0.tagLo.extractLsb' 3 3 ∧
        (∀ set' way', (t.cache c).line set' way' = (s.cache c).line set' way') ∧ sameOtherCache s t c ∧
        sameButCaches s t ∧ s.movedOn t ∧ s.sameBytes t) ∧
    (∀ op c, (op, c) ∈ [(CacheOp.indexStoreTagI, CacheId.inst), (.indexStoreTagD, .data)] →
      let l := (s.cache c).line set way
      let state := s.cp0.tagLo.extractLsb' 6 2
      (state = 0#2 ∨ state = 3#2) →
      ∃ t, exec (.cache op offset base) s = .next t ∧
        (let n := (t.cache c).line set way
         n.tag = s.cp0.tagLo.extractLsb' 8 24 ∧ n.valid = (state == 3#2) ∧
           n.lock = (s.cp0.tagLo.getLsbD 2 && way != 0#2) ∧ n.data = l.data) ∧
        (t.cache c).fifoOf set = s.cp0.tagHi.extractLsb' 31 1 ++ s.cp0.tagLo.extractLsb' 1 1 ∧
        sameOtherLines s t c set way ∧ sameOtherCache s t c ∧ t.cp0 = s.cp0 ∧ sameButCaches s t ∧ s.movedOn t ∧ s.sameBytes t)

/-- The operations on a translated address, where coprocessor 0 is usable. That they work whatever the attribute of the address,
also an uncached one, where R195 says 'looked up as an ordinary access would be', is log entry 50; that Create Dirty Exclusive
works in the chip's own range too is log entry 53. The Hit operations, where at most one way holds it:
Status.CH tells whether one does. On a hit, Hit Invalidate leaves the line invalid and writes nothing back; Hit Write Back Invalidate and Hit
Write Back put a dirty line in the write buffer and leave the line invalid or clean. On a miss no line changes (21_cache.md R195,
R196). Create Dirty Exclusive marks the line that holds the address dirty; where none does it takes a victim over, writes it back
if it was dirty, and gives it the tag, valid and dirty, its data kept (R194), locked if the way was; that it loses its
lock in debug mode is log entry 64. Fill, where no other way holds the address, refills
the way the replacement bits name, past locked lines, which is log entry 50, and writes back what it held (R197, R189). -/
def Obligations.CacheHitOperations : Prop :=
  ∀ (s : State) (offset : BitVec 16) (base : RegNum) (p : Physical),
    s.MemoryForm → s.usable 0#2 = true →
    let va := s.effAddr base offset
    let set := va.extractLsb' 5 8
    let tag := p.pa.extractLsb' 12 24
    s.translate .load va = .ok p s →
    (∀ op c, (op, c) ∈ [(CacheOp.hitInvalidateI, CacheId.inst), (.hitInvalidateD, .data), (.hitWriteBackInvalidateD, .data),
        (.hitWriteBackD, .data)] →
      ((s.cache c).hits set tag = [] →
        ∃ t, exec (.cache op offset base) s = .next t ∧ t.cp0 = { s.cp0 with status := s.cp0.status &&& 0xFFFBFFFF#32 } ∧
          (∀ set' way', (t.cache c).line set' way' = (s.cache c).line set' way') ∧ sameOtherCache s t c ∧
          sameButCaches s t ∧ s.movedOn t ∧ s.sameBytes t) ∧
      (∀ way, (s.cache c).hits set tag = [way] →
        let l := (s.cache c).line set way
        (l.dirty = false ∨ s.wbuf = [] ∨ s.writesGo = true) →
        ∃ t, exec (.cache op offset base) s = .next t ∧ t.cp0 = { s.cp0 with status := s.cp0.status ||| 0x00040000#32 } ∧
          (let n := (t.cache c).line set way
           n.valid = (op == .hitWriteBackD) ∧ n.dirty = false) ∧
          sameOtherLines s t c set way ∧ sameOtherCache s t c ∧ sameButCaches s t ∧ s.movedOn t ∧
          (l.dirty = true → op ≠ .hitInvalidateI → op ≠ .hitInvalidateD → lineStored s t l.tag set l.data) ∧
          (l.dirty = false ∨ op = .hitInvalidateI ∨ op = .hitInvalidateD → s.sameBytes t))) ∧
    (∀ way, s.dcache.hits set tag = [way] →
      let l := s.dcache.line set way
      ∃ t, exec (.cache .createDirtyExclusiveD offset base) s = .next t ∧ t.cp0 = s.cp0 ∧
        t.dcache.line set way = { l with dirty := true } ∧ sameOtherLines s t .data set way ∧ sameOtherCache s t .data ∧
        sameButCaches s t ∧ s.movedOn t ∧ s.sameBytes t) ∧
    (s.dcache.hits set tag = [] → (s.wbuf = [] ∨ s.writesGo = true) →
      ∃ way t, isVictim s .data set way ∧ exec (.cache .createDirtyExclusiveD offset base) s = .next t ∧ t.cp0 = s.cp0 ∧
        (let l := s.dcache.line set way
         t.dcache.line set way =
           { tag := tag, valid := true, lock := l.lock && !s.debugMode, dirty := true, data := l.data }) ∧
        castsOut s t .data set way ∧ sameOtherLines s t .data set way ∧ sameOtherCache s t .data ∧ sameButCaches s t ∧
        s.movedOn t) ∧
    ∀ op c, (op, c) ∈ [(CacheOp.fillI, CacheId.inst), (.fillD, .data)] →
      ∀ d, (∀ d', d' < d → lockedFrom s c set d') → ¬lockedFrom s c set d →
        let way := (s.cache c).fifoOf set + BitVec.ofNat 2 d
        (∀ w ∈ (s.cache c).hits set tag, w = way) → lineReads s p.pa →
        ∃ t, exec (.cache op offset base) s = .next t ∧ t.cp0 = s.cp0 ∧ refilled s t c set way p.pa ∧
          ((t.cache c).line set way).dirty = false ∧ castsOut s t c set way ∧ sameOtherLines s t c set way ∧
          sameOtherCache s t c ∧ sameButCaches s t ∧ s.movedOn t

/-- An access at `va` translated to `pa` with a cached attribute finds its line in way `way` of the data cache. -/
def Sys2Proof.hitsAt (s : State) (k : AccessKind) (va : DWord) (pa : PAddr) (attr : BitVec 3) (way : BitVec 2) : Prop :=
  s.translate k va = .ok { pa := pa, attr := attr } s ∧ attr ≠ 2#3 ∧ s.dcacheOff = false ∧ inChipRange pa = false ∧
    s.dcache.hits (va.extractLsb' 5 8) (pa.extractLsb' 12 24) = [way]

/-- An access at `va` translated to `pa` with a cached attribute finds its line in no way of the data cache. -/
def Sys2Proof.missesAt (s : State) (k : AccessKind) (va : DWord) (pa : PAddr) (attr : BitVec 3) : Prop :=
  s.translate k va = .ok { pa := pa, attr := attr } s ∧ attr ≠ 2#3 ∧ s.dcacheOff = false ∧ inChipRange pa = false ∧
    s.dcache.hits (va.extractLsb' 5 8) (pa.extractLsb' 12 24) = []

/-- The value of the `n` bytes of a line from the offset `start` up, in a byte order. -/
def Sys2Proof.lineNat (be : Bool) (l : CacheLine) (start n : Nat) : Nat :=
  let bytes := (List.range n).map fun i => l.data.toList.getD (start + i) 0#8
  bytesNat (if be then bytes.reverse else bytes)

/-- The data of a line are the bytes `old` but for the `n` from the offset `start` up, which hold `v` in a byte order. -/
def Sys2Proof.lineHolds (be : Bool) (l : CacheLine) (old : Nat → Byte) (start n : Nat) (v : DWord) : Prop :=
  ∀ k (h : k < 32), l.data[k] =
    if start ≤ k ∧ k < start + n then v.extractLsb' (8 * (if be then n - 1 - (k - start) else k - start)) 8 else old k

/-- From `s` to `t` a load refilled `way` of the data cache with the line of `pa`: a way a refill may take, clean, and what it
held written back if it was dirty. -/
def Sys2Proof.loadRefills (s t : State) (set : BitVec 8) (way : BitVec 2) (pa : PAddr) : Prop :=
  isVictim s .data set way ∧ refilled s t .data set way pa ∧ (t.dcache.line set way).dirty = false ∧
    castsOut s t .data set way ∧ sameOtherLines s t .data set way

/-- From `s` to `t` a store of the low `n` bytes of `v` at `pa`, hitting `way`, changed the line: under write-back it becomes dirty
and memory and the buffer stay; under write-through the bytes are also stored. -/
def Sys2Proof.storeHits (s t : State) (set : BitVec 8) (way : BitVec 2) (attr : BitVec 3) (pa : PAddr) (n : Nat) (v : DWord) : Prop :=
  let l := s.dcache.line set way
  let new := t.dcache.line set way
  lineHolds s.dataBe new (fun k => l.data.toList.getD k 0#8) (pa.toNat % 32) n v ∧
    new.tag = l.tag ∧ new.valid = l.valid ∧ new.lock = l.lock ∧ new.dirty = (l.dirty || attr == 3#3) ∧
    sameOtherLines s t .data set way ∧ (attr = 3#3 → t.mem = s.mem ∧ t.wbuf = s.wbuf) ∧ (attr ≠ 3#3 → s.storedBytes t pa n v)

/-- From `s` to `t` a store of the low `n` bytes of `v` at `pa` that missed refilled `way` and changed its line so. -/
def Sys2Proof.storeRefills (s t : State) (set : BitVec 8) (way : BitVec 2) (attr : BitVec 3) (pa : PAddr) (n : Nat) (v : DWord) :
    Prop :=
  let new := t.dcache.line set way
  isVictim s .data set way ∧
    lineHolds s.dataBe new (fun k => s.physByte (BitVec.ofNat 36 (pa.toNat / 32 * 32 + k))) (pa.toNat % 32) n v ∧
    new.tag = pa.extractLsb' 12 24 ∧ new.valid = true ∧ new.lock = ((s.dcache.line set way).lock && !s.debugMode) ∧
    new.dirty = (attr == 3#3) ∧ sameOtherLines s t .data set way ∧ (attr = 3#3 → castsOut s t .data set way) ∧
    (attr ≠ 3#3 → ∃ u, castsOut s u .data set way ∧ u = { s with wbuf := u.wbuf, mem := u.mem } ∧ u.storedBytes t pa n v)

/-- The aligned loads to a GPR: the width and what rt takes of the value read. -/
def Sys2Proof.alignedLoads (rt : RegNum) (offset : BitVec 16) (base : RegNum) : List (Instr × Nat × (Nat → DWord)) :=
  [(.lb rt offset base, 1, fun v => BitVec.ofInt 64 ((v : Int).bmod (2 ^ 8))), (.lbu rt offset base, 1, BitVec.ofNat 64),
   (.lh rt offset base, 2, fun v => BitVec.ofInt 64 ((v : Int).bmod (2 ^ 16))), (.lhu rt offset base, 2, BitVec.ofNat 64),
   (.lw rt offset base, 4, fun v => sextWord v), (.lwu rt offset base, 4, BitVec.ofNat 64), (.ld rt offset base, 8, BitVec.ofNat 64)]

/-- The aligned stores of a GPR and their widths. -/
def Sys2Proof.alignedStores (rt : RegNum) (offset : BitVec 16) (base : RegNum) : List (Instr × Nat) :=
  [(.sb rt offset base, 1), (.sh rt offset base, 2), (.sw rt offset base, 4), (.sd rt offset base, 8)]

/-- Accesses through the caches. A load that hits the data cache reads the line and changes nothing else. A store that hits under
write-back writes the line, marks it dirty and writes nothing to memory; under write-through it also enters the write buffer
(21_cache.md R186). A load that misses refills a victim way and reads that line; a store that misses refills one under write-back
and under write-through with allocation, then goes on as on a hit, and under write-through without allocation goes to memory
alone; what the victim held is written back if it was dirty (R185, R186, R189, R199). So for the aligned loads and stores of a GPR,
and for `loadFrom` and `storeTo`, the accesses of all loads and stores, of any width within a doubleword. A fetch reads the
instruction cache in the same way (R205, D14); a refill of it that is answered with an error raises the instruction Bus Error and
leaves the way invalid (R185, 20_memory.md R166), what a dirty way held being written back (log entry 61). Accesses with a cache
disabled (R201) are in `FetchPastCache`, `AlignedLoads` and the statements after it. -/
def Obligations.CachedWordHits : Prop :=
  ∀ (s : State) (pa : PAddr) (attr : BitVec 3) (way : BitVec 2), s.MemoryForm →
    (∀ (va start : DWord) (n : Nat), 0 < n → start.toNat / 8 = va.toNat / 8 → start.toNat % 8 + n ≤ 8 →
      let set := va.extractLsb' 5 8
      let at' : PAddr := BitVec.ofNat 36 (pa.toNat / 8 * 8 + start.toNat % 8)
      (hitsAt s .load va pa attr way →
        ∃ v, s.loadFrom va start n = .ok (at', v) s ∧ v.toNat = lineNat s.dataBe (s.dcache.line set way) (at'.toNat % 32) n) ∧
      (missesAt s .load va pa attr → lineReads s pa →
        ∃ way v t, s.loadFrom va start n = .ok (at', v) t ∧ loadRefills s t set way pa ∧
          v.toNat = lineNat s.dataBe (t.dcache.line set way) (at'.toNat % 32) n ∧
          t = { s with dcache := t.dcache, wbuf := t.wbuf, mem := t.mem, choices := t.choices }) ∧
      ∀ v, (hitsAt s .store va pa attr way → (attr = 3#3 ∨ s.wbuf.length < 4 ∨ s.writesGo = true) →
          ∃ t, s.storeTo true va start n v = .ok () t ∧ storeHits s t set way attr at' n v ∧
            t = { s with dcache := t.dcache, wbuf := t.wbuf, mem := t.mem }) ∧
        (missesAt s .store va pa attr → attr = 0#3 → (s.wbuf.length < 4 ∨ s.writesGo = true) →
          ∃ t, s.storeTo true va start n v = .ok () t ∧ s.storedBytes t at' n v ∧ t = { s with wbuf := t.wbuf, mem := t.mem }) ∧
        (missesAt s .store va pa attr → attr ≠ 0#3 → s.env.writeHold = false → lineReads s pa →
          ∃ way t, s.storeTo true va start n v = .ok () t ∧ storeRefills s t set way attr at' n v ∧
            t = { s with dcache := t.dcache, wbuf := t.wbuf, mem := t.mem, choices := t.choices })) ∧
    (∀ (rt base : RegNum) (offset : BitVec 16),
      let va := s.effAddr base offset
      let set := va.extractLsb' 5 8
      (∀ i n ext, (i, n, ext) ∈ alignedLoads rt offset base → va.toNat % n = 0 → (isDoubleword i = true → s.is64bitOps = true) →
        (hitsAt s .load va pa attr way →
          Computes i s rt (ext (lineNat s.dataBe (s.dcache.line set way) (pa.toNat % 32) n))) ∧
        (missesAt s .load va pa attr → lineReads s pa →
          ∃ way t, exec i s = .next t ∧ loadRefills s t set way pa ∧
            t.rget rt = gprHolds rt (ext (lineNat s.dataBe (t.dcache.line set way) (pa.toNat % 32) n)) ∧
            (∀ q, q ≠ rt → t.rget q = s.rget q) ∧ s.movedOn t ∧
            t = { s with
              gpr := t.gpr, dcache := t.dcache, wbuf := t.wbuf, mem := t.mem, choices := t.choices, pc := t.pc
              delaySlot := t.delaySlot })) ∧
      ∀ i n, (i, n) ∈ alignedStores rt offset base → va.toNat % n = 0 → (isDoubleword i = true → s.is64bitOps = true) →
        let v := s.rget rt
        (hitsAt s .store va pa attr way → (attr = 3#3 ∨ s.wbuf.length < 4 ∨ s.writesGo = true) →
          ∃ t, exec i s = .next t ∧ storeHits s t set way attr pa n v ∧ s.movedOn t ∧
            t = { s with dcache := t.dcache, wbuf := t.wbuf, mem := t.mem, pc := t.pc, delaySlot := t.delaySlot }) ∧
        (missesAt s .store va pa attr → attr = 0#3 → (s.wbuf.length < 4 ∨ s.writesGo = true) → Stores i s pa n v) ∧
        (missesAt s .store va pa attr → attr ≠ 0#3 → s.env.writeHold = false → lineReads s pa →
          ∃ way t, exec i s = .next t ∧ storeRefills s t set way attr pa n v ∧ s.movedOn t ∧
            t = { s with
              dcache := t.dcache, wbuf := t.wbuf, mem := t.mem, choices := t.choices, pc := t.pc, delaySlot := t.delaySlot })) ∧
    (s.pc.toNat % 4 = 0 → s.translate .fetch s.pc = .ok { pa := pa, attr := attr } s → attr ≠ 2#3 → s.icacheOff = false →
      let set := s.pc.extractLsb' 5 8
      let hits := s.icache.hits set (pa.extractLsb' 12 24)
      (hits = [way] → ∃ w, s.fetchWord = .ok w s ∧ w.toNat = lineNat s.be (s.icache.line set way) (pa.toNat % 32) 4) ∧
      (hits = [] → lineReads s pa →
        ∃ way w t, s.fetchWord = .ok w t ∧ isVictim s .inst set way ∧ refilled s t .inst set way pa ∧
          castsOut s t .inst set way ∧ sameOtherLines s t .inst set way ∧
          w.toNat = lineNat s.be (t.icache.line set way) (pa.toNat % 32) 4 ∧
          t = { s with icache := t.icache, wbuf := t.wbuf, mem := t.mem, choices := t.choices }) ∧
      (hits = [] → s.wbuf = [] → s.lateError = none → inChipRange pa = false →
        s.readAnswer ((List.range 4).map fun j => pa.toNat / 32 * 4 + j) = .error →
        ∃ way t, s.fetchWord = .exc .busErrorFetch t ∧ isVictim s .inst set way ∧ (t.icache.line set way).valid = false ∧
          castsOut s t .inst set way ∧ sameOtherLines s t .inst set way ∧
          t = { s with icache := t.icache, wbuf := t.wbuf, mem := t.mem }))

/-! ## Loads and stores -/

/-- The aligned loads past the data cache, from an uncached address or with that cache disabled: the bytes at the physical address,
sign- or zero-extended (40_load_store.md R261 to R268; 20_memory.md R122, R161; 21_cache.md R186, R201). -/
def Obligations.AlignedLoads : Prop :=
  ∀ (s : State) (rt : RegNum) (offset : BitVec 16) (base : RegNum) (pa : PAddr),
    let va := s.effAddr base offset
    s.loadsAt va pa →
    Loads (.lb rt offset base) s rt (BitVec.ofInt 64 ((s.memNat pa 1 : Int).bmod (2 ^ 8))) ∧
    Loads (.lbu rt offset base) s rt (BitVec.ofNat 64 (s.memNat pa 1)) ∧
    (va.toNat % 2 = 0 →
      Loads (.lh rt offset base) s rt (BitVec.ofInt 64 ((s.memNat pa 2 : Int).bmod (2 ^ 16))) ∧
      Loads (.lhu rt offset base) s rt (BitVec.ofNat 64 (s.memNat pa 2))) ∧
    (va.toNat % 4 = 0 →
      Loads (.lw rt offset base) s rt (sextWord (s.memNat pa 4)) ∧
      (s.is64bitOps = true → Loads (.lwu rt offset base) s rt (BitVec.ofNat 64 (s.memNat pa 4)))) ∧
    (va.toNat % 8 = 0 → s.is64bitOps = true → Loads (.ld rt offset base) s rt (BitVec.ofNat 64 (s.memNat pa 8)))

/-- How many bytes the left form accesses in the block of `w` bytes around an address, `b` being its offset there: from the
address to the most significant end. -/
def Sys2Proof.leftBytes (be : Bool) (w b : Nat) : Nat := if be then w - b else b + 1

/-- The same of the right form: from the address to the least significant end. -/
def Sys2Proof.rightBytes (be : Bool) (w b : Nat) : Nat := if be then b + 1 else w - b

/-- The unaligned loads past the data cache: the left form puts its bytes at the most significant end of rt, the right form at
the least significant end, the rest of rt is kept; the word forms sign-extend (40_load_store.md R273, R274, R277, R278, R285;
21_cache.md R201). For an LWR of less than four bytes over an rt that is not sign-extended R274 refers to entry U1, which leaves any
value: that bits 63:32 of rt take no part is the model's choice (log entry 12). -/
def Obligations.UnalignedLoads : Prop :=
  ∀ (s : State) (rt : RegNum) (offset : BitVec 16) (base : RegNum) (pa : PAddr),
    let va := s.effAddr base offset
    s.loadsAt va pa →
    (let b := va.toNat % 4
     let old := (s.rget rt).toNat % 2 ^ 32
     let n := leftBytes s.dataBe 4 b
     let m := rightBytes s.dataBe 4 b
     Loads (.lwl rt offset base) s rt
       (sextWord ((s.memNat (if s.dataBe then pa else pa - BitVec.ofNat 36 b) n * 2 ^ (32 - 8 * n) + old % 2 ^ (32 - 8 * n) : Nat))) ∧
     Loads (.lwr rt offset base) s rt
       (sextWord ((old / 2 ^ (8 * m) * 2 ^ (8 * m) + s.memNat (if s.dataBe then pa - BitVec.ofNat 36 b else pa) m : Nat)))) ∧
    (s.is64bitOps = true →
     let b := va.toNat % 8
     let old := (s.rget rt).toNat
     let n := leftBytes s.dataBe 8 b
     let m := rightBytes s.dataBe 8 b
     Loads (.ldl rt offset base) s rt
       (BitVec.ofNat 64 (s.memNat (if s.dataBe then pa else pa - BitVec.ofNat 36 b) n * 2 ^ (64 - 8 * n) + old % 2 ^ (64 - 8 * n))) ∧
     Loads (.ldr rt offset base) s rt
       (BitVec.ofNat 64 (old / 2 ^ (8 * m) * 2 ^ (8 * m) + s.memNat (if s.dataBe then pa - BitVec.ofNat 36 b else pa) m)))

/-- The aligned stores past the data cache, to an uncached address or with that cache disabled: the low bytes of rt, and every
other byte as before (40_load_store.md R261, R269 to R272; 20_memory.md R160; 21_cache.md R186, R201). -/
def Obligations.AlignedStores : Prop :=
  ∀ (s : State) (rt : RegNum) (offset : BitVec 16) (base : RegNum) (pa : PAddr),
    let va := s.effAddr base offset
    s.MemoryForm → s.storesAt va pa →
    Stores (.sb rt offset base) s pa 1 (s.rget rt) ∧
    (va.toNat % 2 = 0 → Stores (.sh rt offset base) s pa 2 (s.rget rt)) ∧
    (va.toNat % 4 = 0 → Stores (.sw rt offset base) s pa 4 (s.rget rt)) ∧
    (va.toNat % 8 = 0 → s.is64bitOps = true → Stores (.sd rt offset base) s pa 8 (s.rget rt))

/-- The unaligned stores past the data cache: the left form stores the most significant bytes of the word or doubleword, the
right form the least significant ones (40_load_store.md R275, R276, R279, R280, R285; 21_cache.md R201). -/
def Obligations.UnalignedStores : Prop :=
  ∀ (s : State) (rt : RegNum) (offset : BitVec 16) (base : RegNum) (pa : PAddr),
    let va := s.effAddr base offset
    s.MemoryForm → s.storesAt va pa →
    (let b := va.toNat % 4
     let n := leftBytes s.dataBe 4 b
     let m := rightBytes s.dataBe 4 b
     Stores (.swl rt offset base) s (if s.dataBe then pa else pa - BitVec.ofNat 36 b) n
       (BitVec.ofNat 64 ((s.rget rt).toNat % 2 ^ 32 / 2 ^ (32 - 8 * n))) ∧
     Stores (.swr rt offset base) s (if s.dataBe then pa - BitVec.ofNat 36 b else pa) m (s.rget rt)) ∧
    (s.is64bitOps = true →
     let b := va.toNat % 8
     let n := leftBytes s.dataBe 8 b
     let m := rightBytes s.dataBe 8 b
     Stores (.sdl rt offset base) s (if s.dataBe then pa else pa - BitVec.ofNat 36 b) n
       (BitVec.ofNat 64 ((s.rget rt).toNat / 2 ^ (64 - 8 * n))) ∧
     Stores (.sdr rt offset base) s (if s.dataBe then pa - BitVec.ofNat 36 b else pa) m (s.rget rt))

/-- `i` completes as a linked load of `v`: LLbit is set and LLAddr takes bits 35:4 of the physical address. -/
def Sys2Proof.LoadsLinked (i : Instr) (s : State) (r : RegNum) (pa : PAddr) (v : DWord) : Prop :=
  ∃ t, exec i s = .next t ∧ t.rget r = gprHolds r v ∧ (∀ q, q ≠ r → t.rget q = s.rget q) ∧ t.llbit = true ∧
    t.cp0 = { s.cp0 with llAddr := pa.extractLsb' 4 32 } ∧ s.movedOn t ∧ s.sameBytes t ∧
    t = { s with gpr := t.gpr, llbit := t.llbit, cp0 := t.cp0, pc := t.pc, delaySlot := t.delaySlot, wbuf := t.wbuf, mem := t.mem }

/-- `i` completes as a conditional store: with LLbit set the bytes are stored and rt is 1, else nothing is stored and rt is
0. -/
def Sys2Proof.StoresConditionally (i : Instr) (s : State) (r : RegNum) (pa : PAddr) (n : Nat) : Prop :=
  ∃ t, exec i s = .next t ∧ t.rget r = gprHolds r (if s.llbit then 1#64 else 0#64) ∧ (∀ q, q ≠ r → t.rget q = s.rget q) ∧
    (s.llbit = true → s.storedBytes t pa n (s.rget r)) ∧ (s.llbit = false → s.sameBytes t) ∧ s.movedOn t ∧
    t = { s with gpr := t.gpr, pc := t.pc, delaySlot := t.delaySlot, wbuf := t.wbuf, mem := t.mem }

/-- LL, LLD, SC, SCD past the data cache (40_load_store.md R281 to R284; 21_cache.md R201; 20_memory.md R171, R172, which rest on
general knowledge: log entry 36). -/
def Obligations.LinkedAndConditional : Prop :=
  ∀ (s : State) (rt : RegNum) (offset : BitVec 16) (base : RegNum) (pa : PAddr),
    let va := s.effAddr base offset
    (s.loadsAt va pa →
      (va.toNat % 4 = 0 → LoadsLinked (.ll rt offset base) s rt pa (sextWord (s.memNat pa 4))) ∧
      (va.toNat % 8 = 0 → s.is64bitOps = true →
        LoadsLinked (.lld rt offset base) s rt pa (BitVec.ofNat 64 (s.memNat pa 8)))) ∧
    (s.MemoryForm → s.storesAt va pa →
      (va.toNat % 4 = 0 → StoresConditionally (.sc rt offset base) s rt pa 4) ∧
      (va.toNat % 8 = 0 → s.is64bitOps = true → StoresConditionally (.scd rt offset base) s rt pa 8))

/-- The loads and the stores, each with its kind and the multiple its address must be, 1 for the left and right forms. -/
def Sys2Proof.accessForms (r : BitVec 5) (offset : BitVec 16) (base : RegNum) : List (Instr × AccessKind × Nat) :=
  [(.lb r offset base, .load, 1), (.lbu r offset base, .load, 1), (.lh r offset base, .load, 2), (.lhu r offset base, .load, 2),
   (.lw r offset base, .load, 4), (.lwu r offset base, .load, 4), (.ld r offset base, .load, 8), (.ll r offset base, .load, 4),
   (.lld r offset base, .load, 8), (.lwc1 r offset base, .load, 4), (.ldc1 r offset base, .load, 8), (.lwl r offset base, .load, 1),
   (.lwr r offset base, .load, 1), (.ldl r offset base, .load, 1), (.ldr r offset base, .load, 1), (.sb r offset base, .store, 1),
   (.sh r offset base, .store, 2), (.sw r offset base, .store, 4), (.sd r offset base, .store, 8), (.sc r offset base, .store, 4),
   (.scd r offset base, .store, 8), (.swc1 r offset base, .store, 4), (.sdc1 r offset base, .store, 8), (.swl r offset base, .store, 1),
   (.swr r offset base, .store, 1), (.sdl r offset base, .store, 1), (.sdr r offset base, .store, 1)]

/-- From `s` to `t` no register changed but the destination `r` of the load `i`, a GPR or, of coprocessor 1, an FPR. -/
def Sys2Proof.sameButDest (i : Instr) (s t : State) (r : BitVec 5) : Prop :=
  (coprocessorOf i = none → t.fgr = s.fgr ∧ ∀ q, q ≠ r → t.rget q = s.rget q) ∧
    (coprocessorOf i ≠ none → t.gpr = s.gpr ∧ ∀ g, g ≠ r → (s.fr = true ∨ fpEven g ≠ fpEven r) → t.fget g = s.fget g)

/-- The loads and stores that raise, outside debug mode, where the 64-bit forms have 64-bit operations enabled and those of
coprocessor 1 have it usable. A misaligned access raises the Address Error of its kind with nothing done; an aligned one raises
what its translation answers: Address Error, TLB Refill, Invalid or Modified (40_load_store.md R261, 20_memory.md R125, R145). A load
whose read past the cache is answered with an error raises the data Bus Error, its destination free (60_exceptions.md R651, U27): at the load, or,
where the environment reports late, the load completes and the error is left to be reported, with LLbit and LLAddr as they were
before it (20_memory.md R166; log entries 27 and 33). A
refill so answered leaves the way invalid (R166, 60_exceptions.md R651); that a dirty line in that way is written back first is the
model's choice (log entry 61). -/
def Obligations.AccessesThatRaise : Prop :=
  ∀ (s : State) (r : BitVec 5) (offset : BitVec 16) (base : RegNum) (i : Instr) (k : AccessKind) (n : Nat),
    (i, k, n) ∈ accessForms r offset base → s.debugMode = false → (isDoubleword i = true → s.is64bitOps = true) →
    (∀ z, coprocessorOf i = some z → s.usable z = true) →
    let va := s.effAddr base offset
    (va.toNat % n ≠ 0 → Raises i s (.addressError k va)) ∧
    (va.toNat % n = 0 → ∀ x, s.translate k va = .exc x s → Raises i s x) ∧
    (va.toNat % n = 0 → k = .load → s.lateError = none → s.env.writeHold = false → ∀ (pa : PAddr) (attr : BitVec 3),
      (s.pastCache .load va pa → s.readAnswer [pa.toNat / 8] = .error →
        (s.env.lateErrors = false →
          ∃ u, exec i s = .next (takeException .busErrorData u) ∧ sameButDest i s u r ∧ s.sameBytes u ∧
            u = { s with gpr := u.gpr, fgr := u.fgr, wbuf := u.wbuf, mem := u.mem }) ∧
        (s.env.lateErrors = true →
          ∃ t, exec i s = .next t ∧ s.movedOn t ∧ sameButDest i s t r ∧ s.sameBytes t ∧
            (t.lateError.map fun e => (e.pc, e.delaySlot, e.llbit, e.llAddr, e.arrived)) =
              some (s.pc, s.delaySlot, s.llbit, s.cp0.llAddr, false) ∧
            t = { s with
              gpr := t.gpr, fgr := t.fgr, wbuf := t.wbuf, mem := t.mem, llbit := t.llbit
              cp0 := { s.cp0 with llAddr := t.cp0.llAddr }, lateError := t.lateError, pc := t.pc, delaySlot := t.delaySlot })) ∧
      (missesAt s .load va pa attr → s.MemoryForm → s.wbuf = [] → s.env.lateErrors = false →
        s.readAnswer ((List.range 4).map fun j => pa.toNat / 32 * 4 + j) = .error →
        let set := va.extractLsb' 5 8
        ∃ way u, isVictim s .data set way ∧ exec i s = .next (takeException .busErrorData u) ∧
          (u.dcache.line set way).valid = false ∧ castsOut s u .data set way ∧ sameOtherLines s u .data set way ∧
          sameButDest i s u r ∧
          u = { s with gpr := u.gpr, fgr := u.fgr, dcache := u.dcache, wbuf := u.wbuf, mem := u.mem }))

/-! ## Floating point -/

/-- The doubleword an FPR number shows: the FGR with FR = 1, the pair with FR = 0. -/
def Sys2Proof.fprDword (s : State) (f : FpRegNum) : DWord :=
  if s.fr then s.fget f else (s.fget (f ||| 1#5)).extractLsb' 0 32 ++ (s.fget f).extractLsb' 0 32

/-- The moves between the CPU and coprocessor 1, usable: MTC1 and MFC1 on the low word of an FGR; DMTC1 and DMFC1 on an FPR,
any with FR = 1, an even one with FR = 0; CTC1 and CFC1 on FCR31, CTC1 raising Floating-Point if a Cause bit meets its Enable
(45_coprocessor.md R458 to R463; 10_state.md R31, R32, R38, R42, R45). -/
def Obligations.FpMoves : Prop :=
  ∀ (s : State) (rt : RegNum) (f : FpRegNum), s.usable 1#2 = true →
    (∃ t, exec (.mtc1 rt f) s = .next t ∧ (t.fget f).extractLsb' 0 32 = s.rget32 rt ∧
      (∀ g, g ≠ f → t.fget g = s.fget g) ∧ s.movedOn t ∧ s.sameBytes t ∧
      t = { s with fgr := t.fgr, pc := t.pc, delaySlot := t.delaySlot }) ∧
    Computes (.mfc1 rt f) s rt (sextWord (s.fget f).toNat) ∧
    (s.is64bitOps = true → (s.fr = true ∨ f.getLsbD 0 = false) →
      (∃ t, exec (.dmtc1 rt f) s = .next t ∧ fprDword t f = s.rget rt ∧ s.movedOn t ∧ s.sameButFpr t f ∧
        t.fcr31 = s.fcr31) ∧
      Computes (.dmfc1 rt f) s rt (fprDword s f)) ∧
    (let v := s.rget32 rt &&& 0x0183FFFF#32
     let traps := v.getLsbD 17 = true ∨ ∃ k, k < 5 ∧ v.getLsbD (12 + k) = true ∧ v.getLsbD (7 + k) = true
     (¬traps → ∃ t, exec (.ctc1 rt 31#5) s = .next t ∧ t.fcr31 = v ∧ s.movedOn t ∧ s.sameBytes t ∧
        t = { s with fcr31 := t.fcr31, pc := t.pc, delaySlot := t.delaySlot }) ∧
     (traps → s.debugMode = false →
        exec (.ctc1 rt 31#5) s = .next (takeException .floatingPoint { s with fcr31 := v }))) ∧
    Computes (.cfc1 rt 31#5) s rt (s.fcr31.signExtend 64) ∧
    Computes (.cfc1 rt 0#5) s rt ((0#16 ++ s.params.fcr0Imp ++ s.params.fcr0Rev).signExtend 64)

/-- LWC1, LDC1, SWC1, SDC1, usable, past the data cache (21_cache.md R201): a word to or from the low word of an FGR, a doubleword to or from an FPR
(45_coprocessor.md R454 to R457). -/
def Obligations.FpLoadsAndStores : Prop :=
  ∀ (s : State) (ft : FpRegNum) (offset : BitVec 16) (base : RegNum) (pa : PAddr),
    let va := s.effAddr base offset
    s.usable 1#2 = true →
    (s.loadsAt va pa → va.toNat % 4 = 0 →
      ∃ t, exec (.lwc1 ft offset base) s = .next t ∧ ((t.fget ft).extractLsb' 0 32).toNat = s.memNat pa 4 ∧
        (∀ g, g ≠ ft → t.fget g = s.fget g) ∧ s.movedOn t ∧ s.sameBytes t ∧
        t = { s with fgr := t.fgr, pc := t.pc, delaySlot := t.delaySlot, wbuf := t.wbuf, mem := t.mem }) ∧
    (s.loadsAt va pa → va.toNat % 8 = 0 → (s.fr = true ∨ ft.getLsbD 0 = false) →
      ∃ t, exec (.ldc1 ft offset base) s = .next t ∧ (fprDword t ft).toNat = s.memNat pa 8 ∧
        (∀ g, g ≠ ft → (s.fr = true ∨ g ≠ ft ||| 1#5) → t.fget g = s.fget g) ∧ s.movedOn t ∧ s.sameBytes t ∧
        t = { s with fgr := t.fgr, pc := t.pc, delaySlot := t.delaySlot, wbuf := t.wbuf, mem := t.mem }) ∧
    (s.MemoryForm → s.storesAt va pa →
      (va.toNat % 4 = 0 → Stores (.swc1 ft offset base) s pa 4 (s.fget ft)) ∧
      (va.toNat % 8 = 0 → (s.fr = true ∨ ft.getLsbD 0 = false) → Stores (.sdc1 ft offset base) s pa 8 (fprDword s ft)))

/-- FCR31 after an operation that raised `flags` without a trap: Cause is the flags, each also set in Flags, the rest kept. -/
def Sys2Proof.fcr31Records (old new : Word) (flags : FpFlags) : Prop :=
  new.extractLsb' 12 6 = 0#1 ++ flags.bits ∧ new.extractLsb' 2 5 = old.extractLsb' 2 5 ||| flags.bits ∧
    new &&& 0xFFFC0F83#32 = old &&& 0xFFFC0F83#32

/-- `i` raises the Floating-Point exception with this Cause field, and changes nothing else. -/
def Sys2Proof.TrapsWithCause (i : Instr) (s : State) (cause : BitVec 6) : Prop :=
  ∃ fcr31 : Word, fcr31.extractLsb' 12 6 = cause ∧ fcr31 &&& 0xFFFC0FFF#32 = s.fcr31 &&& 0xFFFC0FFF#32 ∧
    exec i s = .next (takeException .floatingPoint { s with fcr31 := fcr31 })

/-- `i`, whose operation delivers `out` in format `fmt` for FPR `fd`: a result with no enabled exception is stored and recorded;
an enabled exception traps with nothing stored; Unimplemented Operation traps. -/
def Sys2Proof.FpDelivers (i : Instr) (s : State) (out : FpOut) (fmt : Fmt) (fd : FpRegNum) : Prop :=
  (∀ v flags, out = .value v flags → flags.bits &&& s.fpEnables = 0#5 →
    ∃ t, exec i s = .next t ∧ (s.fprValid fd = true → t.fpRead fmt fd .operandA = v % 2 ^ (if fmt = .s ∨ fmt = .w then 32 else 64)) ∧
      fcr31Records s.fcr31 t.fcr31 flags ∧ s.movedOn t ∧ s.sameButFpr t fd) ∧
  (s.debugMode = false →
    (∀ v flags, out = .value v flags → flags.bits &&& s.fpEnables ≠ 0#5 → TrapsWithCause i s (0#1 ++ flags.bits)) ∧
    (out = .unimplemented → TrapsWithCause i s 0b100000#6))

/-- `out` is Invalid Operation with the quiet NaN 0x7FBFFFFF or 0x7FF7FFFFFFFFFFFF (48_fpu.md R545 (a), R549, D22). -/
def Sys2Proof.isInvalid (f : FpFormat) (out : FpOut) : Prop :=
  out = .value (if f = fpSingle then 0x7FBFFFFF else 0x7FF7FFFFFFFFFFFF) { FpFlags.none with v := true }

/-- The exponent and the fraction field of an encoding. -/
def Sys2Proof.fpFields (f : FpFormat) (x : Nat) : Nat × Nat := (x / 2 ^ f.fracBits % 2 ^ f.expBits, x % 2 ^ f.fracBits)

/-- The encoding is denormalized, or a quiet NaN: exponent all ones, the highest fraction bit 0 and another one set (48_fpu.md R544 (a),
(b), D22). -/
def Sys2Proof.isUnimplementedOperand (f : FpFormat) (x : Nat) : Prop :=
  let (e, m) := fpFields f x
  (e = 0 ∧ m ≠ 0) ∨ (e = 2 ^ f.expBits - 1 ∧ m ≠ 0 ∧ m < 2 ^ (f.fracBits - 1))

/-- The encoding is a signaling NaN: exponent all ones, the highest fraction bit 1 (48_fpu.md R544 (c), D22). -/
def Sys2Proof.isSignalingOperand (f : FpFormat) (x : Nat) : Prop :=
  let (e, m) := fpFields f x
  e = 2 ^ f.expBits - 1 ∧ 2 ^ (f.fracBits - 1) ≤ m

/-- `out` is `k`, an operation delivering format `g`, after the screening of its operands, encodings of format `f` (48_fpu.md R544,
D23): Unimplemented if one is denormalized or a quiet NaN; else Invalid if one is a signaling NaN; else `k`. -/
def Sys2Proof.screened (f g : FpFormat) (operands : List Nat) (k out : FpOut) : Prop :=
  ((∃ x ∈ operands, isUnimplementedOperand f x) → out = .unimplemented) ∧
    ((∀ x ∈ operands, ¬isUnimplementedOperand f x) →
      ((∃ x ∈ operands, isSignalingOperand f x) → isInvalid g out) ∧ ((∀ x ∈ operands, ¬isSignalingOperand f x) → out = k))

/-- The operation `i` delivers `k` in format `g`, named `fmt`, after the screening of its operands. -/
def Sys2Proof.FpDeliversScreened (i : Instr) (s : State) (f g : FpFormat) (operands : List Nat) (k : FpOut) (fmt : Fmt)
    (fd : FpRegNum) : Prop :=
  ∃ out, screened f g operands k out ∧ FpDelivers i s out fmt fd

/-- The floating-point operations of formats S and D, usable, deliver what their operation gives on the operands: arithmetic,
square root, ABS and NEG on the sign bit, and the conversions between S and D after the screening of denormals and NaNs; MOV as a
copy; the conversions to and from fixed point (48_fpu.md R542, R544, R546, R547, R549 to R569; D22, D23). -/
def Obligations.FpOperations : Prop :=
  ∀ (s : State) (fmt : Fmt) (f : FpFormat) (fd fs ft : FpRegNum), floatFormat fmt = some f → s.usable 1#2 = true →
    let x := s.fpRead fmt fs .operandA
    let y := s.fpRead fmt ft .operandB
    let a := f.unpack x
    let b := f.unpack y
    let sign := 2 ^ (f.fracBits + f.expBits)
    let modes := [Rounding.nearest, .zero, .up, .down]
    FpDeliversScreened (.addFmt fmt fd fs ft) s f f [x, y] (f.add s.fpRound a.val b.val) fmt fd ∧
    FpDeliversScreened (.subFmt fmt fd fs ft) s f f [x, y] (f.sub s.fpRound a.val b.val) fmt fd ∧
    FpDeliversScreened (.mulFmt fmt fd fs ft) s f f [x, y] (f.mul s.fpRound a.val b.val) fmt fd ∧
    FpDeliversScreened (.divFmt fmt fd fs ft) s f f [x, y] (f.div s.fpRound a.val b.val) fmt fd ∧
    FpDeliversScreened (.sqrtFmt fmt fd fs) s f f [x] (f.sqrt s.fpRound a.val) fmt fd ∧
    FpDeliversScreened (.absFmt fmt fd fs) s f f [x] (.value (x % sign) .none) fmt fd ∧
    FpDeliversScreened (.negFmt fmt fd fs) s f f [x]
      (.value (if x / sign % 2 = 1 then x % sign else x % sign + sign) .none) fmt fd ∧
    (∃ t, exec (.movFmt fmt fd fs) s = .next t ∧
      (s.fprValid fd = true → t.fpRead fmt fd .operandA = x) ∧ t.fcr31 = s.fcr31 ∧ s.movedOn t ∧ s.sameButFpr t fd) ∧
    (∀ p ∈ modes.zip [Instr.roundWFmt fmt fd fs, .truncWFmt fmt fd fs, .ceilWFmt fmt fd fs, .floorWFmt fmt fd fs],
      FpDelivers p.2 s (toFixed 32 p.1 a) .w fd) ∧
    FpDelivers (.cvtWFmt fmt fd fs) s (toFixed 32 s.rounding a) .w fd ∧
    (s.is64bitOps = true →
      (∀ p ∈ modes.zip [Instr.roundLFmt fmt fd fs, .truncLFmt fmt fd fs, .ceilLFmt fmt fd fs, .floorLFmt fmt fd fs],
        FpDelivers p.2 s (toFixed 64 p.1 a) .l fd) ∧
      FpDelivers (.cvtLFmt fmt fd fs) s (toFixed 64 s.rounding a) .l fd ∧
      FpDelivers (.cvtSFmt .l fd fs) s (fpSingle.ofInt s.fpRound (s.fpr64 fs .operandA).toInt) .s fd ∧
      FpDelivers (.cvtDFmt .l fd fs) s (fpDouble.ofInt s.fpRound (s.fpr64 fs .operandA).toInt) .d fd) ∧
    FpDelivers (.cvtSFmt .w fd fs) s (fpSingle.ofInt s.fpRound (s.fpr32 fs .operandA).toInt) .s fd ∧
    FpDelivers (.cvtDFmt .w fd fs) s (fpDouble.ofInt s.fpRound (s.fpr32 fs .operandA).toInt) .d fd ∧
    (fmt = .d → FpDeliversScreened (.cvtSFmt .d fd fs) s f fpSingle [x] (fpSingle.convert s.fpRound a.val) .s fd) ∧
    (fmt = .s → FpDeliversScreened (.cvtDFmt .s fd fs) s f fpDouble [x] (fpDouble.convert s.fpRound a.val) .d fd)

/-- An operation of a reserved format, or of a format it does not have, is Unimplemented, and so are the conversions of a format to
itself and, without 64-bit operations, those to and from L (48_fpu.md R541, R548). -/
def Obligations.FpUnimplementedForms : Prop :=
  ∀ (s : State) (fmt : Fmt) (fd fs ft : FpRegNum), s.usable 1#2 = true → s.debugMode = false →
    (floatFormat fmt = none →
      ∀ i ∈ [Instr.addFmt fmt fd fs ft, .subFmt fmt fd fs ft, .mulFmt fmt fd fs ft, .divFmt fmt fd fs ft, .sqrtFmt fmt fd fs,
          .absFmt fmt fd fs, .movFmt fmt fd fs, .negFmt fmt fd fs, .roundLFmt fmt fd fs, .truncLFmt fmt fd fs,
          .ceilLFmt fmt fd fs, .floorLFmt fmt fd fs, .roundWFmt fmt fd fs, .truncWFmt fmt fd fs, .ceilWFmt fmt fd fs,
          .floorWFmt fmt fd fs, .cvtWFmt fmt fd fs, .cvtLFmt fmt fd fs, .cFFmt fmt fs ft, .cUnFmt fmt fs ft, .cEqFmt fmt fs ft,
          .cUeqFmt fmt fs ft, .cOltFmt fmt fs ft, .cUltFmt fmt fs ft, .cOleFmt fmt fs ft, .cUleFmt fmt fs ft, .cSfFmt fmt fs ft,
          .cNgleFmt fmt fs ft, .cSeqFmt fmt fs ft, .cNglFmt fmt fs ft, .cLtFmt fmt fs ft, .cNgeFmt fmt fs ft, .cLeFmt fmt fs ft,
          .cNgtFmt fmt fs ft],
        TrapsWithCause i s 0b100000#6) ∧
    TrapsWithCause (.cvtSFmt .s fd fs) s 0b100000#6 ∧ TrapsWithCause (.cvtDFmt .d fd fs) s 0b100000#6 ∧
    (∀ c, TrapsWithCause (.cvtSFmt (.reserved c) fd fs) s 0b100000#6 ∧ TrapsWithCause (.cvtDFmt (.reserved c) fd fs) s 0b100000#6) ∧
    (s.is64bitOps = false →
      ∀ i ∈ [Instr.roundLFmt fmt fd fs, .truncLFmt fmt fd fs, .ceilLFmt fmt fd fs, .floorLFmt fmt fd fs, .cvtLFmt fmt fd fs,
          .cvtSFmt .l fd fs, .cvtDFmt .l fd fs],
        TrapsWithCause i s 0b100000#6)

/-- The comparison a C instruction makes, by the four bits of its condition: 2 less, 1 equal, 0 unordered. -/
def Sys2Proof.fpConditionHolds (cond : Nat) (r : FpRelation) : Bool :=
  match r with
  | .less => cond / 4 % 2 == 1
  | .equal => cond / 2 % 2 == 1
  | .unordered => cond % 2 == 1
  | .greater => false

/-- The sixteen C.cond of formats S and D, usable: bit 23 of FCR31 takes the condition; Invalid is raised for a signaling NaN,
and for any unordered operands by the eight conditions from 8 up, and traps if enabled with the bit unchanged (48_fpu.md R570). -/
def Obligations.FpCompares : Prop :=
  ∀ (s : State) (fmt : Fmt) (f : FpFormat) (fs ft : FpRegNum) (cond : Nat) (i : Instr),
    floatFormat fmt = some f → s.usable 1#2 = true →
    (cond, i) ∈ [(0, Instr.cFFmt fmt fs ft), (1, .cUnFmt fmt fs ft), (2, .cEqFmt fmt fs ft), (3, .cUeqFmt fmt fs ft),
      (4, .cOltFmt fmt fs ft), (5, .cUltFmt fmt fs ft), (6, .cOleFmt fmt fs ft), (7, .cUleFmt fmt fs ft),
      (8, .cSfFmt fmt fs ft), (9, .cNgleFmt fmt fs ft), (10, .cSeqFmt fmt fs ft), (11, .cNglFmt fmt fs ft),
      (12, .cLtFmt fmt fs ft), (13, .cNgeFmt fmt fs ft), (14, .cLeFmt fmt fs ft), (15, .cNgtFmt fmt fs ft)] →
    let a := (f.unpack (s.fpRead fmt fs .operandA)).val
    let b := (f.unpack (s.fpRead fmt ft .operandB)).val
    let invalid := a = .nan true ∨ b = .nan true ∨ (8 ≤ cond ∧ a.relation b = .unordered)
    (¬(invalid ∧ s.fpEnables.getLsbD 4 = true) →
      ∃ t, exec i s = .next t ∧ t.fcr31.getLsbD 23 = fpConditionHolds cond (a.relation b) ∧
        fcr31Records (s.fcr31 &&& 0xFF7FFFFF#32) (t.fcr31 &&& 0xFF7FFFFF#32) { FpFlags.none with v := decide invalid } ∧
        s.movedOn t ∧ s.sameBytes t ∧ t = { s with fcr31 := t.fcr31, pc := t.pc, delaySlot := t.delaySlot }) ∧
    (invalid → s.fpEnables.getLsbD 4 = true → s.debugMode = false → TrapsWithCause i s 0b010000#6)

/-- The finite value `v` is the real number `x`. -/
def Sys2Proof.isReal (v : FpVal) (x : ℝ) : Prop :=
  ∃ neg m e, v = .fin neg m e ∧ x = (if neg then -1 else 1) * (m : ℝ) * (2 : ℝ) ^ e

/-- `y` is `x` rounded to a multiple of `unit` (48_fpu.md R543): the nearest one, of two the one that is an even multiple; or the
next one toward zero, up or down. -/
def Sys2Proof.roundedTo (mode : Rounding) (unit x y : ℝ) : Prop :=
  ∃ n : ℤ, y = n * unit ∧
    match mode with
    | .nearest => 2 * |y - x| ≤ unit ∧ (2 * |y - x| = unit → n % 2 = 0)
    | .zero => |y| ≤ |x| ∧ |x| < |y| + unit ∧ 0 ≤ x * y
    | .up => x ≤ y ∧ y < x + unit
    | .down => y ≤ x ∧ x < y + unit

/-- The sign bit of an encoding. -/
def Sys2Proof.signOf (f : FpFormat) (bits : Nat) : Bool := bits / 2 ^ (f.fracBits + f.expBits) == 1

/-- `out` is an infinity of the sign. -/
def Sys2Proof.isInfinity (f : FpFormat) (neg : Bool) (flags : FpFlags) (out : FpOut) : Prop :=
  ∃ bits, out = .value bits flags ∧ (f.unpack bits).val = .inf neg ∧ signOf f bits = neg

/-- `out` is a zero of the sign, with no exception. -/
def Sys2Proof.isZero (f : FpFormat) (neg : Bool) (out : FpOut) : Prop :=
  ∃ bits e, out = .value bits .none ∧ (f.unpack bits).val = .fin neg 0 e ∧ signOf f bits = neg

/-- `out` is the nonzero real `x` rounded to the format (48_fpu.md R543, R545, R548 (c), R549; 10_state.md R43): with `y` the
rounding of `x` to the format's precision with unbounded exponents, `y` itself, Inexact if it differs; above the largest number,
Overflow with the infinity or the largest number; below the smallest, Unimplemented, or flushed with Underflow to the smallest
number or to zero. -/
def Sys2Proof.deliversReal (f : FpFormat) (c : FpRound) (x : ℝ) (out : FpOut) : Prop :=
  ∃ (g : ℤ) (y : ℝ),
    (2 : ℝ) ^ (g + f.fracBits) ≤ |x| ∧ |x| < (2 : ℝ) ^ (g + f.fracBits + 1) ∧ roundedTo c.mode ((2 : ℝ) ^ g) x y ∧
    let sign : ℝ := if x < 0 then -1 else 1
    let away := (c.mode = .up ∧ 0 < x) ∨ (c.mode = .down ∧ x < 0)
    let smallest := (2 : ℝ) ^ (1 - (f.bias : ℤ))
    let beyond := (2 : ℝ) ^ ((f.bias : ℤ) + 1)
    (smallest ≤ |y| → |y| < beyond →
      ∃ bits flags, out = .value bits flags ∧ isReal (f.unpack bits).val y ∧ (flags.i = true ↔ y ≠ x) ∧
        flags = { FpFlags.none with i := flags.i }) ∧
    (beyond ≤ |y| →
      (c.mode = .nearest ∨ away → isInfinity f (decide (x < 0)) { FpFlags.none with o := true, i := true } out) ∧
      (¬(c.mode = .nearest ∨ away) →
        ∃ bits, out = .value bits { FpFlags.none with o := true, i := true } ∧
          isReal (f.unpack bits).val (sign * (beyond - (2 : ℝ) ^ ((f.bias : ℤ) - f.fracBits))))) ∧
    (|y| < smallest →
      (c.flush = false → out = .unimplemented) ∧
      (c.flush = true →
        ∃ bits, out = .value bits { FpFlags.none with u := true, i := true } ∧ signOf f bits = decide (x < 0) ∧
          isReal (f.unpack bits).val (if away then sign * smallest else 0)))

/-- `out` is the real `x` rounded, a zero having the sign `neg` and no exception. -/
def Sys2Proof.deliversOrZero (f : FpFormat) (c : FpRound) (x : ℝ) (neg : Bool) (out : FpOut) : Prop :=
  (x ≠ 0 → deliversReal f c x out) ∧ (x = 0 → isZero f neg out)

/-- The operations on finite operands `a` and `b` with the real values `x` and `y`, `p` and `q` their signs (48_fpu.md R543, R545,
R550 to R554). -/
def Sys2Proof.realOperations (f : FpFormat) (c : FpRound) (a b : FpVal) (x y : ℝ) (p q : Bool) : Prop :=
  deliversOrZero f c (x + y) (if p = q then p else c.mode == .down) (f.add c a b) ∧
  deliversOrZero f c (x - y) (if p ≠ q then p else c.mode == .down) (f.sub c a b) ∧
  deliversOrZero f c (x * y) (p ^^ q) (f.mul c a b) ∧
  (y ≠ 0 → deliversOrZero f c (x / y) (p ^^ q) (f.div c a b)) ∧
  (y = 0 → x ≠ 0 → isInfinity f (p ^^ q) { FpFlags.none with z := true } (f.div c a b)) ∧
  (y = 0 → x = 0 → isInvalid f (f.div c a b)) ∧
  (0 ≤ x → deliversOrZero f c (Real.sqrt x) p (f.sqrt c a)) ∧ (x < 0 → isInvalid f (f.sqrt c a))

/-- The operations on an infinity of sign `p` and another operand of sign `q`, an infinity or the real `y` (48_fpu.md R545, R550 to
R554, R570). -/
def Sys2Proof.infiniteOperations (f : FpFormat) (c : FpRound) (p : Bool) : Prop :=
  (∀ q, let a := FpVal.inf p; let b := FpVal.inf q
    (if p = q then isInfinity f p .none (f.add c a b) ∧ isInvalid f (f.sub c a b)
      else isInvalid f (f.add c a b) ∧ isInfinity f p .none (f.sub c a b)) ∧
    isInfinity f (p ^^ q) .none (f.mul c a b) ∧ isInvalid f (f.div c a b) ∧
    a.relation b = (if p = q then .equal else if p then .less else .greater)) ∧
  (∀ q m e y, let a := FpVal.inf p; let b := FpVal.fin q m e
    isReal b y →
    isInfinity f p .none (f.add c a b) ∧ isInfinity f p .none (f.add c b a) ∧
    isInfinity f p .none (f.sub c a b) ∧ isInfinity f (!p) .none (f.sub c b a) ∧
    (y ≠ 0 → isInfinity f (p ^^ q) .none (f.mul c a b) ∧ isInfinity f (p ^^ q) .none (f.mul c b a)) ∧
    (y = 0 → isInvalid f (f.mul c a b) ∧ isInvalid f (f.mul c b a)) ∧
    isInfinity f (p ^^ q) .none (f.div c a b) ∧ isZero f (p ^^ q) (f.div c b a) ∧
    a.relation b = (if p then .less else .greater) ∧ b.relation a = (if p then .greater else .less)) ∧
  (if p then isInvalid f (f.sqrt c (.inf p)) else isInfinity f p .none (f.sqrt c (.inf p))) ∧
  isInfinity f p .none (f.convert c (.inf p))

/-- A conversion of the real `x` to a two's-complement integer of `width` bits: `x` rounded to an integer, Inexact if that differs,
Unimplemented if it is out of range (48_fpu.md R548 (b), R558 to R569). That the range is the whole one of the format, for W as for
L, is decision D24 (log entry 46). -/
def Sys2Proof.deliversInteger (width : Nat) (mode : Rounding) (x : ℝ) (out : FpOut) : Prop :=
  ∃ n : ℤ, roundedTo mode 1 x n ∧
    (-2 ^ (width - 1) ≤ n ∧ n < 2 ^ (width - 1) →
      ∃ flags, out = .value (n % 2 ^ width).toNat flags ∧ (flags.i = true ↔ (n : ℝ) ≠ x) ∧
        flags = { FpFlags.none with i := flags.i }) ∧
    (¬(-2 ^ (width - 1) ≤ n ∧ n < 2 ^ (width - 1)) → out = .unimplemented)

/-- Rounding is correct in each mode: with no overflow and no underflow the magnitude delivered is the nearest of the format's
numbers to `m * 2 ^ e`, ties to even, or the next one toward zero, up or down, and Inexact tells whether it differs
(48_fpu.md R543, 10_state.md R46). Both magnitudes are scaled by the lower of the two exponents. And the operations are those of
the real numbers: the sum, difference, product, quotient, square root and the conversions of operands that are encodings, not
denormalized, are the real results rounded, with the overflow, underflow, division by zero, invalid and zero results of R545, R548
and R549, infinities as R550 to R554 say; the relation of a comparison is that of the reals, also of denormalized operands, and
unordered with a NaN (R558 to R570). Two points are decisions of the spec and not the source's own words (log entry 46): that a
conversion to W or L is delivered over the whole integer range and Unimplemented only outside it is D24, and the value of the
default NaN of an Invalid result, as what is a signaling NaN, is D22. -/
def Obligations.RoundingIsCorrect : Prop :=
  (∀ (f : FpFormat) (c : FpRound) (neg : Bool) (m : Nat) (e : Int) (bits : Nat) (flags : FpFlags),
    f = fpSingle ∨ f = fpDouble → 0 < m → f.round c neg m e false = .value bits flags → flags.o = false → flags.u = false →
    ∃ (q : Nat) (g : Int), f.unpack bits = { val := .fin neg q g, denormal := false } ∧
      2 ^ f.fracBits ≤ q ∧ q < 2 ^ (f.fracBits + 1) ∧
      (let low := min e g
       let exact : Int := m * 2 ^ (e - low).toNat
       let unit : Int := 2 ^ (g - low).toNat
       let got : Int := q * unit
       (flags.i = true ↔ got ≠ exact) ∧
       match c.mode, neg with
       | .nearest, _ => 2 * |got - exact| ≤ unit ∧ (2 * |got - exact| = unit → q % 2 = 0)
       | .zero, _ => got ≤ exact ∧ exact < got + unit
       | .up, true => got ≤ exact ∧ exact < got + unit
       | .down, false => got ≤ exact ∧ exact < got + unit
       | .up, false => exact ≤ got ∧ got < exact + unit
       | .down, true => exact ≤ got ∧ got < exact + unit)) ∧
  ∀ (f g : FpFormat) (c : FpRound) (k l : Nat), f = fpSingle ∨ f = fpDouble → g = fpSingle ∨ g = fpDouble →
    let u := f.unpack k
    let v := f.unpack l
    (∀ x y p q m n d e, u.val = .fin p m d → v.val = .fin q n e → isReal u.val x → isReal v.val y →
      (u.denormal = false → v.denormal = false → realOperations f c u.val v.val x y p q) ∧
      u.val.relation v.val = (if x < y then .less else if x = y then .equal else .greater) ∧
      (u.denormal = false →
        deliversOrZero g c x p (g.convert c u.val) ∧
        ∀ width ∈ [32, 64], deliversInteger width c.mode x (toFixed width c.mode u))) ∧
    (∀ p, infiniteOperations f c p) ∧
    (∀ z, (FpVal.nan z).relation v.val = .unordered ∧ v.val.relation (.nan z) = .unordered) ∧
    (∀ width mode, u.denormal = true ∨ (∀ p m d, u.val ≠ .fin p m d) → toFixed width mode u = .unimplemented) ∧
    ∀ n : ℤ, -2 ^ 63 ≤ n → n < 2 ^ 63 → deliversOrZero f c n false (f.ofInt c n)

/-! ## Reserved and unusable instructions, and user mode -/

/-- What a word that is no instruction is: a cell marked `*`, gamma outside the coprocessor maps (30_encoding.md R226 to R228,
R232), a reserved cell of the maps of coprocessor `z`, of the COP0 functions, of the COP1 maps (R229, R230, R234, R237, R238). -/
inductive Sys2Proof.WordKind where
  | reserved
  | coprocessor (z : BitVec 2)
  | cop0Function
  | cop1

/-- The words of a kind, by their fields op, rs, rt and funct. -/
def Sys2Proof.WordKind.holds (kind : WordKind) (w : Word) : Prop :=
  let op := w.toNat / 2 ^ 26
  let rs := w.toNat / 2 ^ 21 % 2 ^ 5
  let rt := w.toNat / 2 ^ 16 % 2 ^ 5
  let funct := w.toNat % 2 ^ 6
  match kind with
  | .reserved =>
    (op = 0x00 ∧ funct ∈ [0x01, 0x05, 0x0A, 0x0B, 0x15, 0x28, 0x29, 0x35, 0x37, 0x39, 0x3D]) ∨
    (op = 0x01 ∧ rt ∉ [0x00, 0x01, 0x02, 0x03, 0x08, 0x09, 0x0A, 0x0B, 0x0C, 0x0E, 0x10, 0x11, 0x12, 0x13]) ∨
    (op = 0x1C ∧ 2 ≤ funct) ∨ op ∈ [0x1D, 0x1E, 0x1F, 0x3B]
  | .coprocessor z =>
    op = 0x10 + z.toNat ∧
      ((rs = 0x08 ∧ 4 ≤ rt) ∨ (z = 3#2 ∧ rs ≠ 0x08) ∨
        ((z = 0#2 ∨ z = 2#2) ∧ rs < 16 ∧ rs ∉ [0x00, 0x01, 0x02, 0x04, 0x05, 0x06, 0x08]))
  | .cop0Function => op = 0x10 ∧ 16 ≤ rs ∧ funct ∉ [0x01, 0x02, 0x06, 0x08, 0x18, 0x1F, 0x20]
  | .cop1 =>
    op = 0x11 ∧
      ((16 ≤ rs ∧ (funct / 16 = 1 ∨ funct ∈ [0x22, 0x23, 0x26, 0x27] ∨ funct / 8 = 5)) ∨
        rs ∈ [0x03, 0x07] ∨ (9 ≤ rs ∧ rs < 16))

/-- A 64-bit operation in user or supervisor mode without its enable raises Reserved Instruction; an instruction of an unusable
coprocessor raises Coprocessor Unusable with its number; an instruction of coprocessor 2 or 3 with its CU bit set stops, the
chip having no such unit (60_exceptions.md R656, R657; 11_cp0_registers.md R92; 45_coprocessor.md R450, R452, R453; U22). Of the
words that are no instruction the reserved ones raise Reserved Instruction, those of a coprocessor after its usability check (for
COP3 whatever the mode: 90_conflicts.md C48, log entry 52); the undefined COP0 functions do nothing; those of COP1 are
Unimplemented Operation (30_encoding.md R233, R235, R239, 46_cp0_instructions.md R502, 48_fpu.md R571, R572; D15). -/
def Obligations.ReservedAndUnusable : Prop :=
  (∀ (i : Instr) (s : State),
    (isDoubleword i = true → s.is64bitOps = false → s.debugMode = false → Raises i s .reservedInstruction) ∧
    ∀ z, coprocessorOf i = some z → (isDoubleword i = true → s.is64bitOps = true) →
      (s.usable z = false → s.debugMode = false → Raises i s (.copUnusable z)) ∧
      (s.usable z = true → 2 ≤ z.toNat → exec i s = .refused (.coprocessorAbsent z))) ∧
  ∀ (w : Word) (s : State),
    let unusable := fun z => s.usable z = false → s.debugMode = false → execWord w s = .next (takeException (.copUnusable z) s)
    (WordKind.reserved.holds w → s.debugMode = false → execWord w s = .next (takeException .reservedInstruction s)) ∧
    (∀ z, (WordKind.coprocessor z).holds w →
      unusable z ∧
        (s.usable z = true → s.debugMode = false → execWord w s = .next (takeException .reservedInstruction s))) ∧
    (WordKind.cop0Function.holds w →
      unusable 0#2 ∧ (s.usable 0#2 = true → ∃ t, execWord w s = .next t ∧ s.movedOn t ∧ s.sameButFlow t)) ∧
    (WordKind.cop1.holds w →
      unusable 1#2 ∧
        (s.usable 1#2 = true → s.debugMode = false →
          ∃ fcr31 : Word, fcr31.extractLsb' 12 6 = 0b100000#6 ∧ fcr31 &&& 0xFFFC0FFF#32 = s.fcr31 &&& 0xFFFC0FFF#32 ∧
            execWord w s = .next (takeException .floatingPoint { s with fcr31 := fcr31 })))

/-- The addresses at which the handlers of exceptions, resets and debug exceptions begin (60_exceptions.md R622, R624). -/
def Sys2Proof.vectors : List DWord :=
  [0xFFFFFFFFBFC00000#64, 0xFFFFFFFFBFC00200#64, 0xFFFFFFFFBFC00280#64, 0xFFFFFFFFBFC00380#64, 0xFFFFFFFF80000000#64,
   0xFFFFFFFF80000080#64, 0xFFFFFFFF80000180#64, 0xFFFFFFFFBFC00400#64, 0xFFFFFFFFFF200200#64]

/-- User mode without CU0 is contained: a step either stays in user mode, with the TLB and every CP0 register but Random, Count
and LLAddr as before, or is in Kernel mode at a vector (11_cp0_registers.md R83, R84, R93; 60_exceptions.md R630, R656). -/
def Obligations.UserModeIsContained : Prop :=
  ∀ s t : State, s.mode = .user → s.cu 0#2 = false → step s = .next t →
    (t.mode = .user ∧ t.tlb = s.tlb ∧
      t.cp0 = { s.cp0 with random := t.cp0.random, count := t.cp0.count, llAddr := t.cp0.llAddr }) ∨
    (t.mode = .kernel ∧ t.pc ∈ vectors)
end

