-- ==== Sys2Proof/Laws/Memory.lean ====
section
/-! SUPPORT. Sparse lists and physical memory: a read after a write, and the canonical form, which every operation
keeps. -/

namespace Sys2Proof.Machine

section
variable {β : Type} {d : β}

/-! ## Reading -/

/-- A list whose keys are all above `k` reads as the default at `k`. -/
theorem sparseGet_of_lt {l : List (Nat × β)} {k : Nat} (h : ∀ p ∈ l, k < p.1) : sparseGet d l k = d := by
  induction l with
  | nil => rfl
  | cons p l ih =>
    have hp := h p (by simp)
    simp only [sparseGet]
    rw [if_neg (by omega), ih fun q hq => h q (by simp [hq])]

variable [DecidableEq β]

/-- A read at the key that was written gives the value written. -/
theorem sparseGet_put_same {l : List (Nat × β)} (k : Nat) (v : β) (h : l.Pairwise fun p q => p.1 < q.1) :
    sparseGet d (sparsePut d l k v) k = v := by
  induction l with
  | nil => by_cases hv : v = d <;> simp [sparsePut, sparseGet, hv]
  | cons p l ih =>
    obtain ⟨a, b⟩ := p
    rw [List.pairwise_cons] at h
    have tail : ∀ q ∈ l, a < q.1 := h.1
    by_cases h1 : k < a
    · by_cases hv : v = d
      · subst hv
        simp only [sparsePut, h1, if_true, sparseGet]
        rw [if_neg (by omega), sparseGet_of_lt fun q hq => by have := tail q hq; omega]
      · simp [sparsePut, h1, hv, sparseGet]
    · by_cases h2 : k = a
      · subst h2
        by_cases hv : v = d
        · subst hv
          simp only [sparsePut, Nat.lt_irrefl, if_false, if_true]
          exact sparseGet_of_lt tail
        · simp [sparsePut, hv, sparseGet]
      · simp only [sparsePut, h1, h2, if_false, sparseGet]
        rw [if_neg (by omega), ih h.2]

/-- A write leaves every other key as it was. -/
theorem sparseGet_put_other {l : List (Nat × β)} {k j : Nat} (v : β) (hj : j ≠ k) (h : l.Pairwise fun p q => p.1 < q.1) :
    sparseGet d (sparsePut d l k v) j = sparseGet d l j := by
  induction l with
  | nil => by_cases hv : v = d <;> simp [sparsePut, sparseGet, hv, Ne.symm hj]
  | cons p l ih =>
    obtain ⟨a, b⟩ := p
    rw [List.pairwise_cons] at h
    have tail : ∀ q ∈ l, a < q.1 := h.1
    by_cases h1 : k < a
    · by_cases hv : v = d
      · simp [sparsePut, h1, hv]
      · simp only [sparsePut, h1, hv, if_true, if_false, sparseGet]
        rw [if_neg (Ne.symm hj)]
    · by_cases h2 : k = a
      · subst h2
        by_cases hv : v = d
        · simp only [sparsePut, Nat.lt_irrefl, hv, if_false, if_true, sparseGet]
          rw [if_neg (Ne.symm hj)]
        · simp only [sparsePut, Nat.lt_irrefl, hv, if_false, if_true, sparseGet]
          rw [if_neg (Ne.symm hj), if_neg (Ne.symm hj)]
      · simp only [sparsePut, h1, h2, if_false, sparseGet]
        rw [ih h.2]

/-! ## The canonical form -/

/-- A write adds no key but its own. -/
theorem mem_sparsePut {l : List (Nat × β)} {k : Nat} {v : β} {p : Nat × β} (h : p ∈ sparsePut d l k v) :
    p ∈ l ∨ (p = (k, v) ∧ v ≠ d) := by
  induction l with
  | nil =>
    by_cases hv : v = d
    · simp [sparsePut, hv] at h
    · simp [sparsePut, hv] at h
      exact .inr ⟨h, hv⟩
  | cons q l ih =>
    obtain ⟨a, b⟩ := q
    simp only [sparsePut] at h
    split at h
    · split at h
      · exact .inl h
      · rename_i hv
        rcases List.mem_cons.1 h with h | h
        · exact .inr ⟨h, hv⟩
        · exact .inl h
    · split at h
      · split at h
        · exact .inl (List.mem_cons_of_mem _ h)
        · rename_i hv
          rcases List.mem_cons.1 h with h | h
          · exact .inr ⟨h, hv⟩
          · exact .inl (List.mem_cons_of_mem _ h)
      · rcases List.mem_cons.1 h with h | h
        · exact .inl (h ▸ List.mem_cons_self)
        · exact (ih h).imp (List.mem_cons_of_mem _) id

/-- A write keeps the canonical form. -/
theorem sparsePut_wf {l : List (Nat × β)} (k : Nat) (v : β) (h : SparseWf d l) : SparseWf d (sparsePut d l k v) := by
  refine ⟨?_, fun p hp => ?_⟩
  · have hs := h.1
    clear h
    induction l with
    | nil => by_cases hv : v = d <;> simp [sparsePut, hv]
    | cons p l ih =>
      obtain ⟨a, b⟩ := p
      have hc := List.pairwise_cons.1 hs
      simp only [sparsePut]
      split
      · rename_i h1
        split
        · exact hs
        · refine List.pairwise_cons.2 ⟨fun q hq => ?_, hs⟩
          rcases List.mem_cons.1 hq with hq | hq
          · subst hq; exact h1
          · have : a < q.1 := hc.1 q hq
            show k < q.1
            omega
      · split
        · rename_i h2
          split
          · exact hc.2
          · exact List.pairwise_cons.2 ⟨fun q hq => by have := hc.1 q hq; simp only at this ⊢; omega, hc.2⟩
        · refine List.pairwise_cons.2 ⟨fun q hq => ?_, ih hc.2⟩
          rcases mem_sparsePut hq with hq | ⟨hq, -⟩
          · exact hc.1 q hq
          · subst hq; simp only; omega
  · rcases mem_sparsePut hp with hp | ⟨hp, hv⟩
    · exact h.2 p hp
    · subst hp; exact hv

end

/-! ## Memory -/

/-- Memory after a write of one byte reads that byte there. -/
theorem Memory.get_set_same {m : List Host.Cell} (a : PAddr) (b : Byte) (h : Memory.wf m) :
    Memory.get (Memory.set m a b) a = b := sparseGet_put_same _ _ h.1.1

/-- Memory after a write of one byte reads as before elsewhere. -/
theorem Memory.get_set_other {m : List Host.Cell} {a c : PAddr} (b : Byte) (hc : c ≠ a) (h : Memory.wf m) :
    Memory.get (Memory.set m a b) c = Memory.get m c :=
  sparseGet_put_other _ (fun e => hc (BitVec.eq_of_toNat_eq e)) h.1.1

/-- A write of one byte keeps the canonical form of memory. -/
theorem Memory.set_wf {m : List Host.Cell} (a : PAddr) (b : Byte) (h : Memory.wf m) : Memory.wf (Memory.set m a b) := by
  refine ⟨sparsePut_wf _ _ h.1, fun p hp => ?_⟩
  rcases mem_sparsePut hp with hp | ⟨hp, -⟩
  · exact h.2 p hp
  · subst hp; exact a.isLt

/-- A write of several bytes keeps the canonical form of memory. -/
theorem Memory.setBytes_wf (bs : List Byte) {m : List Host.Cell} (a : PAddr) (h : Memory.wf m) :
    Memory.wf (Memory.setBytes m a bs) := by
  induction bs generalizing m a with
  | nil => exact h
  | cons b bs ih => exact ih _ (Memory.set_wf a b h)

/-- The pending writes of the buffer keep the canonical form of memory. -/
theorem drainInto_wf (es : List WbEntry) {m : List Host.Cell} (h : Memory.wf m) : Memory.wf (drainInto m es) := by
  induction es generalizing m with
  | nil => exact h
  | cons e es ih => exact ih (Memory.setBytes_wf e.data e.pa h)

/-- The empty memory has the canonical form. -/
theorem Memory.wf_nil : Memory.wf [] := by simp [Memory.wf, SparseWf]

/-- The addresses of `n` bytes from `a` up. -/
def inBytes (a : PAddr) (n : Nat) (c : PAddr) : Prop := (c - a).toNat < n

/-- A write of several bytes leaves every byte outside them as it was. -/
theorem Memory.get_setBytes_other (bs : List Byte) {m : List Host.Cell} {a c : PAddr} (hw : Memory.wf m)
    (hc : ¬ inBytes a bs.length c) : Memory.get (Memory.setBytes m a bs) c = Memory.get m c := by
  induction bs generalizing m a with
  | nil => rfl
  | cons b bs ih =>
    simp only [inBytes, List.length_cons, Nat.not_lt] at hc
    have hne : c ≠ a := by rintro rfl; simp at hc
    have hpos : (c - a).toNat ≠ 0 := by omega
    have hstep : (c - (a + 1#36)).toNat = (c - a).toNat - 1 := by bv_omega
    rw [Memory.setBytes, ih (Memory.set_wf a b hw) (by simp only [inBytes, Nat.not_lt]; omega),
      Memory.get_set_other b hne hw]

/-- A byte of a write of at most 2^36 bytes reads what was written. -/
theorem Memory.get_setBytes_same (bs : List Byte) {m : List Host.Cell} {a : PAddr} (hw : Memory.wf m) (i : Nat)
    (hi : i < bs.length) (hl : bs.length ≤ 2 ^ 36) :
    Memory.get (Memory.setBytes m a bs) (a + BitVec.ofNat 36 i) = bs[i] := by
  induction bs generalizing m a i with
  | nil => simp at hi
  | cons b bs ih =>
    simp only [List.length_cons] at hi hl
    cases i with
    | zero =>
      rw [Memory.setBytes, Memory.get_setBytes_other bs (Memory.set_wf a b hw)]
      · simpa using Memory.get_set_same a b hw
      · simp only [inBytes, Nat.not_lt]
        have : ((a + BitVec.ofNat 36 0) - (a + 1#36)).toNat = 2 ^ 36 - 1 := by bv_omega
        omega
    | succ i =>
      have : a + BitVec.ofNat 36 (i + 1) = a + 1#36 + BitVec.ofNat 36 i := by
        rw [BitVec.add_assoc, show (1#36 : BitVec 36) + BitVec.ofNat 36 i = BitVec.ofNat 36 (1 + i) from by
          simp [BitVec.ofNat_add], Nat.add_comm 1 i]
      rw [Memory.setBytes, this, ih (Memory.set_wf a b hw) i (by omega) (by omega)]
      rfl

/-- The bytes read back after a write of several bytes are the bytes written. -/
theorem Memory.getBytes_setBytes (bs : List Byte) {m : List Host.Cell} {a : PAddr} (hw : Memory.wf m)
    (hl : bs.length ≤ 2 ^ 36) : Memory.getBytes (Memory.setBytes m a bs) a bs.length = bs := by
  suffices h : ∀ n (a' : PAddr) i, a' = a + BitVec.ofNat 36 i → i + n = bs.length →
      Memory.getBytes (Memory.setBytes m a bs) a' n = bs.drop i by
    simpa using h bs.length a 0 (by simp) (by simp)
  intro n
  induction n with
  | zero => intro a' i _ hn; simp [Memory.getBytes, List.drop_of_length_le (by omega : bs.length ≤ i)]
  | succ n ih =>
    intro a' i ha hn
    have hi : i < bs.length := by omega
    rw [Memory.getBytes, ih (a' + 1#36) (i + 1) (by
      subst ha
      rw [BitVec.add_assoc, show (BitVec.ofNat 36 i : BitVec 36) + 1#36 = BitVec.ofNat 36 (i + 1) from by
        simp [BitVec.ofNat_add]]) (by omega)]
    subst ha
    rw [Memory.get_setBytes_same bs hw i hi hl, List.drop_eq_getElem_cons hi]

end Sys2Proof.Machine
end

