-- ==== Sys2Proof/Laws/State.lean ====
section
/-! SUPPORT. The fields of State under each update: an update leaves every field it does not name as it was. -/

namespace Sys2Proof.Machine

variable (s : State)

/-! ## `advance` -/

@[simp] theorem State.advance_gpr : s.advance.gpr = s.gpr := rfl
@[simp] theorem State.advance_hi : s.advance.hi = s.hi := rfl
@[simp] theorem State.advance_lo : s.advance.lo = s.lo := rfl
@[simp] theorem State.advance_llbit : s.advance.llbit = s.llbit := rfl
@[simp] theorem State.advance_fgr : s.advance.fgr = s.fgr := rfl
@[simp] theorem State.advance_fcr31 : s.advance.fcr31 = s.fcr31 := rfl
@[simp] theorem State.advance_cp0 : s.advance.cp0 = s.cp0 := rfl
@[simp] theorem State.advance_tlb : s.advance.tlb = s.tlb := rfl
@[simp] theorem State.advance_icache : s.advance.icache = s.icache := rfl
@[simp] theorem State.advance_dcache : s.advance.dcache = s.dcache := rfl
@[simp] theorem State.advance_wbuf : s.advance.wbuf = s.wbuf := rfl
@[simp] theorem State.advance_mem : s.advance.mem = s.mem := rfl
@[simp] theorem State.advance_plat : s.advance.plat = s.plat := rfl
@[simp] theorem State.advance_env : s.advance.env = s.env := rfl
@[simp] theorem State.advance_straps : s.advance.straps = s.straps := rfl
@[simp] theorem State.advance_lateError : s.advance.lateError = s.lateError := rfl
@[simp] theorem State.advance_ahead : s.advance.ahead = s.ahead := rfl
@[simp] theorem State.advance_params : s.advance.params = s.params := rfl
@[simp] theorem State.advance_free : s.advance.free = s.free := rfl
@[simp] theorem State.advance_excTaken : s.advance.excTaken = s.excTaken := rfl
@[simp] theorem State.advance_stepPending : s.advance.stepPending = s.stepPending := rfl
@[simp] theorem State.advance_choices : s.advance.choices = s.choices := rfl

/-! ## `branchTo` -/

@[simp] theorem State.branchTo_gpr (a : DWord) : (s.branchTo a).gpr = s.gpr := rfl
@[simp] theorem State.branchTo_hi (a : DWord) : (s.branchTo a).hi = s.hi := rfl
@[simp] theorem State.branchTo_lo (a : DWord) : (s.branchTo a).lo = s.lo := rfl
@[simp] theorem State.branchTo_llbit (a : DWord) : (s.branchTo a).llbit = s.llbit := rfl
@[simp] theorem State.branchTo_fgr (a : DWord) : (s.branchTo a).fgr = s.fgr := rfl
@[simp] theorem State.branchTo_fcr31 (a : DWord) : (s.branchTo a).fcr31 = s.fcr31 := rfl
@[simp] theorem State.branchTo_cp0 (a : DWord) : (s.branchTo a).cp0 = s.cp0 := rfl
@[simp] theorem State.branchTo_tlb (a : DWord) : (s.branchTo a).tlb = s.tlb := rfl
@[simp] theorem State.branchTo_icache (a : DWord) : (s.branchTo a).icache = s.icache := rfl
@[simp] theorem State.branchTo_dcache (a : DWord) : (s.branchTo a).dcache = s.dcache := rfl
@[simp] theorem State.branchTo_wbuf (a : DWord) : (s.branchTo a).wbuf = s.wbuf := rfl
@[simp] theorem State.branchTo_mem (a : DWord) : (s.branchTo a).mem = s.mem := rfl
@[simp] theorem State.branchTo_plat (a : DWord) : (s.branchTo a).plat = s.plat := rfl
@[simp] theorem State.branchTo_env (a : DWord) : (s.branchTo a).env = s.env := rfl
@[simp] theorem State.branchTo_straps (a : DWord) : (s.branchTo a).straps = s.straps := rfl
@[simp] theorem State.branchTo_lateError (a : DWord) : (s.branchTo a).lateError = s.lateError := rfl
@[simp] theorem State.branchTo_ahead (a : DWord) : (s.branchTo a).ahead = s.ahead := rfl
@[simp] theorem State.branchTo_params (a : DWord) : (s.branchTo a).params = s.params := rfl
@[simp] theorem State.branchTo_free (a : DWord) : (s.branchTo a).free = s.free := rfl
@[simp] theorem State.branchTo_excTaken (a : DWord) : (s.branchTo a).excTaken = s.excTaken := rfl
@[simp] theorem State.branchTo_stepPending (a : DWord) : (s.branchTo a).stepPending = s.stepPending := rfl
@[simp] theorem State.branchTo_choices (a : DWord) : (s.branchTo a).choices = s.choices := rfl

/-! ## `skipSlot` -/

@[simp] theorem State.skipSlot_gpr : s.skipSlot.gpr = s.gpr := rfl
@[simp] theorem State.skipSlot_hi : s.skipSlot.hi = s.hi := rfl
@[simp] theorem State.skipSlot_lo : s.skipSlot.lo = s.lo := rfl
@[simp] theorem State.skipSlot_llbit : s.skipSlot.llbit = s.llbit := rfl
@[simp] theorem State.skipSlot_fgr : s.skipSlot.fgr = s.fgr := rfl
@[simp] theorem State.skipSlot_fcr31 : s.skipSlot.fcr31 = s.fcr31 := rfl
@[simp] theorem State.skipSlot_cp0 : s.skipSlot.cp0 = s.cp0 := rfl
@[simp] theorem State.skipSlot_tlb : s.skipSlot.tlb = s.tlb := rfl
@[simp] theorem State.skipSlot_icache : s.skipSlot.icache = s.icache := rfl
@[simp] theorem State.skipSlot_dcache : s.skipSlot.dcache = s.dcache := rfl
@[simp] theorem State.skipSlot_wbuf : s.skipSlot.wbuf = s.wbuf := rfl
@[simp] theorem State.skipSlot_mem : s.skipSlot.mem = s.mem := rfl
@[simp] theorem State.skipSlot_plat : s.skipSlot.plat = s.plat := rfl
@[simp] theorem State.skipSlot_env : s.skipSlot.env = s.env := rfl
@[simp] theorem State.skipSlot_straps : s.skipSlot.straps = s.straps := rfl
@[simp] theorem State.skipSlot_lateError : s.skipSlot.lateError = s.lateError := rfl
@[simp] theorem State.skipSlot_ahead : s.skipSlot.ahead = s.ahead := rfl
@[simp] theorem State.skipSlot_params : s.skipSlot.params = s.params := rfl
@[simp] theorem State.skipSlot_free : s.skipSlot.free = s.free := rfl
@[simp] theorem State.skipSlot_excTaken : s.skipSlot.excTaken = s.excTaken := rfl
@[simp] theorem State.skipSlot_stepPending : s.skipSlot.stepPending = s.stepPending := rfl
@[simp] theorem State.skipSlot_choices : s.skipSlot.choices = s.choices := rfl

/-! ## `stall` -/

@[simp] theorem State.stall_gpr : s.stall.gpr = s.gpr := rfl
@[simp] theorem State.stall_hi : s.stall.hi = s.hi := rfl
@[simp] theorem State.stall_lo : s.stall.lo = s.lo := rfl
@[simp] theorem State.stall_pc : s.stall.pc = s.pc := rfl
@[simp] theorem State.stall_delaySlot : s.stall.delaySlot = s.delaySlot := rfl
@[simp] theorem State.stall_llbit : s.stall.llbit = s.llbit := rfl
@[simp] theorem State.stall_fgr : s.stall.fgr = s.fgr := rfl
@[simp] theorem State.stall_fcr31 : s.stall.fcr31 = s.fcr31 := rfl
@[simp] theorem State.stall_cp0 : s.stall.cp0 = s.cp0 := rfl
@[simp] theorem State.stall_tlb : s.stall.tlb = s.tlb := rfl
@[simp] theorem State.stall_icache : s.stall.icache = s.icache := rfl
@[simp] theorem State.stall_dcache : s.stall.dcache = s.dcache := rfl
@[simp] theorem State.stall_wbuf : s.stall.wbuf = s.wbuf := rfl
@[simp] theorem State.stall_mem : s.stall.mem = s.mem := rfl
@[simp] theorem State.stall_env : s.stall.env = s.env := rfl
@[simp] theorem State.stall_straps : s.stall.straps = s.straps := rfl
@[simp] theorem State.stall_lateError : s.stall.lateError = s.lateError := rfl
@[simp] theorem State.stall_ahead : s.stall.ahead = s.ahead := rfl
@[simp] theorem State.stall_params : s.stall.params = s.params := rfl
@[simp] theorem State.stall_free : s.stall.free = s.free := rfl
@[simp] theorem State.stall_excTaken : s.stall.excTaken = s.excTaken := rfl
@[simp] theorem State.stall_stepPending : s.stall.stepPending = s.stepPending := rfl
@[simp] theorem State.stall_choices : s.stall.choices = s.choices := rfl

/-! ## `setHiLo` -/

@[simp] theorem State.setHiLo_gpr (h l : DWord) : (s.setHiLo h l).gpr = s.gpr := rfl
@[simp] theorem State.setHiLo_pc (h l : DWord) : (s.setHiLo h l).pc = s.pc := rfl
@[simp] theorem State.setHiLo_delaySlot (h l : DWord) : (s.setHiLo h l).delaySlot = s.delaySlot := rfl
@[simp] theorem State.setHiLo_llbit (h l : DWord) : (s.setHiLo h l).llbit = s.llbit := rfl
@[simp] theorem State.setHiLo_fgr (h l : DWord) : (s.setHiLo h l).fgr = s.fgr := rfl
@[simp] theorem State.setHiLo_fcr31 (h l : DWord) : (s.setHiLo h l).fcr31 = s.fcr31 := rfl
@[simp] theorem State.setHiLo_cp0 (h l : DWord) : (s.setHiLo h l).cp0 = s.cp0 := rfl
@[simp] theorem State.setHiLo_tlb (h l : DWord) : (s.setHiLo h l).tlb = s.tlb := rfl
@[simp] theorem State.setHiLo_icache (h l : DWord) : (s.setHiLo h l).icache = s.icache := rfl
@[simp] theorem State.setHiLo_dcache (h l : DWord) : (s.setHiLo h l).dcache = s.dcache := rfl
@[simp] theorem State.setHiLo_wbuf (h l : DWord) : (s.setHiLo h l).wbuf = s.wbuf := rfl
@[simp] theorem State.setHiLo_mem (h l : DWord) : (s.setHiLo h l).mem = s.mem := rfl
@[simp] theorem State.setHiLo_plat (h l : DWord) : (s.setHiLo h l).plat = s.plat := rfl
@[simp] theorem State.setHiLo_env (h l : DWord) : (s.setHiLo h l).env = s.env := rfl
@[simp] theorem State.setHiLo_straps (h l : DWord) : (s.setHiLo h l).straps = s.straps := rfl
@[simp] theorem State.setHiLo_lateError (h l : DWord) : (s.setHiLo h l).lateError = s.lateError := rfl
@[simp] theorem State.setHiLo_ahead (h l : DWord) : (s.setHiLo h l).ahead = s.ahead := rfl
@[simp] theorem State.setHiLo_params (h l : DWord) : (s.setHiLo h l).params = s.params := rfl
@[simp] theorem State.setHiLo_free (h l : DWord) : (s.setHiLo h l).free = s.free := rfl
@[simp] theorem State.setHiLo_excTaken (h l : DWord) : (s.setHiLo h l).excTaken = s.excTaken := rfl
@[simp] theorem State.setHiLo_stepPending (h l : DWord) : (s.setHiLo h l).stepPending = s.stepPending := rfl
@[simp] theorem State.setHiLo_choices (h l : DWord) : (s.setHiLo h l).choices = s.choices := rfl

/-! ## `setGpr` -/

@[simp] theorem State.setGpr_hi (r : RegNum) (v : DWord) : (s.setGpr r v).hi = s.hi := by unfold State.setGpr; split <;> rfl
@[simp] theorem State.setGpr_lo (r : RegNum) (v : DWord) : (s.setGpr r v).lo = s.lo := by unfold State.setGpr; split <;> rfl
@[simp] theorem State.setGpr_pc (r : RegNum) (v : DWord) : (s.setGpr r v).pc = s.pc := by unfold State.setGpr; split <;> rfl
@[simp] theorem State.setGpr_delaySlot (r : RegNum) (v : DWord) : (s.setGpr r v).delaySlot = s.delaySlot := by unfold State.setGpr; split <;> rfl
@[simp] theorem State.setGpr_llbit (r : RegNum) (v : DWord) : (s.setGpr r v).llbit = s.llbit := by unfold State.setGpr; split <;> rfl
@[simp] theorem State.setGpr_fgr (r : RegNum) (v : DWord) : (s.setGpr r v).fgr = s.fgr := by unfold State.setGpr; split <;> rfl
@[simp] theorem State.setGpr_fcr31 (r : RegNum) (v : DWord) : (s.setGpr r v).fcr31 = s.fcr31 := by unfold State.setGpr; split <;> rfl
@[simp] theorem State.setGpr_cp0 (r : RegNum) (v : DWord) : (s.setGpr r v).cp0 = s.cp0 := by unfold State.setGpr; split <;> rfl
@[simp] theorem State.setGpr_tlb (r : RegNum) (v : DWord) : (s.setGpr r v).tlb = s.tlb := by unfold State.setGpr; split <;> rfl
@[simp] theorem State.setGpr_icache (r : RegNum) (v : DWord) : (s.setGpr r v).icache = s.icache := by unfold State.setGpr; split <;> rfl
@[simp] theorem State.setGpr_dcache (r : RegNum) (v : DWord) : (s.setGpr r v).dcache = s.dcache := by unfold State.setGpr; split <;> rfl
@[simp] theorem State.setGpr_wbuf (r : RegNum) (v : DWord) : (s.setGpr r v).wbuf = s.wbuf := by unfold State.setGpr; split <;> rfl
@[simp] theorem State.setGpr_mem (r : RegNum) (v : DWord) : (s.setGpr r v).mem = s.mem := by unfold State.setGpr; split <;> rfl
@[simp] theorem State.setGpr_plat (r : RegNum) (v : DWord) : (s.setGpr r v).plat = s.plat := by unfold State.setGpr; split <;> rfl
@[simp] theorem State.setGpr_env (r : RegNum) (v : DWord) : (s.setGpr r v).env = s.env := by unfold State.setGpr; split <;> rfl
@[simp] theorem State.setGpr_straps (r : RegNum) (v : DWord) : (s.setGpr r v).straps = s.straps := by unfold State.setGpr; split <;> rfl
@[simp] theorem State.setGpr_lateError (r : RegNum) (v : DWord) : (s.setGpr r v).lateError = s.lateError := by unfold State.setGpr; split <;> rfl
@[simp] theorem State.setGpr_ahead (r : RegNum) (v : DWord) : (s.setGpr r v).ahead = s.ahead := by unfold State.setGpr; split <;> rfl
@[simp] theorem State.setGpr_params (r : RegNum) (v : DWord) : (s.setGpr r v).params = s.params := by unfold State.setGpr; split <;> rfl
@[simp] theorem State.setGpr_free (r : RegNum) (v : DWord) : (s.setGpr r v).free = s.free := by unfold State.setGpr; split <;> rfl
@[simp] theorem State.setGpr_excTaken (r : RegNum) (v : DWord) : (s.setGpr r v).excTaken = s.excTaken := by unfold State.setGpr; split <;> rfl
@[simp] theorem State.setGpr_stepPending (r : RegNum) (v : DWord) : (s.setGpr r v).stepPending = s.stepPending := by unfold State.setGpr; split <;> rfl
@[simp] theorem State.setGpr_choices (r : RegNum) (v : DWord) : (s.setGpr r v).choices = s.choices := by unfold State.setGpr; split <;> rfl

/-! ## `setFgr` -/

@[simp] theorem State.setFgr_gpr (f : FpRegNum) (v : DWord) : (s.setFgr f v).gpr = s.gpr := rfl
@[simp] theorem State.setFgr_hi (f : FpRegNum) (v : DWord) : (s.setFgr f v).hi = s.hi := rfl
@[simp] theorem State.setFgr_lo (f : FpRegNum) (v : DWord) : (s.setFgr f v).lo = s.lo := rfl
@[simp] theorem State.setFgr_pc (f : FpRegNum) (v : DWord) : (s.setFgr f v).pc = s.pc := rfl
@[simp] theorem State.setFgr_delaySlot (f : FpRegNum) (v : DWord) : (s.setFgr f v).delaySlot = s.delaySlot := rfl
@[simp] theorem State.setFgr_llbit (f : FpRegNum) (v : DWord) : (s.setFgr f v).llbit = s.llbit := rfl
@[simp] theorem State.setFgr_fcr31 (f : FpRegNum) (v : DWord) : (s.setFgr f v).fcr31 = s.fcr31 := rfl
@[simp] theorem State.setFgr_cp0 (f : FpRegNum) (v : DWord) : (s.setFgr f v).cp0 = s.cp0 := rfl
@[simp] theorem State.setFgr_tlb (f : FpRegNum) (v : DWord) : (s.setFgr f v).tlb = s.tlb := rfl
@[simp] theorem State.setFgr_icache (f : FpRegNum) (v : DWord) : (s.setFgr f v).icache = s.icache := rfl
@[simp] theorem State.setFgr_dcache (f : FpRegNum) (v : DWord) : (s.setFgr f v).dcache = s.dcache := rfl
@[simp] theorem State.setFgr_wbuf (f : FpRegNum) (v : DWord) : (s.setFgr f v).wbuf = s.wbuf := rfl
@[simp] theorem State.setFgr_mem (f : FpRegNum) (v : DWord) : (s.setFgr f v).mem = s.mem := rfl
@[simp] theorem State.setFgr_plat (f : FpRegNum) (v : DWord) : (s.setFgr f v).plat = s.plat := rfl
@[simp] theorem State.setFgr_env (f : FpRegNum) (v : DWord) : (s.setFgr f v).env = s.env := rfl
@[simp] theorem State.setFgr_straps (f : FpRegNum) (v : DWord) : (s.setFgr f v).straps = s.straps := rfl
@[simp] theorem State.setFgr_lateError (f : FpRegNum) (v : DWord) : (s.setFgr f v).lateError = s.lateError := rfl
@[simp] theorem State.setFgr_ahead (f : FpRegNum) (v : DWord) : (s.setFgr f v).ahead = s.ahead := rfl
@[simp] theorem State.setFgr_params (f : FpRegNum) (v : DWord) : (s.setFgr f v).params = s.params := rfl
@[simp] theorem State.setFgr_free (f : FpRegNum) (v : DWord) : (s.setFgr f v).free = s.free := rfl
@[simp] theorem State.setFgr_excTaken (f : FpRegNum) (v : DWord) : (s.setFgr f v).excTaken = s.excTaken := rfl
@[simp] theorem State.setFgr_stepPending (f : FpRegNum) (v : DWord) : (s.setFgr f v).stepPending = s.stepPending := rfl
@[simp] theorem State.setFgr_choices (f : FpRegNum) (v : DWord) : (s.setFgr f v).choices = s.choices := rfl

/-! ## `setFgrLow` -/

@[simp] theorem State.setFgrLow_gpr (f : FpRegNum) (v : Word) : (s.setFgrLow f v).gpr = s.gpr := rfl
@[simp] theorem State.setFgrLow_hi (f : FpRegNum) (v : Word) : (s.setFgrLow f v).hi = s.hi := rfl
@[simp] theorem State.setFgrLow_lo (f : FpRegNum) (v : Word) : (s.setFgrLow f v).lo = s.lo := rfl
@[simp] theorem State.setFgrLow_pc (f : FpRegNum) (v : Word) : (s.setFgrLow f v).pc = s.pc := rfl
@[simp] theorem State.setFgrLow_delaySlot (f : FpRegNum) (v : Word) : (s.setFgrLow f v).delaySlot = s.delaySlot := rfl
@[simp] theorem State.setFgrLow_llbit (f : FpRegNum) (v : Word) : (s.setFgrLow f v).llbit = s.llbit := rfl
@[simp] theorem State.setFgrLow_fcr31 (f : FpRegNum) (v : Word) : (s.setFgrLow f v).fcr31 = s.fcr31 := rfl
@[simp] theorem State.setFgrLow_cp0 (f : FpRegNum) (v : Word) : (s.setFgrLow f v).cp0 = s.cp0 := rfl
@[simp] theorem State.setFgrLow_tlb (f : FpRegNum) (v : Word) : (s.setFgrLow f v).tlb = s.tlb := rfl
@[simp] theorem State.setFgrLow_icache (f : FpRegNum) (v : Word) : (s.setFgrLow f v).icache = s.icache := rfl
@[simp] theorem State.setFgrLow_dcache (f : FpRegNum) (v : Word) : (s.setFgrLow f v).dcache = s.dcache := rfl
@[simp] theorem State.setFgrLow_wbuf (f : FpRegNum) (v : Word) : (s.setFgrLow f v).wbuf = s.wbuf := rfl
@[simp] theorem State.setFgrLow_mem (f : FpRegNum) (v : Word) : (s.setFgrLow f v).mem = s.mem := rfl
@[simp] theorem State.setFgrLow_plat (f : FpRegNum) (v : Word) : (s.setFgrLow f v).plat = s.plat := rfl
@[simp] theorem State.setFgrLow_env (f : FpRegNum) (v : Word) : (s.setFgrLow f v).env = s.env := rfl
@[simp] theorem State.setFgrLow_straps (f : FpRegNum) (v : Word) : (s.setFgrLow f v).straps = s.straps := rfl
@[simp] theorem State.setFgrLow_lateError (f : FpRegNum) (v : Word) : (s.setFgrLow f v).lateError = s.lateError := rfl
@[simp] theorem State.setFgrLow_ahead (f : FpRegNum) (v : Word) : (s.setFgrLow f v).ahead = s.ahead := rfl
@[simp] theorem State.setFgrLow_params (f : FpRegNum) (v : Word) : (s.setFgrLow f v).params = s.params := rfl
@[simp] theorem State.setFgrLow_free (f : FpRegNum) (v : Word) : (s.setFgrLow f v).free = s.free := rfl
@[simp] theorem State.setFgrLow_excTaken (f : FpRegNum) (v : Word) : (s.setFgrLow f v).excTaken = s.excTaken := rfl
@[simp] theorem State.setFgrLow_stepPending (f : FpRegNum) (v : Word) : (s.setFgrLow f v).stepPending = s.stepPending := rfl
@[simp] theorem State.setFgrLow_choices (f : FpRegNum) (v : Word) : (s.setFgrLow f v).choices = s.choices := rfl

/-! ## `spoilPair` -/

@[simp] theorem State.spoilPair_gpr (f : FpRegNum) : (s.spoilPair f).gpr = s.gpr := by simp only [State.spoilPair, State.setFgrLow_gpr]
@[simp] theorem State.spoilPair_hi (f : FpRegNum) : (s.spoilPair f).hi = s.hi := by simp only [State.spoilPair, State.setFgrLow_hi]
@[simp] theorem State.spoilPair_lo (f : FpRegNum) : (s.spoilPair f).lo = s.lo := by simp only [State.spoilPair, State.setFgrLow_lo]
@[simp] theorem State.spoilPair_pc (f : FpRegNum) : (s.spoilPair f).pc = s.pc := by simp only [State.spoilPair, State.setFgrLow_pc]
@[simp] theorem State.spoilPair_delaySlot (f : FpRegNum) : (s.spoilPair f).delaySlot = s.delaySlot := by simp only [State.spoilPair, State.setFgrLow_delaySlot]
@[simp] theorem State.spoilPair_llbit (f : FpRegNum) : (s.spoilPair f).llbit = s.llbit := by simp only [State.spoilPair, State.setFgrLow_llbit]
@[simp] theorem State.spoilPair_fcr31 (f : FpRegNum) : (s.spoilPair f).fcr31 = s.fcr31 := by simp only [State.spoilPair, State.setFgrLow_fcr31]
@[simp] theorem State.spoilPair_cp0 (f : FpRegNum) : (s.spoilPair f).cp0 = s.cp0 := by simp only [State.spoilPair, State.setFgrLow_cp0]
@[simp] theorem State.spoilPair_tlb (f : FpRegNum) : (s.spoilPair f).tlb = s.tlb := by simp only [State.spoilPair, State.setFgrLow_tlb]
@[simp] theorem State.spoilPair_icache (f : FpRegNum) : (s.spoilPair f).icache = s.icache := by simp only [State.spoilPair, State.setFgrLow_icache]
@[simp] theorem State.spoilPair_dcache (f : FpRegNum) : (s.spoilPair f).dcache = s.dcache := by simp only [State.spoilPair, State.setFgrLow_dcache]
@[simp] theorem State.spoilPair_wbuf (f : FpRegNum) : (s.spoilPair f).wbuf = s.wbuf := by simp only [State.spoilPair, State.setFgrLow_wbuf]
@[simp] theorem State.spoilPair_mem (f : FpRegNum) : (s.spoilPair f).mem = s.mem := by simp only [State.spoilPair, State.setFgrLow_mem]
@[simp] theorem State.spoilPair_plat (f : FpRegNum) : (s.spoilPair f).plat = s.plat := by simp only [State.spoilPair, State.setFgrLow_plat]
@[simp] theorem State.spoilPair_env (f : FpRegNum) : (s.spoilPair f).env = s.env := by simp only [State.spoilPair, State.setFgrLow_env]
@[simp] theorem State.spoilPair_straps (f : FpRegNum) : (s.spoilPair f).straps = s.straps := by simp only [State.spoilPair, State.setFgrLow_straps]
@[simp] theorem State.spoilPair_lateError (f : FpRegNum) : (s.spoilPair f).lateError = s.lateError := by simp only [State.spoilPair, State.setFgrLow_lateError]
@[simp] theorem State.spoilPair_ahead (f : FpRegNum) : (s.spoilPair f).ahead = s.ahead := by simp only [State.spoilPair, State.setFgrLow_ahead]
@[simp] theorem State.spoilPair_params (f : FpRegNum) : (s.spoilPair f).params = s.params := by simp only [State.spoilPair, State.setFgrLow_params]
@[simp] theorem State.spoilPair_free (f : FpRegNum) : (s.spoilPair f).free = s.free := by simp only [State.spoilPair, State.setFgrLow_free]
@[simp] theorem State.spoilPair_excTaken (f : FpRegNum) : (s.spoilPair f).excTaken = s.excTaken := by simp only [State.spoilPair, State.setFgrLow_excTaken]
@[simp] theorem State.spoilPair_stepPending (f : FpRegNum) : (s.spoilPair f).stepPending = s.stepPending := by simp only [State.spoilPair, State.setFgrLow_stepPending]
@[simp] theorem State.spoilPair_choices (f : FpRegNum) : (s.spoilPair f).choices = s.choices := by simp only [State.spoilPair, State.setFgrLow_choices]

/-! ## `setFpr32` -/

@[simp] theorem State.setFpr32_gpr (f : FpRegNum) (v : Word) : (s.setFpr32 f v).gpr = s.gpr := by unfold State.setFpr32; split <;> [rfl; (split <;> simp only [State.spoilPair_gpr, State.setFgrLow_gpr])]
@[simp] theorem State.setFpr32_hi (f : FpRegNum) (v : Word) : (s.setFpr32 f v).hi = s.hi := by unfold State.setFpr32; split <;> [rfl; (split <;> simp only [State.spoilPair_hi, State.setFgrLow_hi])]
@[simp] theorem State.setFpr32_lo (f : FpRegNum) (v : Word) : (s.setFpr32 f v).lo = s.lo := by unfold State.setFpr32; split <;> [rfl; (split <;> simp only [State.spoilPair_lo, State.setFgrLow_lo])]
@[simp] theorem State.setFpr32_pc (f : FpRegNum) (v : Word) : (s.setFpr32 f v).pc = s.pc := by unfold State.setFpr32; split <;> [rfl; (split <;> simp only [State.spoilPair_pc, State.setFgrLow_pc])]
@[simp] theorem State.setFpr32_delaySlot (f : FpRegNum) (v : Word) : (s.setFpr32 f v).delaySlot = s.delaySlot := by unfold State.setFpr32; split <;> [rfl; (split <;> simp only [State.spoilPair_delaySlot, State.setFgrLow_delaySlot])]
@[simp] theorem State.setFpr32_llbit (f : FpRegNum) (v : Word) : (s.setFpr32 f v).llbit = s.llbit := by unfold State.setFpr32; split <;> [rfl; (split <;> simp only [State.spoilPair_llbit, State.setFgrLow_llbit])]
@[simp] theorem State.setFpr32_fcr31 (f : FpRegNum) (v : Word) : (s.setFpr32 f v).fcr31 = s.fcr31 := by unfold State.setFpr32; split <;> [rfl; (split <;> simp only [State.spoilPair_fcr31, State.setFgrLow_fcr31])]
@[simp] theorem State.setFpr32_cp0 (f : FpRegNum) (v : Word) : (s.setFpr32 f v).cp0 = s.cp0 := by unfold State.setFpr32; split <;> [rfl; (split <;> simp only [State.spoilPair_cp0, State.setFgrLow_cp0])]
@[simp] theorem State.setFpr32_tlb (f : FpRegNum) (v : Word) : (s.setFpr32 f v).tlb = s.tlb := by unfold State.setFpr32; split <;> [rfl; (split <;> simp only [State.spoilPair_tlb, State.setFgrLow_tlb])]
@[simp] theorem State.setFpr32_icache (f : FpRegNum) (v : Word) : (s.setFpr32 f v).icache = s.icache := by unfold State.setFpr32; split <;> [rfl; (split <;> simp only [State.spoilPair_icache, State.setFgrLow_icache])]
@[simp] theorem State.setFpr32_dcache (f : FpRegNum) (v : Word) : (s.setFpr32 f v).dcache = s.dcache := by unfold State.setFpr32; split <;> [rfl; (split <;> simp only [State.spoilPair_dcache, State.setFgrLow_dcache])]
@[simp] theorem State.setFpr32_wbuf (f : FpRegNum) (v : Word) : (s.setFpr32 f v).wbuf = s.wbuf := by unfold State.setFpr32; split <;> [rfl; (split <;> simp only [State.spoilPair_wbuf, State.setFgrLow_wbuf])]
@[simp] theorem State.setFpr32_mem (f : FpRegNum) (v : Word) : (s.setFpr32 f v).mem = s.mem := by unfold State.setFpr32; split <;> [rfl; (split <;> simp only [State.spoilPair_mem, State.setFgrLow_mem])]
@[simp] theorem State.setFpr32_plat (f : FpRegNum) (v : Word) : (s.setFpr32 f v).plat = s.plat := by unfold State.setFpr32; split <;> [rfl; (split <;> simp only [State.spoilPair_plat, State.setFgrLow_plat])]
@[simp] theorem State.setFpr32_env (f : FpRegNum) (v : Word) : (s.setFpr32 f v).env = s.env := by unfold State.setFpr32; split <;> [rfl; (split <;> simp only [State.spoilPair_env, State.setFgrLow_env])]
@[simp] theorem State.setFpr32_straps (f : FpRegNum) (v : Word) : (s.setFpr32 f v).straps = s.straps := by unfold State.setFpr32; split <;> [rfl; (split <;> simp only [State.spoilPair_straps, State.setFgrLow_straps])]
@[simp] theorem State.setFpr32_lateError (f : FpRegNum) (v : Word) : (s.setFpr32 f v).lateError = s.lateError := by unfold State.setFpr32; split <;> [rfl; (split <;> simp only [State.spoilPair_lateError, State.setFgrLow_lateError])]
@[simp] theorem State.setFpr32_ahead (f : FpRegNum) (v : Word) : (s.setFpr32 f v).ahead = s.ahead := by unfold State.setFpr32; split <;> [rfl; (split <;> simp only [State.spoilPair_ahead, State.setFgrLow_ahead])]
@[simp] theorem State.setFpr32_params (f : FpRegNum) (v : Word) : (s.setFpr32 f v).params = s.params := by unfold State.setFpr32; split <;> [rfl; (split <;> simp only [State.spoilPair_params, State.setFgrLow_params])]
@[simp] theorem State.setFpr32_free (f : FpRegNum) (v : Word) : (s.setFpr32 f v).free = s.free := by unfold State.setFpr32; split <;> [rfl; (split <;> simp only [State.spoilPair_free, State.setFgrLow_free])]
@[simp] theorem State.setFpr32_excTaken (f : FpRegNum) (v : Word) : (s.setFpr32 f v).excTaken = s.excTaken := by unfold State.setFpr32; split <;> [rfl; (split <;> simp only [State.spoilPair_excTaken, State.setFgrLow_excTaken])]
@[simp] theorem State.setFpr32_stepPending (f : FpRegNum) (v : Word) : (s.setFpr32 f v).stepPending = s.stepPending := by unfold State.setFpr32; split <;> [rfl; (split <;> simp only [State.spoilPair_stepPending, State.setFgrLow_stepPending])]
@[simp] theorem State.setFpr32_choices (f : FpRegNum) (v : Word) : (s.setFpr32 f v).choices = s.choices := by unfold State.setFpr32; split <;> [rfl; (split <;> simp only [State.spoilPair_choices, State.setFgrLow_choices])]

/-! ## `setFpr64` -/

@[simp] theorem State.setFpr64_gpr (f : FpRegNum) (v : DWord) : (s.setFpr64 f v).gpr = s.gpr := by unfold State.setFpr64; split <;> [rfl; (split <;> simp only [State.spoilPair_gpr, State.setFgrLow_gpr])]
@[simp] theorem State.setFpr64_hi (f : FpRegNum) (v : DWord) : (s.setFpr64 f v).hi = s.hi := by unfold State.setFpr64; split <;> [rfl; (split <;> simp only [State.spoilPair_hi, State.setFgrLow_hi])]
@[simp] theorem State.setFpr64_lo (f : FpRegNum) (v : DWord) : (s.setFpr64 f v).lo = s.lo := by unfold State.setFpr64; split <;> [rfl; (split <;> simp only [State.spoilPair_lo, State.setFgrLow_lo])]
@[simp] theorem State.setFpr64_pc (f : FpRegNum) (v : DWord) : (s.setFpr64 f v).pc = s.pc := by unfold State.setFpr64; split <;> [rfl; (split <;> simp only [State.spoilPair_pc, State.setFgrLow_pc])]
@[simp] theorem State.setFpr64_delaySlot (f : FpRegNum) (v : DWord) : (s.setFpr64 f v).delaySlot = s.delaySlot := by unfold State.setFpr64; split <;> [rfl; (split <;> simp only [State.spoilPair_delaySlot, State.setFgrLow_delaySlot])]
@[simp] theorem State.setFpr64_llbit (f : FpRegNum) (v : DWord) : (s.setFpr64 f v).llbit = s.llbit := by unfold State.setFpr64; split <;> [rfl; (split <;> simp only [State.spoilPair_llbit, State.setFgrLow_llbit])]
@[simp] theorem State.setFpr64_fcr31 (f : FpRegNum) (v : DWord) : (s.setFpr64 f v).fcr31 = s.fcr31 := by unfold State.setFpr64; split <;> [rfl; (split <;> simp only [State.spoilPair_fcr31, State.setFgrLow_fcr31])]
@[simp] theorem State.setFpr64_cp0 (f : FpRegNum) (v : DWord) : (s.setFpr64 f v).cp0 = s.cp0 := by unfold State.setFpr64; split <;> [rfl; (split <;> simp only [State.spoilPair_cp0, State.setFgrLow_cp0])]
@[simp] theorem State.setFpr64_tlb (f : FpRegNum) (v : DWord) : (s.setFpr64 f v).tlb = s.tlb := by unfold State.setFpr64; split <;> [rfl; (split <;> simp only [State.spoilPair_tlb, State.setFgrLow_tlb])]
@[simp] theorem State.setFpr64_icache (f : FpRegNum) (v : DWord) : (s.setFpr64 f v).icache = s.icache := by unfold State.setFpr64; split <;> [rfl; (split <;> simp only [State.spoilPair_icache, State.setFgrLow_icache])]
@[simp] theorem State.setFpr64_dcache (f : FpRegNum) (v : DWord) : (s.setFpr64 f v).dcache = s.dcache := by unfold State.setFpr64; split <;> [rfl; (split <;> simp only [State.spoilPair_dcache, State.setFgrLow_dcache])]
@[simp] theorem State.setFpr64_wbuf (f : FpRegNum) (v : DWord) : (s.setFpr64 f v).wbuf = s.wbuf := by unfold State.setFpr64; split <;> [rfl; (split <;> simp only [State.spoilPair_wbuf, State.setFgrLow_wbuf])]
@[simp] theorem State.setFpr64_mem (f : FpRegNum) (v : DWord) : (s.setFpr64 f v).mem = s.mem := by unfold State.setFpr64; split <;> [rfl; (split <;> simp only [State.spoilPair_mem, State.setFgrLow_mem])]
@[simp] theorem State.setFpr64_plat (f : FpRegNum) (v : DWord) : (s.setFpr64 f v).plat = s.plat := by unfold State.setFpr64; split <;> [rfl; (split <;> simp only [State.spoilPair_plat, State.setFgrLow_plat])]
@[simp] theorem State.setFpr64_env (f : FpRegNum) (v : DWord) : (s.setFpr64 f v).env = s.env := by unfold State.setFpr64; split <;> [rfl; (split <;> simp only [State.spoilPair_env, State.setFgrLow_env])]
@[simp] theorem State.setFpr64_straps (f : FpRegNum) (v : DWord) : (s.setFpr64 f v).straps = s.straps := by unfold State.setFpr64; split <;> [rfl; (split <;> simp only [State.spoilPair_straps, State.setFgrLow_straps])]
@[simp] theorem State.setFpr64_lateError (f : FpRegNum) (v : DWord) : (s.setFpr64 f v).lateError = s.lateError := by unfold State.setFpr64; split <;> [rfl; (split <;> simp only [State.spoilPair_lateError, State.setFgrLow_lateError])]
@[simp] theorem State.setFpr64_ahead (f : FpRegNum) (v : DWord) : (s.setFpr64 f v).ahead = s.ahead := by unfold State.setFpr64; split <;> [rfl; (split <;> simp only [State.spoilPair_ahead, State.setFgrLow_ahead])]
@[simp] theorem State.setFpr64_params (f : FpRegNum) (v : DWord) : (s.setFpr64 f v).params = s.params := by unfold State.setFpr64; split <;> [rfl; (split <;> simp only [State.spoilPair_params, State.setFgrLow_params])]
@[simp] theorem State.setFpr64_free (f : FpRegNum) (v : DWord) : (s.setFpr64 f v).free = s.free := by unfold State.setFpr64; split <;> [rfl; (split <;> simp only [State.spoilPair_free, State.setFgrLow_free])]
@[simp] theorem State.setFpr64_excTaken (f : FpRegNum) (v : DWord) : (s.setFpr64 f v).excTaken = s.excTaken := by unfold State.setFpr64; split <;> [rfl; (split <;> simp only [State.spoilPair_excTaken, State.setFgrLow_excTaken])]
@[simp] theorem State.setFpr64_stepPending (f : FpRegNum) (v : DWord) : (s.setFpr64 f v).stepPending = s.stepPending := by unfold State.setFpr64; split <;> [rfl; (split <;> simp only [State.spoilPair_stepPending, State.setFgrLow_stepPending])]
@[simp] theorem State.setFpr64_choices (f : FpRegNum) (v : DWord) : (s.setFpr64 f v).choices = s.choices := by unfold State.setFpr64; split <;> [rfl; (split <;> simp only [State.spoilPair_choices, State.setFgrLow_choices])]

/-! ## `loadFgr` -/

@[simp] theorem State.loadFgr_gpr (f : FpRegNum) (v : Word) : (s.loadFgr f v).gpr = s.gpr := by unfold State.loadFgr; split <;> rfl
@[simp] theorem State.loadFgr_hi (f : FpRegNum) (v : Word) : (s.loadFgr f v).hi = s.hi := by unfold State.loadFgr; split <;> rfl
@[simp] theorem State.loadFgr_lo (f : FpRegNum) (v : Word) : (s.loadFgr f v).lo = s.lo := by unfold State.loadFgr; split <;> rfl
@[simp] theorem State.loadFgr_pc (f : FpRegNum) (v : Word) : (s.loadFgr f v).pc = s.pc := by unfold State.loadFgr; split <;> rfl
@[simp] theorem State.loadFgr_delaySlot (f : FpRegNum) (v : Word) : (s.loadFgr f v).delaySlot = s.delaySlot := by unfold State.loadFgr; split <;> rfl
@[simp] theorem State.loadFgr_llbit (f : FpRegNum) (v : Word) : (s.loadFgr f v).llbit = s.llbit := by unfold State.loadFgr; split <;> rfl
@[simp] theorem State.loadFgr_fcr31 (f : FpRegNum) (v : Word) : (s.loadFgr f v).fcr31 = s.fcr31 := by unfold State.loadFgr; split <;> rfl
@[simp] theorem State.loadFgr_cp0 (f : FpRegNum) (v : Word) : (s.loadFgr f v).cp0 = s.cp0 := by unfold State.loadFgr; split <;> rfl
@[simp] theorem State.loadFgr_tlb (f : FpRegNum) (v : Word) : (s.loadFgr f v).tlb = s.tlb := by unfold State.loadFgr; split <;> rfl
@[simp] theorem State.loadFgr_icache (f : FpRegNum) (v : Word) : (s.loadFgr f v).icache = s.icache := by unfold State.loadFgr; split <;> rfl
@[simp] theorem State.loadFgr_dcache (f : FpRegNum) (v : Word) : (s.loadFgr f v).dcache = s.dcache := by unfold State.loadFgr; split <;> rfl
@[simp] theorem State.loadFgr_wbuf (f : FpRegNum) (v : Word) : (s.loadFgr f v).wbuf = s.wbuf := by unfold State.loadFgr; split <;> rfl
@[simp] theorem State.loadFgr_mem (f : FpRegNum) (v : Word) : (s.loadFgr f v).mem = s.mem := by unfold State.loadFgr; split <;> rfl
@[simp] theorem State.loadFgr_plat (f : FpRegNum) (v : Word) : (s.loadFgr f v).plat = s.plat := by unfold State.loadFgr; split <;> rfl
@[simp] theorem State.loadFgr_env (f : FpRegNum) (v : Word) : (s.loadFgr f v).env = s.env := by unfold State.loadFgr; split <;> rfl
@[simp] theorem State.loadFgr_straps (f : FpRegNum) (v : Word) : (s.loadFgr f v).straps = s.straps := by unfold State.loadFgr; split <;> rfl
@[simp] theorem State.loadFgr_lateError (f : FpRegNum) (v : Word) : (s.loadFgr f v).lateError = s.lateError := by unfold State.loadFgr; split <;> rfl
@[simp] theorem State.loadFgr_ahead (f : FpRegNum) (v : Word) : (s.loadFgr f v).ahead = s.ahead := by unfold State.loadFgr; split <;> rfl
@[simp] theorem State.loadFgr_params (f : FpRegNum) (v : Word) : (s.loadFgr f v).params = s.params := by unfold State.loadFgr; split <;> rfl
@[simp] theorem State.loadFgr_free (f : FpRegNum) (v : Word) : (s.loadFgr f v).free = s.free := by unfold State.loadFgr; split <;> rfl
@[simp] theorem State.loadFgr_excTaken (f : FpRegNum) (v : Word) : (s.loadFgr f v).excTaken = s.excTaken := by unfold State.loadFgr; split <;> rfl
@[simp] theorem State.loadFgr_stepPending (f : FpRegNum) (v : Word) : (s.loadFgr f v).stepPending = s.stepPending := by unfold State.loadFgr; split <;> rfl
@[simp] theorem State.loadFgr_choices (f : FpRegNum) (v : Word) : (s.loadFgr f v).choices = s.choices := by unfold State.loadFgr; split <;> rfl

/-! ## `spoilFgrs` -/

@[simp] theorem State.spoilFgrs_gpr : s.spoilFgrs.gpr = s.gpr := by simp only [State.spoilFgrs]
@[simp] theorem State.spoilFgrs_hi : s.spoilFgrs.hi = s.hi := by simp only [State.spoilFgrs]
@[simp] theorem State.spoilFgrs_lo : s.spoilFgrs.lo = s.lo := by simp only [State.spoilFgrs]
@[simp] theorem State.spoilFgrs_pc : s.spoilFgrs.pc = s.pc := by simp only [State.spoilFgrs]
@[simp] theorem State.spoilFgrs_delaySlot : s.spoilFgrs.delaySlot = s.delaySlot := by simp only [State.spoilFgrs]
@[simp] theorem State.spoilFgrs_llbit : s.spoilFgrs.llbit = s.llbit := by simp only [State.spoilFgrs]
@[simp] theorem State.spoilFgrs_fcr31 : s.spoilFgrs.fcr31 = s.fcr31 := by simp only [State.spoilFgrs]
@[simp] theorem State.spoilFgrs_cp0 : s.spoilFgrs.cp0 = s.cp0 := by simp only [State.spoilFgrs]
@[simp] theorem State.spoilFgrs_tlb : s.spoilFgrs.tlb = s.tlb := by simp only [State.spoilFgrs]
@[simp] theorem State.spoilFgrs_icache : s.spoilFgrs.icache = s.icache := by simp only [State.spoilFgrs]
@[simp] theorem State.spoilFgrs_dcache : s.spoilFgrs.dcache = s.dcache := by simp only [State.spoilFgrs]
@[simp] theorem State.spoilFgrs_wbuf : s.spoilFgrs.wbuf = s.wbuf := by simp only [State.spoilFgrs]
@[simp] theorem State.spoilFgrs_mem : s.spoilFgrs.mem = s.mem := by simp only [State.spoilFgrs]
@[simp] theorem State.spoilFgrs_plat : s.spoilFgrs.plat = s.plat := by simp only [State.spoilFgrs]
@[simp] theorem State.spoilFgrs_env : s.spoilFgrs.env = s.env := by simp only [State.spoilFgrs]
@[simp] theorem State.spoilFgrs_straps : s.spoilFgrs.straps = s.straps := by simp only [State.spoilFgrs]
@[simp] theorem State.spoilFgrs_lateError : s.spoilFgrs.lateError = s.lateError := by simp only [State.spoilFgrs]
@[simp] theorem State.spoilFgrs_ahead : s.spoilFgrs.ahead = s.ahead := by simp only [State.spoilFgrs]
@[simp] theorem State.spoilFgrs_params : s.spoilFgrs.params = s.params := by simp only [State.spoilFgrs]
@[simp] theorem State.spoilFgrs_free : s.spoilFgrs.free = s.free := by simp only [State.spoilFgrs]
@[simp] theorem State.spoilFgrs_excTaken : s.spoilFgrs.excTaken = s.excTaken := by simp only [State.spoilFgrs]
@[simp] theorem State.spoilFgrs_stepPending : s.spoilFgrs.stepPending = s.stepPending := by simp only [State.spoilFgrs]
@[simp] theorem State.spoilFgrs_choices : s.spoilFgrs.choices = s.choices := by simp only [State.spoilFgrs]

/-! ## `eret` -/

@[simp] theorem State.eret_gpr : s.eret.gpr = s.gpr := by unfold State.eret; split <;> rfl
@[simp] theorem State.eret_hi : s.eret.hi = s.hi := by unfold State.eret; split <;> rfl
@[simp] theorem State.eret_lo : s.eret.lo = s.lo := by unfold State.eret; split <;> rfl
@[simp] theorem State.eret_fgr : s.eret.fgr = s.fgr := by unfold State.eret; split <;> rfl
@[simp] theorem State.eret_fcr31 : s.eret.fcr31 = s.fcr31 := by unfold State.eret; split <;> rfl
@[simp] theorem State.eret_tlb : s.eret.tlb = s.tlb := by unfold State.eret; split <;> rfl
@[simp] theorem State.eret_icache : s.eret.icache = s.icache := by unfold State.eret; split <;> rfl
@[simp] theorem State.eret_dcache : s.eret.dcache = s.dcache := by unfold State.eret; split <;> rfl
@[simp] theorem State.eret_wbuf : s.eret.wbuf = s.wbuf := by unfold State.eret; split <;> rfl
@[simp] theorem State.eret_mem : s.eret.mem = s.mem := by unfold State.eret; split <;> rfl
@[simp] theorem State.eret_plat : s.eret.plat = s.plat := by unfold State.eret; split <;> rfl
@[simp] theorem State.eret_env : s.eret.env = s.env := by unfold State.eret; split <;> rfl
@[simp] theorem State.eret_straps : s.eret.straps = s.straps := by unfold State.eret; split <;> rfl
@[simp] theorem State.eret_lateError : s.eret.lateError = s.lateError := by unfold State.eret; split <;> rfl
@[simp] theorem State.eret_ahead : s.eret.ahead = s.ahead := by unfold State.eret; split <;> rfl
@[simp] theorem State.eret_params : s.eret.params = s.params := by unfold State.eret; split <;> rfl
@[simp] theorem State.eret_free : s.eret.free = s.free := by unfold State.eret; split <;> rfl
@[simp] theorem State.eret_excTaken : s.eret.excTaken = s.excTaken := by unfold State.eret; split <;> rfl
@[simp] theorem State.eret_stepPending : s.eret.stepPending = s.stepPending := by unfold State.eret; split <;> rfl
@[simp] theorem State.eret_choices : s.eret.choices = s.choices := by unfold State.eret; split <;> rfl

/-! ## `deret` -/

@[simp] theorem State.deret_gpr : s.deret.gpr = s.gpr := rfl
@[simp] theorem State.deret_hi : s.deret.hi = s.hi := rfl
@[simp] theorem State.deret_lo : s.deret.lo = s.lo := rfl
@[simp] theorem State.deret_llbit : s.deret.llbit = s.llbit := rfl
@[simp] theorem State.deret_fgr : s.deret.fgr = s.fgr := rfl
@[simp] theorem State.deret_fcr31 : s.deret.fcr31 = s.fcr31 := rfl
@[simp] theorem State.deret_tlb : s.deret.tlb = s.tlb := rfl
@[simp] theorem State.deret_icache : s.deret.icache = s.icache := rfl
@[simp] theorem State.deret_dcache : s.deret.dcache = s.dcache := rfl
@[simp] theorem State.deret_wbuf : s.deret.wbuf = s.wbuf := rfl
@[simp] theorem State.deret_mem : s.deret.mem = s.mem := rfl
@[simp] theorem State.deret_plat : s.deret.plat = s.plat := rfl
@[simp] theorem State.deret_env : s.deret.env = s.env := rfl
@[simp] theorem State.deret_straps : s.deret.straps = s.straps := rfl
@[simp] theorem State.deret_lateError : s.deret.lateError = s.lateError := rfl
@[simp] theorem State.deret_ahead : s.deret.ahead = s.ahead := rfl
@[simp] theorem State.deret_params : s.deret.params = s.params := rfl
@[simp] theorem State.deret_free : s.deret.free = s.free := rfl
@[simp] theorem State.deret_excTaken : s.deret.excTaken = s.excTaken := rfl
@[simp] theorem State.deret_stepPending : s.deret.stepPending = s.stepPending := rfl
@[simp] theorem State.deret_choices : s.deret.choices = s.choices := rfl

/-! ## `takeException` -/

@[simp] theorem takeException_gpr (x : Exc) : (takeException x s).gpr = s.gpr := rfl
@[simp] theorem takeException_hi (x : Exc) : (takeException x s).hi = s.hi := rfl
@[simp] theorem takeException_lo (x : Exc) : (takeException x s).lo = s.lo := rfl
@[simp] theorem takeException_llbit (x : Exc) : (takeException x s).llbit = s.llbit := rfl
@[simp] theorem takeException_fgr (x : Exc) : (takeException x s).fgr = s.fgr := rfl
@[simp] theorem takeException_fcr31 (x : Exc) : (takeException x s).fcr31 = s.fcr31 := rfl
@[simp] theorem takeException_tlb (x : Exc) : (takeException x s).tlb = s.tlb := rfl
@[simp] theorem takeException_icache (x : Exc) : (takeException x s).icache = s.icache := rfl
@[simp] theorem takeException_dcache (x : Exc) : (takeException x s).dcache = s.dcache := rfl
@[simp] theorem takeException_wbuf (x : Exc) : (takeException x s).wbuf = s.wbuf := rfl
@[simp] theorem takeException_mem (x : Exc) : (takeException x s).mem = s.mem := rfl
@[simp] theorem takeException_plat (x : Exc) : (takeException x s).plat = s.plat := rfl
@[simp] theorem takeException_env (x : Exc) : (takeException x s).env = s.env := rfl
@[simp] theorem takeException_straps (x : Exc) : (takeException x s).straps = s.straps := rfl
@[simp] theorem takeException_lateError (x : Exc) : (takeException x s).lateError = s.lateError := rfl
@[simp] theorem takeException_ahead (x : Exc) : (takeException x s).ahead = s.ahead := rfl
@[simp] theorem takeException_params (x : Exc) : (takeException x s).params = s.params := rfl
@[simp] theorem takeException_free (x : Exc) : (takeException x s).free = s.free := rfl
@[simp] theorem takeException_stepPending (x : Exc) : (takeException x s).stepPending = s.stepPending := rfl
@[simp] theorem takeException_choices (x : Exc) : (takeException x s).choices = s.choices := rfl

/-! ## `takeDebug` -/

@[simp] theorem takeDebug_gpr (b : BitVec 32) : (takeDebug b s).gpr = s.gpr := rfl
@[simp] theorem takeDebug_hi (b : BitVec 32) : (takeDebug b s).hi = s.hi := rfl
@[simp] theorem takeDebug_lo (b : BitVec 32) : (takeDebug b s).lo = s.lo := rfl
@[simp] theorem takeDebug_llbit (b : BitVec 32) : (takeDebug b s).llbit = s.llbit := rfl
@[simp] theorem takeDebug_fgr (b : BitVec 32) : (takeDebug b s).fgr = s.fgr := rfl
@[simp] theorem takeDebug_fcr31 (b : BitVec 32) : (takeDebug b s).fcr31 = s.fcr31 := rfl
@[simp] theorem takeDebug_tlb (b : BitVec 32) : (takeDebug b s).tlb = s.tlb := rfl
@[simp] theorem takeDebug_icache (b : BitVec 32) : (takeDebug b s).icache = s.icache := rfl
@[simp] theorem takeDebug_dcache (b : BitVec 32) : (takeDebug b s).dcache = s.dcache := rfl
@[simp] theorem takeDebug_wbuf (b : BitVec 32) : (takeDebug b s).wbuf = s.wbuf := rfl
@[simp] theorem takeDebug_mem (b : BitVec 32) : (takeDebug b s).mem = s.mem := rfl
@[simp] theorem takeDebug_plat (b : BitVec 32) : (takeDebug b s).plat = s.plat := rfl
@[simp] theorem takeDebug_env (b : BitVec 32) : (takeDebug b s).env = s.env := rfl
@[simp] theorem takeDebug_straps (b : BitVec 32) : (takeDebug b s).straps = s.straps := rfl
@[simp] theorem takeDebug_lateError (b : BitVec 32) : (takeDebug b s).lateError = s.lateError := rfl
@[simp] theorem takeDebug_ahead (b : BitVec 32) : (takeDebug b s).ahead = s.ahead := rfl
@[simp] theorem takeDebug_params (b : BitVec 32) : (takeDebug b s).params = s.params := rfl
@[simp] theorem takeDebug_free (b : BitVec 32) : (takeDebug b s).free = s.free := rfl
@[simp] theorem takeDebug_stepPending (b : BitVec 32) : (takeDebug b s).stepPending = s.stepPending := rfl
@[simp] theorem takeDebug_choices (b : BitVec 32) : (takeDebug b s).choices = s.choices := rfl

/-! ## `resetEntry` -/

@[simp] theorem State.resetEntry_gpr : s.resetEntry.gpr = s.gpr := rfl
@[simp] theorem State.resetEntry_hi : s.resetEntry.hi = s.hi := rfl
@[simp] theorem State.resetEntry_lo : s.resetEntry.lo = s.lo := rfl
@[simp] theorem State.resetEntry_llbit : s.resetEntry.llbit = s.llbit := rfl
@[simp] theorem State.resetEntry_fgr : s.resetEntry.fgr = s.fgr := rfl
@[simp] theorem State.resetEntry_fcr31 : s.resetEntry.fcr31 = s.fcr31 := rfl
@[simp] theorem State.resetEntry_tlb : s.resetEntry.tlb = s.tlb := rfl
@[simp] theorem State.resetEntry_icache : s.resetEntry.icache = s.icache := rfl
@[simp] theorem State.resetEntry_dcache : s.resetEntry.dcache = s.dcache := rfl
@[simp] theorem State.resetEntry_wbuf : s.resetEntry.wbuf = s.wbuf := rfl
@[simp] theorem State.resetEntry_mem : s.resetEntry.mem = s.mem := rfl
@[simp] theorem State.resetEntry_plat : s.resetEntry.plat = s.plat := rfl
@[simp] theorem State.resetEntry_env : s.resetEntry.env = s.env := rfl
@[simp] theorem State.resetEntry_straps : s.resetEntry.straps = s.straps := rfl
@[simp] theorem State.resetEntry_lateError : s.resetEntry.lateError = s.lateError := rfl
@[simp] theorem State.resetEntry_ahead : s.resetEntry.ahead = s.ahead := rfl
@[simp] theorem State.resetEntry_params : s.resetEntry.params = s.params := rfl
@[simp] theorem State.resetEntry_free : s.resetEntry.free = s.free := rfl
@[simp] theorem State.resetEntry_stepPending : s.resetEntry.stepPending = s.stepPending := rfl
@[simp] theorem State.resetEntry_choices : s.resetEntry.choices = s.choices := rfl

/-! ## `takeNmi` -/

@[simp] theorem takeNmi_gpr : (takeNmi s).gpr = s.gpr := rfl
@[simp] theorem takeNmi_hi : (takeNmi s).hi = s.hi := rfl
@[simp] theorem takeNmi_lo : (takeNmi s).lo = s.lo := rfl
@[simp] theorem takeNmi_llbit : (takeNmi s).llbit = s.llbit := rfl
@[simp] theorem takeNmi_fgr : (takeNmi s).fgr = s.fgr := rfl
@[simp] theorem takeNmi_fcr31 : (takeNmi s).fcr31 = s.fcr31 := rfl
@[simp] theorem takeNmi_tlb : (takeNmi s).tlb = s.tlb := rfl
@[simp] theorem takeNmi_icache : (takeNmi s).icache = s.icache := rfl
@[simp] theorem takeNmi_dcache : (takeNmi s).dcache = s.dcache := rfl
@[simp] theorem takeNmi_wbuf : (takeNmi s).wbuf = s.wbuf := rfl
@[simp] theorem takeNmi_mem : (takeNmi s).mem = s.mem := rfl
@[simp] theorem takeNmi_env : (takeNmi s).env = s.env := rfl
@[simp] theorem takeNmi_straps : (takeNmi s).straps = s.straps := rfl
@[simp] theorem takeNmi_lateError : (takeNmi s).lateError = s.lateError := rfl
@[simp] theorem takeNmi_ahead : (takeNmi s).ahead = s.ahead := rfl
@[simp] theorem takeNmi_params : (takeNmi s).params = s.params := rfl
@[simp] theorem takeNmi_free : (takeNmi s).free = s.free := rfl
@[simp] theorem takeNmi_stepPending : (takeNmi s).stepPending = s.stepPending := rfl
@[simp] theorem takeNmi_choices : (takeNmi s).choices = s.choices := rfl

/-! ## `flagMasked` -/

@[simp] theorem State.flagMasked_gpr (x : Exc) : (s.flagMasked x).gpr = s.gpr := rfl
@[simp] theorem State.flagMasked_hi (x : Exc) : (s.flagMasked x).hi = s.hi := rfl
@[simp] theorem State.flagMasked_lo (x : Exc) : (s.flagMasked x).lo = s.lo := rfl
@[simp] theorem State.flagMasked_pc (x : Exc) : (s.flagMasked x).pc = s.pc := rfl
@[simp] theorem State.flagMasked_delaySlot (x : Exc) : (s.flagMasked x).delaySlot = s.delaySlot := rfl
@[simp] theorem State.flagMasked_llbit (x : Exc) : (s.flagMasked x).llbit = s.llbit := rfl
@[simp] theorem State.flagMasked_fgr (x : Exc) : (s.flagMasked x).fgr = s.fgr := rfl
@[simp] theorem State.flagMasked_fcr31 (x : Exc) : (s.flagMasked x).fcr31 = s.fcr31 := rfl
@[simp] theorem State.flagMasked_tlb (x : Exc) : (s.flagMasked x).tlb = s.tlb := rfl
@[simp] theorem State.flagMasked_icache (x : Exc) : (s.flagMasked x).icache = s.icache := rfl
@[simp] theorem State.flagMasked_dcache (x : Exc) : (s.flagMasked x).dcache = s.dcache := rfl
@[simp] theorem State.flagMasked_wbuf (x : Exc) : (s.flagMasked x).wbuf = s.wbuf := rfl
@[simp] theorem State.flagMasked_mem (x : Exc) : (s.flagMasked x).mem = s.mem := rfl
@[simp] theorem State.flagMasked_plat (x : Exc) : (s.flagMasked x).plat = s.plat := rfl
@[simp] theorem State.flagMasked_env (x : Exc) : (s.flagMasked x).env = s.env := rfl
@[simp] theorem State.flagMasked_straps (x : Exc) : (s.flagMasked x).straps = s.straps := rfl
@[simp] theorem State.flagMasked_lateError (x : Exc) : (s.flagMasked x).lateError = s.lateError := rfl
@[simp] theorem State.flagMasked_ahead (x : Exc) : (s.flagMasked x).ahead = s.ahead := rfl
@[simp] theorem State.flagMasked_params (x : Exc) : (s.flagMasked x).params = s.params := rfl
@[simp] theorem State.flagMasked_free (x : Exc) : (s.flagMasked x).free = s.free := rfl
@[simp] theorem State.flagMasked_excTaken (x : Exc) : (s.flagMasked x).excTaken = s.excTaken := rfl
@[simp] theorem State.flagMasked_stepPending (x : Exc) : (s.flagMasked x).stepPending = s.stepPending := rfl
@[simp] theorem State.flagMasked_choices (x : Exc) : (s.flagMasked x).choices = s.choices := rfl

/-! ## `drainOne` -/

@[simp] theorem State.drainOne_gpr : s.drainOne.gpr = s.gpr := by unfold State.drainOne; split <;> rfl
@[simp] theorem State.drainOne_hi : s.drainOne.hi = s.hi := by unfold State.drainOne; split <;> rfl
@[simp] theorem State.drainOne_lo : s.drainOne.lo = s.lo := by unfold State.drainOne; split <;> rfl
@[simp] theorem State.drainOne_pc : s.drainOne.pc = s.pc := by unfold State.drainOne; split <;> rfl
@[simp] theorem State.drainOne_delaySlot : s.drainOne.delaySlot = s.delaySlot := by unfold State.drainOne; split <;> rfl
@[simp] theorem State.drainOne_llbit : s.drainOne.llbit = s.llbit := by unfold State.drainOne; split <;> rfl
@[simp] theorem State.drainOne_fgr : s.drainOne.fgr = s.fgr := by unfold State.drainOne; split <;> rfl
@[simp] theorem State.drainOne_fcr31 : s.drainOne.fcr31 = s.fcr31 := by unfold State.drainOne; split <;> rfl
@[simp] theorem State.drainOne_cp0 : s.drainOne.cp0 = s.cp0 := by unfold State.drainOne; split <;> rfl
@[simp] theorem State.drainOne_tlb : s.drainOne.tlb = s.tlb := by unfold State.drainOne; split <;> rfl
@[simp] theorem State.drainOne_icache : s.drainOne.icache = s.icache := by unfold State.drainOne; split <;> rfl
@[simp] theorem State.drainOne_dcache : s.drainOne.dcache = s.dcache := by unfold State.drainOne; split <;> rfl
@[simp] theorem State.drainOne_plat : s.drainOne.plat = s.plat := by unfold State.drainOne; split <;> rfl
@[simp] theorem State.drainOne_env : s.drainOne.env = s.env := by unfold State.drainOne; split <;> rfl
@[simp] theorem State.drainOne_straps : s.drainOne.straps = s.straps := by unfold State.drainOne; split <;> rfl
@[simp] theorem State.drainOne_lateError : s.drainOne.lateError = s.lateError := by unfold State.drainOne; split <;> rfl
@[simp] theorem State.drainOne_ahead : s.drainOne.ahead = s.ahead := by unfold State.drainOne; split <;> rfl
@[simp] theorem State.drainOne_params : s.drainOne.params = s.params := by unfold State.drainOne; split <;> rfl
@[simp] theorem State.drainOne_free : s.drainOne.free = s.free := by unfold State.drainOne; split <;> rfl
@[simp] theorem State.drainOne_excTaken : s.drainOne.excTaken = s.excTaken := by unfold State.drainOne; split <;> rfl
@[simp] theorem State.drainOne_stepPending : s.drainOne.stepPending = s.stepPending := by unfold State.drainOne; split <;> rfl
@[simp] theorem State.drainOne_choices : s.drainOne.choices = s.choices := by unfold State.drainOne; split <;> rfl

/-! ## `drainAll` -/

@[simp] theorem State.drainAll_gpr : s.drainAll.gpr = s.gpr := rfl
@[simp] theorem State.drainAll_hi : s.drainAll.hi = s.hi := rfl
@[simp] theorem State.drainAll_lo : s.drainAll.lo = s.lo := rfl
@[simp] theorem State.drainAll_pc : s.drainAll.pc = s.pc := rfl
@[simp] theorem State.drainAll_delaySlot : s.drainAll.delaySlot = s.delaySlot := rfl
@[simp] theorem State.drainAll_llbit : s.drainAll.llbit = s.llbit := rfl
@[simp] theorem State.drainAll_fgr : s.drainAll.fgr = s.fgr := rfl
@[simp] theorem State.drainAll_fcr31 : s.drainAll.fcr31 = s.fcr31 := rfl
@[simp] theorem State.drainAll_cp0 : s.drainAll.cp0 = s.cp0 := rfl
@[simp] theorem State.drainAll_tlb : s.drainAll.tlb = s.tlb := rfl
@[simp] theorem State.drainAll_icache : s.drainAll.icache = s.icache := rfl
@[simp] theorem State.drainAll_dcache : s.drainAll.dcache = s.dcache := rfl
@[simp] theorem State.drainAll_plat : s.drainAll.plat = s.plat := rfl
@[simp] theorem State.drainAll_env : s.drainAll.env = s.env := rfl
@[simp] theorem State.drainAll_straps : s.drainAll.straps = s.straps := rfl
@[simp] theorem State.drainAll_lateError : s.drainAll.lateError = s.lateError := rfl
@[simp] theorem State.drainAll_ahead : s.drainAll.ahead = s.ahead := rfl
@[simp] theorem State.drainAll_params : s.drainAll.params = s.params := rfl
@[simp] theorem State.drainAll_free : s.drainAll.free = s.free := rfl
@[simp] theorem State.drainAll_excTaken : s.drainAll.excTaken = s.excTaken := rfl
@[simp] theorem State.drainAll_stepPending : s.drainAll.stepPending = s.stepPending := rfl
@[simp] theorem State.drainAll_choices : s.drainAll.choices = s.choices := rfl

/-! ## `setCache` -/

@[simp] theorem State.setCache_gpr (c : CacheId) (v : Cache) : (s.setCache c v).gpr = s.gpr := by cases c <;> rfl
@[simp] theorem State.setCache_hi (c : CacheId) (v : Cache) : (s.setCache c v).hi = s.hi := by cases c <;> rfl
@[simp] theorem State.setCache_lo (c : CacheId) (v : Cache) : (s.setCache c v).lo = s.lo := by cases c <;> rfl
@[simp] theorem State.setCache_pc (c : CacheId) (v : Cache) : (s.setCache c v).pc = s.pc := by cases c <;> rfl
@[simp] theorem State.setCache_delaySlot (c : CacheId) (v : Cache) : (s.setCache c v).delaySlot = s.delaySlot := by cases c <;> rfl
@[simp] theorem State.setCache_llbit (c : CacheId) (v : Cache) : (s.setCache c v).llbit = s.llbit := by cases c <;> rfl
@[simp] theorem State.setCache_fgr (c : CacheId) (v : Cache) : (s.setCache c v).fgr = s.fgr := by cases c <;> rfl
@[simp] theorem State.setCache_fcr31 (c : CacheId) (v : Cache) : (s.setCache c v).fcr31 = s.fcr31 := by cases c <;> rfl
@[simp] theorem State.setCache_cp0 (c : CacheId) (v : Cache) : (s.setCache c v).cp0 = s.cp0 := by cases c <;> rfl
@[simp] theorem State.setCache_tlb (c : CacheId) (v : Cache) : (s.setCache c v).tlb = s.tlb := by cases c <;> rfl
@[simp] theorem State.setCache_wbuf (c : CacheId) (v : Cache) : (s.setCache c v).wbuf = s.wbuf := by cases c <;> rfl
@[simp] theorem State.setCache_mem (c : CacheId) (v : Cache) : (s.setCache c v).mem = s.mem := by cases c <;> rfl
@[simp] theorem State.setCache_plat (c : CacheId) (v : Cache) : (s.setCache c v).plat = s.plat := by cases c <;> rfl
@[simp] theorem State.setCache_env (c : CacheId) (v : Cache) : (s.setCache c v).env = s.env := by cases c <;> rfl
@[simp] theorem State.setCache_straps (c : CacheId) (v : Cache) : (s.setCache c v).straps = s.straps := by cases c <;> rfl
@[simp] theorem State.setCache_lateError (c : CacheId) (v : Cache) : (s.setCache c v).lateError = s.lateError := by cases c <;> rfl
@[simp] theorem State.setCache_ahead (c : CacheId) (v : Cache) : (s.setCache c v).ahead = s.ahead := by cases c <;> rfl
@[simp] theorem State.setCache_params (c : CacheId) (v : Cache) : (s.setCache c v).params = s.params := by cases c <;> rfl
@[simp] theorem State.setCache_free (c : CacheId) (v : Cache) : (s.setCache c v).free = s.free := by cases c <;> rfl
@[simp] theorem State.setCache_excTaken (c : CacheId) (v : Cache) : (s.setCache c v).excTaken = s.excTaken := by cases c <;> rfl
@[simp] theorem State.setCache_stepPending (c : CacheId) (v : Cache) : (s.setCache c v).stepPending = s.stepPending := by cases c <;> rfl
@[simp] theorem State.setCache_choices (c : CacheId) (v : Cache) : (s.setCache c v).choices = s.choices := by cases c <;> rfl

/-! ## `placeLine` -/

@[simp] theorem State.placeLine_gpr (c : CacheId) (set : BitVec 8) (way : BitVec 2) (tag : BitVec 24) (data : Vector Byte 32) (d : Bool) : (s.placeLine c set way tag data d).gpr = s.gpr := by cases c <;> rfl
@[simp] theorem State.placeLine_hi (c : CacheId) (set : BitVec 8) (way : BitVec 2) (tag : BitVec 24) (data : Vector Byte 32) (d : Bool) : (s.placeLine c set way tag data d).hi = s.hi := by cases c <;> rfl
@[simp] theorem State.placeLine_lo (c : CacheId) (set : BitVec 8) (way : BitVec 2) (tag : BitVec 24) (data : Vector Byte 32) (d : Bool) : (s.placeLine c set way tag data d).lo = s.lo := by cases c <;> rfl
@[simp] theorem State.placeLine_pc (c : CacheId) (set : BitVec 8) (way : BitVec 2) (tag : BitVec 24) (data : Vector Byte 32) (d : Bool) : (s.placeLine c set way tag data d).pc = s.pc := by cases c <;> rfl
@[simp] theorem State.placeLine_delaySlot (c : CacheId) (set : BitVec 8) (way : BitVec 2) (tag : BitVec 24) (data : Vector Byte 32) (d : Bool) : (s.placeLine c set way tag data d).delaySlot = s.delaySlot := by cases c <;> rfl
@[simp] theorem State.placeLine_llbit (c : CacheId) (set : BitVec 8) (way : BitVec 2) (tag : BitVec 24) (data : Vector Byte 32) (d : Bool) : (s.placeLine c set way tag data d).llbit = s.llbit := by cases c <;> rfl
@[simp] theorem State.placeLine_fgr (c : CacheId) (set : BitVec 8) (way : BitVec 2) (tag : BitVec 24) (data : Vector Byte 32) (d : Bool) : (s.placeLine c set way tag data d).fgr = s.fgr := by cases c <;> rfl
@[simp] theorem State.placeLine_fcr31 (c : CacheId) (set : BitVec 8) (way : BitVec 2) (tag : BitVec 24) (data : Vector Byte 32) (d : Bool) : (s.placeLine c set way tag data d).fcr31 = s.fcr31 := by cases c <;> rfl
@[simp] theorem State.placeLine_cp0 (c : CacheId) (set : BitVec 8) (way : BitVec 2) (tag : BitVec 24) (data : Vector Byte 32) (d : Bool) : (s.placeLine c set way tag data d).cp0 = s.cp0 := by cases c <;> rfl
@[simp] theorem State.placeLine_tlb (c : CacheId) (set : BitVec 8) (way : BitVec 2) (tag : BitVec 24) (data : Vector Byte 32) (d : Bool) : (s.placeLine c set way tag data d).tlb = s.tlb := by cases c <;> rfl
@[simp] theorem State.placeLine_wbuf (c : CacheId) (set : BitVec 8) (way : BitVec 2) (tag : BitVec 24) (data : Vector Byte 32) (d : Bool) : (s.placeLine c set way tag data d).wbuf = s.wbuf := by cases c <;> rfl
@[simp] theorem State.placeLine_mem (c : CacheId) (set : BitVec 8) (way : BitVec 2) (tag : BitVec 24) (data : Vector Byte 32) (d : Bool) : (s.placeLine c set way tag data d).mem = s.mem := by cases c <;> rfl
@[simp] theorem State.placeLine_plat (c : CacheId) (set : BitVec 8) (way : BitVec 2) (tag : BitVec 24) (data : Vector Byte 32) (d : Bool) : (s.placeLine c set way tag data d).plat = s.plat := by cases c <;> rfl
@[simp] theorem State.placeLine_env (c : CacheId) (set : BitVec 8) (way : BitVec 2) (tag : BitVec 24) (data : Vector Byte 32) (d : Bool) : (s.placeLine c set way tag data d).env = s.env := by cases c <;> rfl
@[simp] theorem State.placeLine_straps (c : CacheId) (set : BitVec 8) (way : BitVec 2) (tag : BitVec 24) (data : Vector Byte 32) (d : Bool) : (s.placeLine c set way tag data d).straps = s.straps := by cases c <;> rfl
@[simp] theorem State.placeLine_lateError (c : CacheId) (set : BitVec 8) (way : BitVec 2) (tag : BitVec 24) (data : Vector Byte 32) (d : Bool) : (s.placeLine c set way tag data d).lateError = s.lateError := by cases c <;> rfl
@[simp] theorem State.placeLine_ahead (c : CacheId) (set : BitVec 8) (way : BitVec 2) (tag : BitVec 24) (data : Vector Byte 32) (d : Bool) : (s.placeLine c set way tag data d).ahead = s.ahead := by cases c <;> rfl
@[simp] theorem State.placeLine_params (c : CacheId) (set : BitVec 8) (way : BitVec 2) (tag : BitVec 24) (data : Vector Byte 32) (d : Bool) : (s.placeLine c set way tag data d).params = s.params := by cases c <;> rfl
@[simp] theorem State.placeLine_free (c : CacheId) (set : BitVec 8) (way : BitVec 2) (tag : BitVec 24) (data : Vector Byte 32) (d : Bool) : (s.placeLine c set way tag data d).free = s.free := by cases c <;> rfl
@[simp] theorem State.placeLine_excTaken (c : CacheId) (set : BitVec 8) (way : BitVec 2) (tag : BitVec 24) (data : Vector Byte 32) (d : Bool) : (s.placeLine c set way tag data d).excTaken = s.excTaken := by cases c <;> rfl
@[simp] theorem State.placeLine_stepPending (c : CacheId) (set : BitVec 8) (way : BitVec 2) (tag : BitVec 24) (data : Vector Byte 32) (d : Bool) : (s.placeLine c set way tag data d).stepPending = s.stepPending := by cases c <;> rfl

/-! ## `dropLine` -/

@[simp] theorem State.dropLine_gpr (c : CacheId) (set : BitVec 8) (way : BitVec 2) : (s.dropLine c set way).gpr = s.gpr := by cases c <;> rfl
@[simp] theorem State.dropLine_hi (c : CacheId) (set : BitVec 8) (way : BitVec 2) : (s.dropLine c set way).hi = s.hi := by cases c <;> rfl
@[simp] theorem State.dropLine_lo (c : CacheId) (set : BitVec 8) (way : BitVec 2) : (s.dropLine c set way).lo = s.lo := by cases c <;> rfl
@[simp] theorem State.dropLine_pc (c : CacheId) (set : BitVec 8) (way : BitVec 2) : (s.dropLine c set way).pc = s.pc := by cases c <;> rfl
@[simp] theorem State.dropLine_delaySlot (c : CacheId) (set : BitVec 8) (way : BitVec 2) : (s.dropLine c set way).delaySlot = s.delaySlot := by cases c <;> rfl
@[simp] theorem State.dropLine_llbit (c : CacheId) (set : BitVec 8) (way : BitVec 2) : (s.dropLine c set way).llbit = s.llbit := by cases c <;> rfl
@[simp] theorem State.dropLine_fgr (c : CacheId) (set : BitVec 8) (way : BitVec 2) : (s.dropLine c set way).fgr = s.fgr := by cases c <;> rfl
@[simp] theorem State.dropLine_fcr31 (c : CacheId) (set : BitVec 8) (way : BitVec 2) : (s.dropLine c set way).fcr31 = s.fcr31 := by cases c <;> rfl
@[simp] theorem State.dropLine_cp0 (c : CacheId) (set : BitVec 8) (way : BitVec 2) : (s.dropLine c set way).cp0 = s.cp0 := by cases c <;> rfl
@[simp] theorem State.dropLine_tlb (c : CacheId) (set : BitVec 8) (way : BitVec 2) : (s.dropLine c set way).tlb = s.tlb := by cases c <;> rfl
@[simp] theorem State.dropLine_wbuf (c : CacheId) (set : BitVec 8) (way : BitVec 2) : (s.dropLine c set way).wbuf = s.wbuf := by cases c <;> rfl
@[simp] theorem State.dropLine_mem (c : CacheId) (set : BitVec 8) (way : BitVec 2) : (s.dropLine c set way).mem = s.mem := by cases c <;> rfl
@[simp] theorem State.dropLine_plat (c : CacheId) (set : BitVec 8) (way : BitVec 2) : (s.dropLine c set way).plat = s.plat := by cases c <;> rfl
@[simp] theorem State.dropLine_env (c : CacheId) (set : BitVec 8) (way : BitVec 2) : (s.dropLine c set way).env = s.env := by cases c <;> rfl
@[simp] theorem State.dropLine_straps (c : CacheId) (set : BitVec 8) (way : BitVec 2) : (s.dropLine c set way).straps = s.straps := by cases c <;> rfl
@[simp] theorem State.dropLine_lateError (c : CacheId) (set : BitVec 8) (way : BitVec 2) : (s.dropLine c set way).lateError = s.lateError := by cases c <;> rfl
@[simp] theorem State.dropLine_ahead (c : CacheId) (set : BitVec 8) (way : BitVec 2) : (s.dropLine c set way).ahead = s.ahead := by cases c <;> rfl
@[simp] theorem State.dropLine_params (c : CacheId) (set : BitVec 8) (way : BitVec 2) : (s.dropLine c set way).params = s.params := by cases c <;> rfl
@[simp] theorem State.dropLine_free (c : CacheId) (set : BitVec 8) (way : BitVec 2) : (s.dropLine c set way).free = s.free := by cases c <;> rfl
@[simp] theorem State.dropLine_excTaken (c : CacheId) (set : BitVec 8) (way : BitVec 2) : (s.dropLine c set way).excTaken = s.excTaken := by cases c <;> rfl
@[simp] theorem State.dropLine_stepPending (c : CacheId) (set : BitVec 8) (way : BitVec 2) : (s.dropLine c set way).stepPending = s.stepPending := by cases c <;> rfl
@[simp] theorem State.dropLine_choices (c : CacheId) (set : BitVec 8) (way : BitVec 2) : (s.dropLine c set way).choices = s.choices := by cases c <;> rfl

/-! ## `cleanLine` -/

@[simp] theorem State.cleanLine_gpr (c : CacheId) (set : BitVec 8) (way : BitVec 2) : (s.cleanLine c set way).gpr = s.gpr := by cases c <;> rfl
@[simp] theorem State.cleanLine_hi (c : CacheId) (set : BitVec 8) (way : BitVec 2) : (s.cleanLine c set way).hi = s.hi := by cases c <;> rfl
@[simp] theorem State.cleanLine_lo (c : CacheId) (set : BitVec 8) (way : BitVec 2) : (s.cleanLine c set way).lo = s.lo := by cases c <;> rfl
@[simp] theorem State.cleanLine_pc (c : CacheId) (set : BitVec 8) (way : BitVec 2) : (s.cleanLine c set way).pc = s.pc := by cases c <;> rfl
@[simp] theorem State.cleanLine_delaySlot (c : CacheId) (set : BitVec 8) (way : BitVec 2) : (s.cleanLine c set way).delaySlot = s.delaySlot := by cases c <;> rfl
@[simp] theorem State.cleanLine_llbit (c : CacheId) (set : BitVec 8) (way : BitVec 2) : (s.cleanLine c set way).llbit = s.llbit := by cases c <;> rfl
@[simp] theorem State.cleanLine_fgr (c : CacheId) (set : BitVec 8) (way : BitVec 2) : (s.cleanLine c set way).fgr = s.fgr := by cases c <;> rfl
@[simp] theorem State.cleanLine_fcr31 (c : CacheId) (set : BitVec 8) (way : BitVec 2) : (s.cleanLine c set way).fcr31 = s.fcr31 := by cases c <;> rfl
@[simp] theorem State.cleanLine_cp0 (c : CacheId) (set : BitVec 8) (way : BitVec 2) : (s.cleanLine c set way).cp0 = s.cp0 := by cases c <;> rfl
@[simp] theorem State.cleanLine_tlb (c : CacheId) (set : BitVec 8) (way : BitVec 2) : (s.cleanLine c set way).tlb = s.tlb := by cases c <;> rfl
@[simp] theorem State.cleanLine_wbuf (c : CacheId) (set : BitVec 8) (way : BitVec 2) : (s.cleanLine c set way).wbuf = s.wbuf := by cases c <;> rfl
@[simp] theorem State.cleanLine_mem (c : CacheId) (set : BitVec 8) (way : BitVec 2) : (s.cleanLine c set way).mem = s.mem := by cases c <;> rfl
@[simp] theorem State.cleanLine_plat (c : CacheId) (set : BitVec 8) (way : BitVec 2) : (s.cleanLine c set way).plat = s.plat := by cases c <;> rfl
@[simp] theorem State.cleanLine_env (c : CacheId) (set : BitVec 8) (way : BitVec 2) : (s.cleanLine c set way).env = s.env := by cases c <;> rfl
@[simp] theorem State.cleanLine_straps (c : CacheId) (set : BitVec 8) (way : BitVec 2) : (s.cleanLine c set way).straps = s.straps := by cases c <;> rfl
@[simp] theorem State.cleanLine_lateError (c : CacheId) (set : BitVec 8) (way : BitVec 2) : (s.cleanLine c set way).lateError = s.lateError := by cases c <;> rfl
@[simp] theorem State.cleanLine_ahead (c : CacheId) (set : BitVec 8) (way : BitVec 2) : (s.cleanLine c set way).ahead = s.ahead := by cases c <;> rfl
@[simp] theorem State.cleanLine_params (c : CacheId) (set : BitVec 8) (way : BitVec 2) : (s.cleanLine c set way).params = s.params := by cases c <;> rfl
@[simp] theorem State.cleanLine_free (c : CacheId) (set : BitVec 8) (way : BitVec 2) : (s.cleanLine c set way).free = s.free := by cases c <;> rfl
@[simp] theorem State.cleanLine_excTaken (c : CacheId) (set : BitVec 8) (way : BitVec 2) : (s.cleanLine c set way).excTaken = s.excTaken := by cases c <;> rfl
@[simp] theorem State.cleanLine_stepPending (c : CacheId) (set : BitVec 8) (way : BitVec 2) : (s.cleanLine c set way).stepPending = s.stepPending := by cases c <;> rfl
@[simp] theorem State.cleanLine_choices (c : CacheId) (set : BitVec 8) (way : BitVec 2) : (s.cleanLine c set way).choices = s.choices := by cases c <;> rfl

/-! ## `moveFifo` -/

@[simp] theorem State.moveFifo_gpr (c : CacheId) (set : BitVec 8) : (s.moveFifo c set).gpr = s.gpr := by cases c <;> rfl
@[simp] theorem State.moveFifo_hi (c : CacheId) (set : BitVec 8) : (s.moveFifo c set).hi = s.hi := by cases c <;> rfl
@[simp] theorem State.moveFifo_lo (c : CacheId) (set : BitVec 8) : (s.moveFifo c set).lo = s.lo := by cases c <;> rfl
@[simp] theorem State.moveFifo_pc (c : CacheId) (set : BitVec 8) : (s.moveFifo c set).pc = s.pc := by cases c <;> rfl
@[simp] theorem State.moveFifo_delaySlot (c : CacheId) (set : BitVec 8) : (s.moveFifo c set).delaySlot = s.delaySlot := by cases c <;> rfl
@[simp] theorem State.moveFifo_llbit (c : CacheId) (set : BitVec 8) : (s.moveFifo c set).llbit = s.llbit := by cases c <;> rfl
@[simp] theorem State.moveFifo_fgr (c : CacheId) (set : BitVec 8) : (s.moveFifo c set).fgr = s.fgr := by cases c <;> rfl
@[simp] theorem State.moveFifo_fcr31 (c : CacheId) (set : BitVec 8) : (s.moveFifo c set).fcr31 = s.fcr31 := by cases c <;> rfl
@[simp] theorem State.moveFifo_cp0 (c : CacheId) (set : BitVec 8) : (s.moveFifo c set).cp0 = s.cp0 := by cases c <;> rfl
@[simp] theorem State.moveFifo_tlb (c : CacheId) (set : BitVec 8) : (s.moveFifo c set).tlb = s.tlb := by cases c <;> rfl
@[simp] theorem State.moveFifo_wbuf (c : CacheId) (set : BitVec 8) : (s.moveFifo c set).wbuf = s.wbuf := by cases c <;> rfl
@[simp] theorem State.moveFifo_mem (c : CacheId) (set : BitVec 8) : (s.moveFifo c set).mem = s.mem := by cases c <;> rfl
@[simp] theorem State.moveFifo_plat (c : CacheId) (set : BitVec 8) : (s.moveFifo c set).plat = s.plat := by cases c <;> rfl
@[simp] theorem State.moveFifo_env (c : CacheId) (set : BitVec 8) : (s.moveFifo c set).env = s.env := by cases c <;> rfl
@[simp] theorem State.moveFifo_straps (c : CacheId) (set : BitVec 8) : (s.moveFifo c set).straps = s.straps := by cases c <;> rfl
@[simp] theorem State.moveFifo_lateError (c : CacheId) (set : BitVec 8) : (s.moveFifo c set).lateError = s.lateError := by cases c <;> rfl
@[simp] theorem State.moveFifo_ahead (c : CacheId) (set : BitVec 8) : (s.moveFifo c set).ahead = s.ahead := by cases c <;> rfl
@[simp] theorem State.moveFifo_params (c : CacheId) (set : BitVec 8) : (s.moveFifo c set).params = s.params := by cases c <;> rfl
@[simp] theorem State.moveFifo_free (c : CacheId) (set : BitVec 8) : (s.moveFifo c set).free = s.free := by cases c <;> rfl
@[simp] theorem State.moveFifo_excTaken (c : CacheId) (set : BitVec 8) : (s.moveFifo c set).excTaken = s.excTaken := by cases c <;> rfl
@[simp] theorem State.moveFifo_stepPending (c : CacheId) (set : BitVec 8) : (s.moveFifo c set).stepPending = s.stepPending := by cases c <;> rfl

/-! ## `writeLine` -/

@[simp] theorem State.writeLine_gpr (set : BitVec 8) (way : BitVec 2) (o : BitVec 5) (b : List Byte) (d : Bool) : (s.writeLine set way o b d).gpr = s.gpr := rfl
@[simp] theorem State.writeLine_hi (set : BitVec 8) (way : BitVec 2) (o : BitVec 5) (b : List Byte) (d : Bool) : (s.writeLine set way o b d).hi = s.hi := rfl
@[simp] theorem State.writeLine_lo (set : BitVec 8) (way : BitVec 2) (o : BitVec 5) (b : List Byte) (d : Bool) : (s.writeLine set way o b d).lo = s.lo := rfl
@[simp] theorem State.writeLine_pc (set : BitVec 8) (way : BitVec 2) (o : BitVec 5) (b : List Byte) (d : Bool) : (s.writeLine set way o b d).pc = s.pc := rfl
@[simp] theorem State.writeLine_delaySlot (set : BitVec 8) (way : BitVec 2) (o : BitVec 5) (b : List Byte) (d : Bool) : (s.writeLine set way o b d).delaySlot = s.delaySlot := rfl
@[simp] theorem State.writeLine_llbit (set : BitVec 8) (way : BitVec 2) (o : BitVec 5) (b : List Byte) (d : Bool) : (s.writeLine set way o b d).llbit = s.llbit := rfl
@[simp] theorem State.writeLine_fgr (set : BitVec 8) (way : BitVec 2) (o : BitVec 5) (b : List Byte) (d : Bool) : (s.writeLine set way o b d).fgr = s.fgr := rfl
@[simp] theorem State.writeLine_fcr31 (set : BitVec 8) (way : BitVec 2) (o : BitVec 5) (b : List Byte) (d : Bool) : (s.writeLine set way o b d).fcr31 = s.fcr31 := rfl
@[simp] theorem State.writeLine_cp0 (set : BitVec 8) (way : BitVec 2) (o : BitVec 5) (b : List Byte) (d : Bool) : (s.writeLine set way o b d).cp0 = s.cp0 := rfl
@[simp] theorem State.writeLine_tlb (set : BitVec 8) (way : BitVec 2) (o : BitVec 5) (b : List Byte) (d : Bool) : (s.writeLine set way o b d).tlb = s.tlb := rfl
@[simp] theorem State.writeLine_icache (set : BitVec 8) (way : BitVec 2) (o : BitVec 5) (b : List Byte) (d : Bool) : (s.writeLine set way o b d).icache = s.icache := rfl
@[simp] theorem State.writeLine_wbuf (set : BitVec 8) (way : BitVec 2) (o : BitVec 5) (b : List Byte) (d : Bool) : (s.writeLine set way o b d).wbuf = s.wbuf := rfl
@[simp] theorem State.writeLine_mem (set : BitVec 8) (way : BitVec 2) (o : BitVec 5) (b : List Byte) (d : Bool) : (s.writeLine set way o b d).mem = s.mem := rfl
@[simp] theorem State.writeLine_plat (set : BitVec 8) (way : BitVec 2) (o : BitVec 5) (b : List Byte) (d : Bool) : (s.writeLine set way o b d).plat = s.plat := rfl
@[simp] theorem State.writeLine_env (set : BitVec 8) (way : BitVec 2) (o : BitVec 5) (b : List Byte) (d : Bool) : (s.writeLine set way o b d).env = s.env := rfl
@[simp] theorem State.writeLine_straps (set : BitVec 8) (way : BitVec 2) (o : BitVec 5) (b : List Byte) (d : Bool) : (s.writeLine set way o b d).straps = s.straps := rfl
@[simp] theorem State.writeLine_lateError (set : BitVec 8) (way : BitVec 2) (o : BitVec 5) (b : List Byte) (d : Bool) : (s.writeLine set way o b d).lateError = s.lateError := rfl
@[simp] theorem State.writeLine_ahead (set : BitVec 8) (way : BitVec 2) (o : BitVec 5) (b : List Byte) (d : Bool) : (s.writeLine set way o b d).ahead = s.ahead := rfl
@[simp] theorem State.writeLine_params (set : BitVec 8) (way : BitVec 2) (o : BitVec 5) (b : List Byte) (d : Bool) : (s.writeLine set way o b d).params = s.params := rfl
@[simp] theorem State.writeLine_free (set : BitVec 8) (way : BitVec 2) (o : BitVec 5) (b : List Byte) (d : Bool) : (s.writeLine set way o b d).free = s.free := rfl
@[simp] theorem State.writeLine_excTaken (set : BitVec 8) (way : BitVec 2) (o : BitVec 5) (b : List Byte) (d : Bool) : (s.writeLine set way o b d).excTaken = s.excTaken := rfl
@[simp] theorem State.writeLine_stepPending (set : BitVec 8) (way : BitVec 2) (o : BitVec 5) (b : List Byte) (d : Bool) : (s.writeLine set way o b d).stepPending = s.stepPending := rfl
@[simp] theorem State.writeLine_choices (set : BitVec 8) (way : BitVec 2) (o : BitVec 5) (b : List Byte) (d : Bool) : (s.writeLine set way o b d).choices = s.choices := rfl

/-! ## `setTlb` -/

@[simp] theorem State.setTlb_gpr (i : Fin 48) (e : TlbEntry) : (s.setTlb i e).gpr = s.gpr := rfl
@[simp] theorem State.setTlb_hi (i : Fin 48) (e : TlbEntry) : (s.setTlb i e).hi = s.hi := rfl
@[simp] theorem State.setTlb_lo (i : Fin 48) (e : TlbEntry) : (s.setTlb i e).lo = s.lo := rfl
@[simp] theorem State.setTlb_pc (i : Fin 48) (e : TlbEntry) : (s.setTlb i e).pc = s.pc := rfl
@[simp] theorem State.setTlb_delaySlot (i : Fin 48) (e : TlbEntry) : (s.setTlb i e).delaySlot = s.delaySlot := rfl
@[simp] theorem State.setTlb_llbit (i : Fin 48) (e : TlbEntry) : (s.setTlb i e).llbit = s.llbit := rfl
@[simp] theorem State.setTlb_fgr (i : Fin 48) (e : TlbEntry) : (s.setTlb i e).fgr = s.fgr := rfl
@[simp] theorem State.setTlb_fcr31 (i : Fin 48) (e : TlbEntry) : (s.setTlb i e).fcr31 = s.fcr31 := rfl
@[simp] theorem State.setTlb_cp0 (i : Fin 48) (e : TlbEntry) : (s.setTlb i e).cp0 = s.cp0 := rfl
@[simp] theorem State.setTlb_icache (i : Fin 48) (e : TlbEntry) : (s.setTlb i e).icache = s.icache := rfl
@[simp] theorem State.setTlb_dcache (i : Fin 48) (e : TlbEntry) : (s.setTlb i e).dcache = s.dcache := rfl
@[simp] theorem State.setTlb_wbuf (i : Fin 48) (e : TlbEntry) : (s.setTlb i e).wbuf = s.wbuf := rfl
@[simp] theorem State.setTlb_mem (i : Fin 48) (e : TlbEntry) : (s.setTlb i e).mem = s.mem := rfl
@[simp] theorem State.setTlb_plat (i : Fin 48) (e : TlbEntry) : (s.setTlb i e).plat = s.plat := rfl
@[simp] theorem State.setTlb_env (i : Fin 48) (e : TlbEntry) : (s.setTlb i e).env = s.env := rfl
@[simp] theorem State.setTlb_straps (i : Fin 48) (e : TlbEntry) : (s.setTlb i e).straps = s.straps := rfl
@[simp] theorem State.setTlb_lateError (i : Fin 48) (e : TlbEntry) : (s.setTlb i e).lateError = s.lateError := rfl
@[simp] theorem State.setTlb_ahead (i : Fin 48) (e : TlbEntry) : (s.setTlb i e).ahead = s.ahead := rfl
@[simp] theorem State.setTlb_params (i : Fin 48) (e : TlbEntry) : (s.setTlb i e).params = s.params := rfl
@[simp] theorem State.setTlb_free (i : Fin 48) (e : TlbEntry) : (s.setTlb i e).free = s.free := rfl
@[simp] theorem State.setTlb_excTaken (i : Fin 48) (e : TlbEntry) : (s.setTlb i e).excTaken = s.excTaken := rfl
@[simp] theorem State.setTlb_stepPending (i : Fin 48) (e : TlbEntry) : (s.setTlb i e).stepPending = s.stepPending := rfl
@[simp] theorem State.setTlb_choices (i : Fin 48) (e : TlbEntry) : (s.setTlb i e).choices = s.choices := rfl

/-! ## `sleep` -/

@[simp] theorem State.sleep_gpr : s.sleep.gpr = s.gpr := rfl
@[simp] theorem State.sleep_hi : s.sleep.hi = s.hi := rfl
@[simp] theorem State.sleep_lo : s.sleep.lo = s.lo := rfl
@[simp] theorem State.sleep_pc : s.sleep.pc = s.pc := rfl
@[simp] theorem State.sleep_delaySlot : s.sleep.delaySlot = s.delaySlot := rfl
@[simp] theorem State.sleep_llbit : s.sleep.llbit = s.llbit := rfl
@[simp] theorem State.sleep_fgr : s.sleep.fgr = s.fgr := rfl
@[simp] theorem State.sleep_fcr31 : s.sleep.fcr31 = s.fcr31 := rfl
@[simp] theorem State.sleep_cp0 : s.sleep.cp0 = s.cp0 := rfl
@[simp] theorem State.sleep_tlb : s.sleep.tlb = s.tlb := rfl
@[simp] theorem State.sleep_icache : s.sleep.icache = s.icache := rfl
@[simp] theorem State.sleep_dcache : s.sleep.dcache = s.dcache := rfl
@[simp] theorem State.sleep_wbuf : s.sleep.wbuf = s.wbuf := rfl
@[simp] theorem State.sleep_mem : s.sleep.mem = s.mem := rfl
@[simp] theorem State.sleep_env : s.sleep.env = s.env := rfl
@[simp] theorem State.sleep_straps : s.sleep.straps = s.straps := rfl
@[simp] theorem State.sleep_lateError : s.sleep.lateError = s.lateError := rfl
@[simp] theorem State.sleep_ahead : s.sleep.ahead = s.ahead := rfl
@[simp] theorem State.sleep_params : s.sleep.params = s.params := rfl
@[simp] theorem State.sleep_free : s.sleep.free = s.free := rfl
@[simp] theorem State.sleep_excTaken : s.sleep.excTaken = s.excTaken := rfl
@[simp] theorem State.sleep_stepPending : s.sleep.stepPending = s.stepPending := rfl
@[simp] theorem State.sleep_choices : s.sleep.choices = s.choices := rfl

/-! ## `link` -/

@[simp] theorem State.link_gpr (pa : PAddr) : (s.link pa).gpr = s.gpr := rfl
@[simp] theorem State.link_hi (pa : PAddr) : (s.link pa).hi = s.hi := rfl
@[simp] theorem State.link_lo (pa : PAddr) : (s.link pa).lo = s.lo := rfl
@[simp] theorem State.link_pc (pa : PAddr) : (s.link pa).pc = s.pc := rfl
@[simp] theorem State.link_delaySlot (pa : PAddr) : (s.link pa).delaySlot = s.delaySlot := rfl
@[simp] theorem State.link_fgr (pa : PAddr) : (s.link pa).fgr = s.fgr := rfl
@[simp] theorem State.link_fcr31 (pa : PAddr) : (s.link pa).fcr31 = s.fcr31 := rfl
@[simp] theorem State.link_tlb (pa : PAddr) : (s.link pa).tlb = s.tlb := rfl
@[simp] theorem State.link_icache (pa : PAddr) : (s.link pa).icache = s.icache := rfl
@[simp] theorem State.link_dcache (pa : PAddr) : (s.link pa).dcache = s.dcache := rfl
@[simp] theorem State.link_wbuf (pa : PAddr) : (s.link pa).wbuf = s.wbuf := rfl
@[simp] theorem State.link_mem (pa : PAddr) : (s.link pa).mem = s.mem := rfl
@[simp] theorem State.link_plat (pa : PAddr) : (s.link pa).plat = s.plat := rfl
@[simp] theorem State.link_env (pa : PAddr) : (s.link pa).env = s.env := rfl
@[simp] theorem State.link_straps (pa : PAddr) : (s.link pa).straps = s.straps := rfl
@[simp] theorem State.link_lateError (pa : PAddr) : (s.link pa).lateError = s.lateError := rfl
@[simp] theorem State.link_ahead (pa : PAddr) : (s.link pa).ahead = s.ahead := rfl
@[simp] theorem State.link_params (pa : PAddr) : (s.link pa).params = s.params := rfl
@[simp] theorem State.link_free (pa : PAddr) : (s.link pa).free = s.free := rfl
@[simp] theorem State.link_excTaken (pa : PAddr) : (s.link pa).excTaken = s.excTaken := rfl
@[simp] theorem State.link_stepPending (pa : PAddr) : (s.link pa).stepPending = s.stepPending := rfl
@[simp] theorem State.link_choices (pa : PAddr) : (s.link pa).choices = s.choices := rfl

/-! ## `setCh` -/

@[simp] theorem State.setCh_gpr (b : Bool) : (s.setCh b).gpr = s.gpr := rfl
@[simp] theorem State.setCh_hi (b : Bool) : (s.setCh b).hi = s.hi := rfl
@[simp] theorem State.setCh_lo (b : Bool) : (s.setCh b).lo = s.lo := rfl
@[simp] theorem State.setCh_pc (b : Bool) : (s.setCh b).pc = s.pc := rfl
@[simp] theorem State.setCh_delaySlot (b : Bool) : (s.setCh b).delaySlot = s.delaySlot := rfl
@[simp] theorem State.setCh_llbit (b : Bool) : (s.setCh b).llbit = s.llbit := rfl
@[simp] theorem State.setCh_fgr (b : Bool) : (s.setCh b).fgr = s.fgr := rfl
@[simp] theorem State.setCh_fcr31 (b : Bool) : (s.setCh b).fcr31 = s.fcr31 := rfl
@[simp] theorem State.setCh_tlb (b : Bool) : (s.setCh b).tlb = s.tlb := rfl
@[simp] theorem State.setCh_icache (b : Bool) : (s.setCh b).icache = s.icache := rfl
@[simp] theorem State.setCh_dcache (b : Bool) : (s.setCh b).dcache = s.dcache := rfl
@[simp] theorem State.setCh_wbuf (b : Bool) : (s.setCh b).wbuf = s.wbuf := rfl
@[simp] theorem State.setCh_mem (b : Bool) : (s.setCh b).mem = s.mem := rfl
@[simp] theorem State.setCh_plat (b : Bool) : (s.setCh b).plat = s.plat := rfl
@[simp] theorem State.setCh_env (b : Bool) : (s.setCh b).env = s.env := rfl
@[simp] theorem State.setCh_straps (b : Bool) : (s.setCh b).straps = s.straps := rfl
@[simp] theorem State.setCh_lateError (b : Bool) : (s.setCh b).lateError = s.lateError := rfl
@[simp] theorem State.setCh_ahead (b : Bool) : (s.setCh b).ahead = s.ahead := rfl
@[simp] theorem State.setCh_params (b : Bool) : (s.setCh b).params = s.params := rfl
@[simp] theorem State.setCh_free (b : Bool) : (s.setCh b).free = s.free := rfl
@[simp] theorem State.setCh_excTaken (b : Bool) : (s.setCh b).excTaken = s.excTaken := rfl
@[simp] theorem State.setCh_stepPending (b : Bool) : (s.setCh b).stepPending = s.stepPending := rfl
@[simp] theorem State.setCh_choices (b : Bool) : (s.setCh b).choices = s.choices := rfl

/-! ## `writeStatus` -/

@[simp] theorem State.writeStatus_gpr (v : Word) : (s.writeStatus v).gpr = s.gpr := by unfold State.writeStatus; dsimp only; split <;> simp only [State.spoilFgrs_gpr]
@[simp] theorem State.writeStatus_hi (v : Word) : (s.writeStatus v).hi = s.hi := by unfold State.writeStatus; dsimp only; split <;> simp only [State.spoilFgrs_hi]
@[simp] theorem State.writeStatus_lo (v : Word) : (s.writeStatus v).lo = s.lo := by unfold State.writeStatus; dsimp only; split <;> simp only [State.spoilFgrs_lo]
@[simp] theorem State.writeStatus_pc (v : Word) : (s.writeStatus v).pc = s.pc := by unfold State.writeStatus; dsimp only; split <;> simp only [State.spoilFgrs_pc]
@[simp] theorem State.writeStatus_delaySlot (v : Word) : (s.writeStatus v).delaySlot = s.delaySlot := by unfold State.writeStatus; dsimp only; split <;> simp only [State.spoilFgrs_delaySlot]
@[simp] theorem State.writeStatus_llbit (v : Word) : (s.writeStatus v).llbit = s.llbit := by unfold State.writeStatus; dsimp only; split <;> simp only [State.spoilFgrs_llbit]
@[simp] theorem State.writeStatus_fcr31 (v : Word) : (s.writeStatus v).fcr31 = s.fcr31 := by unfold State.writeStatus; dsimp only; split <;> simp only [State.spoilFgrs_fcr31]
@[simp] theorem State.writeStatus_tlb (v : Word) : (s.writeStatus v).tlb = s.tlb := by unfold State.writeStatus; dsimp only; split <;> simp only [State.spoilFgrs_tlb]
@[simp] theorem State.writeStatus_icache (v : Word) : (s.writeStatus v).icache = s.icache := by unfold State.writeStatus; dsimp only; split <;> simp only [State.spoilFgrs_icache]
@[simp] theorem State.writeStatus_dcache (v : Word) : (s.writeStatus v).dcache = s.dcache := by unfold State.writeStatus; dsimp only; split <;> simp only [State.spoilFgrs_dcache]
@[simp] theorem State.writeStatus_wbuf (v : Word) : (s.writeStatus v).wbuf = s.wbuf := by unfold State.writeStatus; dsimp only; split <;> simp only [State.spoilFgrs_wbuf]
@[simp] theorem State.writeStatus_mem (v : Word) : (s.writeStatus v).mem = s.mem := by unfold State.writeStatus; dsimp only; split <;> simp only [State.spoilFgrs_mem]
@[simp] theorem State.writeStatus_plat (v : Word) : (s.writeStatus v).plat = s.plat := by unfold State.writeStatus; dsimp only; split <;> simp only [State.spoilFgrs_plat]
@[simp] theorem State.writeStatus_env (v : Word) : (s.writeStatus v).env = s.env := by unfold State.writeStatus; dsimp only; split <;> simp only [State.spoilFgrs_env]
@[simp] theorem State.writeStatus_straps (v : Word) : (s.writeStatus v).straps = s.straps := by unfold State.writeStatus; dsimp only; split <;> simp only [State.spoilFgrs_straps]
@[simp] theorem State.writeStatus_lateError (v : Word) : (s.writeStatus v).lateError = s.lateError := by unfold State.writeStatus; dsimp only; split <;> simp only [State.spoilFgrs_lateError]
@[simp] theorem State.writeStatus_ahead (v : Word) : (s.writeStatus v).ahead = s.ahead := by unfold State.writeStatus; dsimp only; split <;> simp only [State.spoilFgrs_ahead]
@[simp] theorem State.writeStatus_params (v : Word) : (s.writeStatus v).params = s.params := by unfold State.writeStatus; dsimp only; split <;> simp only [State.spoilFgrs_params]
@[simp] theorem State.writeStatus_free (v : Word) : (s.writeStatus v).free = s.free := by unfold State.writeStatus; dsimp only; split <;> simp only [State.spoilFgrs_free]
@[simp] theorem State.writeStatus_excTaken (v : Word) : (s.writeStatus v).excTaken = s.excTaken := by unfold State.writeStatus; dsimp only; split <;> simp only [State.spoilFgrs_excTaken]
@[simp] theorem State.writeStatus_stepPending (v : Word) : (s.writeStatus v).stepPending = s.stepPending := by unfold State.writeStatus; dsimp only; split <;> simp only [State.spoilFgrs_stepPending]
@[simp] theorem State.writeStatus_choices (v : Word) : (s.writeStatus v).choices = s.choices := by unfold State.writeStatus; dsimp only; split <;> simp only [State.spoilFgrs_choices]

/-! ## `writeCount` -/

@[simp] theorem State.writeCount_gpr (v : Word) : (s.writeCount v).gpr = s.gpr := rfl
@[simp] theorem State.writeCount_hi (v : Word) : (s.writeCount v).hi = s.hi := rfl
@[simp] theorem State.writeCount_lo (v : Word) : (s.writeCount v).lo = s.lo := rfl
@[simp] theorem State.writeCount_pc (v : Word) : (s.writeCount v).pc = s.pc := rfl
@[simp] theorem State.writeCount_delaySlot (v : Word) : (s.writeCount v).delaySlot = s.delaySlot := rfl
@[simp] theorem State.writeCount_llbit (v : Word) : (s.writeCount v).llbit = s.llbit := rfl
@[simp] theorem State.writeCount_fgr (v : Word) : (s.writeCount v).fgr = s.fgr := rfl
@[simp] theorem State.writeCount_fcr31 (v : Word) : (s.writeCount v).fcr31 = s.fcr31 := rfl
@[simp] theorem State.writeCount_tlb (v : Word) : (s.writeCount v).tlb = s.tlb := rfl
@[simp] theorem State.writeCount_icache (v : Word) : (s.writeCount v).icache = s.icache := rfl
@[simp] theorem State.writeCount_dcache (v : Word) : (s.writeCount v).dcache = s.dcache := rfl
@[simp] theorem State.writeCount_wbuf (v : Word) : (s.writeCount v).wbuf = s.wbuf := rfl
@[simp] theorem State.writeCount_mem (v : Word) : (s.writeCount v).mem = s.mem := rfl
@[simp] theorem State.writeCount_env (v : Word) : (s.writeCount v).env = s.env := rfl
@[simp] theorem State.writeCount_straps (v : Word) : (s.writeCount v).straps = s.straps := rfl
@[simp] theorem State.writeCount_lateError (v : Word) : (s.writeCount v).lateError = s.lateError := rfl
@[simp] theorem State.writeCount_ahead (v : Word) : (s.writeCount v).ahead = s.ahead := rfl
@[simp] theorem State.writeCount_params (v : Word) : (s.writeCount v).params = s.params := rfl
@[simp] theorem State.writeCount_free (v : Word) : (s.writeCount v).free = s.free := rfl
@[simp] theorem State.writeCount_excTaken (v : Word) : (s.writeCount v).excTaken = s.excTaken := rfl
@[simp] theorem State.writeCount_stepPending (v : Word) : (s.writeCount v).stepPending = s.stepPending := rfl
@[simp] theorem State.writeCount_choices (v : Word) : (s.writeCount v).choices = s.choices := rfl

/-! ## `writeCompare` -/

@[simp] theorem State.writeCompare_gpr (v : Word) : (s.writeCompare v).gpr = s.gpr := rfl
@[simp] theorem State.writeCompare_hi (v : Word) : (s.writeCompare v).hi = s.hi := rfl
@[simp] theorem State.writeCompare_lo (v : Word) : (s.writeCompare v).lo = s.lo := rfl
@[simp] theorem State.writeCompare_pc (v : Word) : (s.writeCompare v).pc = s.pc := rfl
@[simp] theorem State.writeCompare_delaySlot (v : Word) : (s.writeCompare v).delaySlot = s.delaySlot := rfl
@[simp] theorem State.writeCompare_llbit (v : Word) : (s.writeCompare v).llbit = s.llbit := rfl
@[simp] theorem State.writeCompare_fgr (v : Word) : (s.writeCompare v).fgr = s.fgr := rfl
@[simp] theorem State.writeCompare_fcr31 (v : Word) : (s.writeCompare v).fcr31 = s.fcr31 := rfl
@[simp] theorem State.writeCompare_tlb (v : Word) : (s.writeCompare v).tlb = s.tlb := rfl
@[simp] theorem State.writeCompare_icache (v : Word) : (s.writeCompare v).icache = s.icache := rfl
@[simp] theorem State.writeCompare_dcache (v : Word) : (s.writeCompare v).dcache = s.dcache := rfl
@[simp] theorem State.writeCompare_wbuf (v : Word) : (s.writeCompare v).wbuf = s.wbuf := rfl
@[simp] theorem State.writeCompare_mem (v : Word) : (s.writeCompare v).mem = s.mem := rfl
@[simp] theorem State.writeCompare_env (v : Word) : (s.writeCompare v).env = s.env := rfl
@[simp] theorem State.writeCompare_straps (v : Word) : (s.writeCompare v).straps = s.straps := rfl
@[simp] theorem State.writeCompare_lateError (v : Word) : (s.writeCompare v).lateError = s.lateError := rfl
@[simp] theorem State.writeCompare_ahead (v : Word) : (s.writeCompare v).ahead = s.ahead := rfl
@[simp] theorem State.writeCompare_params (v : Word) : (s.writeCompare v).params = s.params := rfl
@[simp] theorem State.writeCompare_free (v : Word) : (s.writeCompare v).free = s.free := rfl
@[simp] theorem State.writeCompare_excTaken (v : Word) : (s.writeCompare v).excTaken = s.excTaken := rfl
@[simp] theorem State.writeCompare_stepPending (v : Word) : (s.writeCompare v).stepPending = s.stepPending := rfl
@[simp] theorem State.writeCompare_choices (v : Word) : (s.writeCompare v).choices = s.choices := rfl

/-! ## `prepared` -/

@[simp] theorem State.prepared_gpr : s.prepared.gpr = s.gpr := rfl
@[simp] theorem State.prepared_hi : s.prepared.hi = s.hi := rfl
@[simp] theorem State.prepared_lo : s.prepared.lo = s.lo := rfl
@[simp] theorem State.prepared_pc : s.prepared.pc = s.pc := rfl
@[simp] theorem State.prepared_delaySlot : s.prepared.delaySlot = s.delaySlot := rfl
@[simp] theorem State.prepared_llbit : s.prepared.llbit = s.llbit := rfl
@[simp] theorem State.prepared_fgr : s.prepared.fgr = s.fgr := rfl
@[simp] theorem State.prepared_fcr31 : s.prepared.fcr31 = s.fcr31 := rfl
@[simp] theorem State.prepared_tlb : s.prepared.tlb = s.tlb := rfl
@[simp] theorem State.prepared_icache : s.prepared.icache = s.icache := rfl
@[simp] theorem State.prepared_dcache : s.prepared.dcache = s.dcache := rfl
@[simp] theorem State.prepared_wbuf : s.prepared.wbuf = s.wbuf := rfl
@[simp] theorem State.prepared_mem : s.prepared.mem = s.mem := rfl
@[simp] theorem State.prepared_env : s.prepared.env = s.env := rfl
@[simp] theorem State.prepared_straps : s.prepared.straps = s.straps := rfl
@[simp] theorem State.prepared_lateError : s.prepared.lateError = s.lateError := rfl
@[simp] theorem State.prepared_ahead : s.prepared.ahead = s.ahead := rfl
@[simp] theorem State.prepared_params : s.prepared.params = s.params := rfl
@[simp] theorem State.prepared_free : s.prepared.free = s.free := rfl
@[simp] theorem State.prepared_stepPending : s.prepared.stepPending = s.stepPending := rfl
@[simp] theorem State.prepared_choices : s.prepared.choices = s.choices := rfl
@[simp] theorem State.prepared_plat : s.prepared.plat = s.offHold.plat := rfl
@[simp] theorem State.prepared_excTaken : s.prepared.excTaken = s.excTaken := rfl

/-! ## `unstalled` -/

@[simp] theorem State.unstalled_gpr : s.unstalled.gpr = s.gpr := rfl
@[simp] theorem State.unstalled_hi : s.unstalled.hi = s.hi := rfl
@[simp] theorem State.unstalled_lo : s.unstalled.lo = s.lo := rfl
@[simp] theorem State.unstalled_pc : s.unstalled.pc = s.pc := rfl
@[simp] theorem State.unstalled_delaySlot : s.unstalled.delaySlot = s.delaySlot := rfl
@[simp] theorem State.unstalled_llbit : s.unstalled.llbit = s.llbit := rfl
@[simp] theorem State.unstalled_fgr : s.unstalled.fgr = s.fgr := rfl
@[simp] theorem State.unstalled_fcr31 : s.unstalled.fcr31 = s.fcr31 := rfl
@[simp] theorem State.unstalled_cp0 : s.unstalled.cp0 = s.cp0 := rfl
@[simp] theorem State.unstalled_tlb : s.unstalled.tlb = s.tlb := rfl
@[simp] theorem State.unstalled_icache : s.unstalled.icache = s.icache := rfl
@[simp] theorem State.unstalled_dcache : s.unstalled.dcache = s.dcache := rfl
@[simp] theorem State.unstalled_wbuf : s.unstalled.wbuf = s.wbuf := rfl
@[simp] theorem State.unstalled_lateError : s.unstalled.lateError = s.lateError := rfl
@[simp] theorem State.unstalled_ahead : s.unstalled.ahead = s.ahead := rfl
@[simp] theorem State.unstalled_mem : s.unstalled.mem = s.mem := rfl
@[simp] theorem State.unstalled_env : s.unstalled.env = s.env := rfl
@[simp] theorem State.unstalled_straps : s.unstalled.straps = s.straps := rfl
@[simp] theorem State.unstalled_params : s.unstalled.params = s.params := rfl
@[simp] theorem State.unstalled_free : s.unstalled.free = s.free := rfl
@[simp] theorem State.unstalled_stepPending : s.unstalled.stepPending = s.stepPending := rfl
@[simp] theorem State.unstalled_choices : s.unstalled.choices = s.choices := rfl

/-! ## `onHold` -/

@[simp] theorem State.onHold_gpr : s.onHold.gpr = s.gpr := rfl
@[simp] theorem State.onHold_hi : s.onHold.hi = s.hi := rfl
@[simp] theorem State.onHold_lo : s.onHold.lo = s.lo := rfl
@[simp] theorem State.onHold_pc : s.onHold.pc = s.pc := rfl
@[simp] theorem State.onHold_delaySlot : s.onHold.delaySlot = s.delaySlot := rfl
@[simp] theorem State.onHold_llbit : s.onHold.llbit = s.llbit := rfl
@[simp] theorem State.onHold_fgr : s.onHold.fgr = s.fgr := rfl
@[simp] theorem State.onHold_fcr31 : s.onHold.fcr31 = s.fcr31 := rfl
@[simp] theorem State.onHold_cp0 : s.onHold.cp0 = s.cp0 := rfl
@[simp] theorem State.onHold_tlb : s.onHold.tlb = s.tlb := rfl
@[simp] theorem State.onHold_icache : s.onHold.icache = s.icache := rfl
@[simp] theorem State.onHold_dcache : s.onHold.dcache = s.dcache := rfl
@[simp] theorem State.onHold_wbuf : s.onHold.wbuf = s.wbuf := rfl
@[simp] theorem State.onHold_lateError : s.onHold.lateError = s.lateError := rfl
@[simp] theorem State.onHold_ahead : s.onHold.ahead = s.ahead := rfl
@[simp] theorem State.onHold_mem : s.onHold.mem = s.mem := rfl
@[simp] theorem State.onHold_env : s.onHold.env = s.env := rfl
@[simp] theorem State.onHold_straps : s.onHold.straps = s.straps := rfl
@[simp] theorem State.onHold_params : s.onHold.params = s.params := rfl
@[simp] theorem State.onHold_free : s.onHold.free = s.free := rfl
@[simp] theorem State.onHold_excTaken : s.onHold.excTaken = s.excTaken := rfl
@[simp] theorem State.onHold_stepPending : s.onHold.stepPending = s.stepPending := rfl
@[simp] theorem State.onHold_choices : s.onHold.choices = s.choices := rfl

/-! ## `offHold` -/

@[simp] theorem State.offHold_gpr : s.offHold.gpr = s.gpr := rfl
@[simp] theorem State.offHold_hi : s.offHold.hi = s.hi := rfl
@[simp] theorem State.offHold_lo : s.offHold.lo = s.lo := rfl
@[simp] theorem State.offHold_pc : s.offHold.pc = s.pc := rfl
@[simp] theorem State.offHold_delaySlot : s.offHold.delaySlot = s.delaySlot := rfl
@[simp] theorem State.offHold_llbit : s.offHold.llbit = s.llbit := rfl
@[simp] theorem State.offHold_fgr : s.offHold.fgr = s.fgr := rfl
@[simp] theorem State.offHold_fcr31 : s.offHold.fcr31 = s.fcr31 := rfl
@[simp] theorem State.offHold_cp0 : s.offHold.cp0 = s.cp0 := rfl
@[simp] theorem State.offHold_tlb : s.offHold.tlb = s.tlb := rfl
@[simp] theorem State.offHold_icache : s.offHold.icache = s.icache := rfl
@[simp] theorem State.offHold_dcache : s.offHold.dcache = s.dcache := rfl
@[simp] theorem State.offHold_wbuf : s.offHold.wbuf = s.wbuf := rfl
@[simp] theorem State.offHold_lateError : s.offHold.lateError = s.lateError := rfl
@[simp] theorem State.offHold_ahead : s.offHold.ahead = s.ahead := rfl
@[simp] theorem State.offHold_mem : s.offHold.mem = s.mem := rfl
@[simp] theorem State.offHold_env : s.offHold.env = s.env := rfl
@[simp] theorem State.offHold_straps : s.offHold.straps = s.straps := rfl
@[simp] theorem State.offHold_params : s.offHold.params = s.params := rfl
@[simp] theorem State.offHold_free : s.offHold.free = s.free := rfl
@[simp] theorem State.offHold_excTaken : s.offHold.excTaken = s.excTaken := rfl
@[simp] theorem State.offHold_stepPending : s.offHold.stepPending = s.stepPending := rfl
@[simp] theorem State.offHold_choices : s.offHold.choices = s.choices := rfl

/-- With no read on hold nothing changes. -/
theorem State.offHold_of (h : s.plat.reading = false) : s.offHold = s := by
  unfold State.offHold
  rw [h, if_neg (by decide), ← h]

/-! ## `awaitWrites` -/

@[simp] theorem State.awaitWrites_gpr : s.awaitWrites.gpr = s.gpr := rfl
@[simp] theorem State.awaitWrites_hi : s.awaitWrites.hi = s.hi := rfl
@[simp] theorem State.awaitWrites_lo : s.awaitWrites.lo = s.lo := rfl
@[simp] theorem State.awaitWrites_pc : s.awaitWrites.pc = s.pc := rfl
@[simp] theorem State.awaitWrites_delaySlot : s.awaitWrites.delaySlot = s.delaySlot := rfl
@[simp] theorem State.awaitWrites_llbit : s.awaitWrites.llbit = s.llbit := rfl
@[simp] theorem State.awaitWrites_fgr : s.awaitWrites.fgr = s.fgr := rfl
@[simp] theorem State.awaitWrites_fcr31 : s.awaitWrites.fcr31 = s.fcr31 := rfl
@[simp] theorem State.awaitWrites_cp0 : s.awaitWrites.cp0 = s.cp0 := rfl
@[simp] theorem State.awaitWrites_tlb : s.awaitWrites.tlb = s.tlb := rfl
@[simp] theorem State.awaitWrites_icache : s.awaitWrites.icache = s.icache := rfl
@[simp] theorem State.awaitWrites_dcache : s.awaitWrites.dcache = s.dcache := rfl
@[simp] theorem State.awaitWrites_wbuf : s.awaitWrites.wbuf = s.wbuf := rfl
@[simp] theorem State.awaitWrites_lateError : s.awaitWrites.lateError = s.errorArrives.lateError := rfl
@[simp] theorem State.awaitWrites_plat : s.awaitWrites.plat = s.offHold.plat := rfl
@[simp] theorem State.awaitWrites_ahead : s.awaitWrites.ahead = s.ahead := rfl
@[simp] theorem State.awaitWrites_mem : s.awaitWrites.mem = s.mem := rfl
@[simp] theorem State.awaitWrites_env : s.awaitWrites.env = s.env := rfl
@[simp] theorem State.awaitWrites_straps : s.awaitWrites.straps = s.straps := rfl
@[simp] theorem State.awaitWrites_params : s.awaitWrites.params = s.params := rfl
@[simp] theorem State.awaitWrites_free : s.awaitWrites.free = s.free := rfl
@[simp] theorem State.awaitWrites_excTaken : s.awaitWrites.excTaken = s.excTaken := rfl
@[simp] theorem State.awaitWrites_stepPending : s.awaitWrites.stepPending = s.stepPending := rfl
@[simp] theorem State.awaitWrites_choices : s.awaitWrites.choices = s.choices := rfl

/-! ## `spoilDest` -/

@[simp] theorem State.spoilDest_hi (d : LoadDest) (v : DWord) : (s.spoilDest d v).hi = s.hi := by unfold State.spoilDest; split <;> [simp only [State.setGpr_hi]; (split <;> rfl); simp only [State.setFpr64_hi]]
@[simp] theorem State.spoilDest_lo (d : LoadDest) (v : DWord) : (s.spoilDest d v).lo = s.lo := by unfold State.spoilDest; split <;> [simp only [State.setGpr_lo]; (split <;> rfl); simp only [State.setFpr64_lo]]
@[simp] theorem State.spoilDest_pc (d : LoadDest) (v : DWord) : (s.spoilDest d v).pc = s.pc := by unfold State.spoilDest; split <;> [simp only [State.setGpr_pc]; (split <;> rfl); simp only [State.setFpr64_pc]]
@[simp] theorem State.spoilDest_delaySlot (d : LoadDest) (v : DWord) : (s.spoilDest d v).delaySlot = s.delaySlot := by unfold State.spoilDest; split <;> [simp only [State.setGpr_delaySlot]; (split <;> rfl); simp only [State.setFpr64_delaySlot]]
@[simp] theorem State.spoilDest_llbit (d : LoadDest) (v : DWord) : (s.spoilDest d v).llbit = s.llbit := by unfold State.spoilDest; split <;> [simp only [State.setGpr_llbit]; (split <;> rfl); simp only [State.setFpr64_llbit]]
@[simp] theorem State.spoilDest_fcr31 (d : LoadDest) (v : DWord) : (s.spoilDest d v).fcr31 = s.fcr31 := by unfold State.spoilDest; split <;> [simp only [State.setGpr_fcr31]; (split <;> rfl); simp only [State.setFpr64_fcr31]]
@[simp] theorem State.spoilDest_cp0 (d : LoadDest) (v : DWord) : (s.spoilDest d v).cp0 = s.cp0 := by unfold State.spoilDest; split <;> [simp only [State.setGpr_cp0]; (split <;> rfl); simp only [State.setFpr64_cp0]]
@[simp] theorem State.spoilDest_tlb (d : LoadDest) (v : DWord) : (s.spoilDest d v).tlb = s.tlb := by unfold State.spoilDest; split <;> [simp only [State.setGpr_tlb]; (split <;> rfl); simp only [State.setFpr64_tlb]]
@[simp] theorem State.spoilDest_icache (d : LoadDest) (v : DWord) : (s.spoilDest d v).icache = s.icache := by unfold State.spoilDest; split <;> [simp only [State.setGpr_icache]; (split <;> rfl); simp only [State.setFpr64_icache]]
@[simp] theorem State.spoilDest_dcache (d : LoadDest) (v : DWord) : (s.spoilDest d v).dcache = s.dcache := by unfold State.spoilDest; split <;> [simp only [State.setGpr_dcache]; (split <;> rfl); simp only [State.setFpr64_dcache]]
@[simp] theorem State.spoilDest_wbuf (d : LoadDest) (v : DWord) : (s.spoilDest d v).wbuf = s.wbuf := by unfold State.spoilDest; split <;> [simp only [State.setGpr_wbuf]; (split <;> rfl); simp only [State.setFpr64_wbuf]]
@[simp] theorem State.spoilDest_lateError (d : LoadDest) (v : DWord) : (s.spoilDest d v).lateError = s.lateError := by unfold State.spoilDest; split <;> [simp only [State.setGpr_lateError]; (split <;> rfl); simp only [State.setFpr64_lateError]]
@[simp] theorem State.spoilDest_ahead (d : LoadDest) (v : DWord) : (s.spoilDest d v).ahead = s.ahead := by unfold State.spoilDest; split <;> [simp only [State.setGpr_ahead]; (split <;> rfl); simp only [State.setFpr64_ahead]]
@[simp] theorem State.spoilDest_mem (d : LoadDest) (v : DWord) : (s.spoilDest d v).mem = s.mem := by unfold State.spoilDest; split <;> [simp only [State.setGpr_mem]; (split <;> rfl); simp only [State.setFpr64_mem]]
@[simp] theorem State.spoilDest_plat (d : LoadDest) (v : DWord) : (s.spoilDest d v).plat = s.plat := by unfold State.spoilDest; split <;> [simp only [State.setGpr_plat]; (split <;> rfl); simp only [State.setFpr64_plat]]
@[simp] theorem State.spoilDest_env (d : LoadDest) (v : DWord) : (s.spoilDest d v).env = s.env := by unfold State.spoilDest; split <;> [simp only [State.setGpr_env]; (split <;> rfl); simp only [State.setFpr64_env]]
@[simp] theorem State.spoilDest_straps (d : LoadDest) (v : DWord) : (s.spoilDest d v).straps = s.straps := by unfold State.spoilDest; split <;> [simp only [State.setGpr_straps]; (split <;> rfl); simp only [State.setFpr64_straps]]
@[simp] theorem State.spoilDest_params (d : LoadDest) (v : DWord) : (s.spoilDest d v).params = s.params := by unfold State.spoilDest; split <;> [simp only [State.setGpr_params]; (split <;> rfl); simp only [State.setFpr64_params]]
@[simp] theorem State.spoilDest_free (d : LoadDest) (v : DWord) : (s.spoilDest d v).free = s.free := by unfold State.spoilDest; split <;> [simp only [State.setGpr_free]; (split <;> rfl); simp only [State.setFpr64_free]]
@[simp] theorem State.spoilDest_excTaken (d : LoadDest) (v : DWord) : (s.spoilDest d v).excTaken = s.excTaken := by unfold State.spoilDest; split <;> [simp only [State.setGpr_excTaken]; (split <;> rfl); simp only [State.setFpr64_excTaken]]
@[simp] theorem State.spoilDest_stepPending (d : LoadDest) (v : DWord) : (s.spoilDest d v).stepPending = s.stepPending := by unfold State.spoilDest; split <;> [simp only [State.setGpr_stepPending]; (split <;> rfl); simp only [State.setFpr64_stepPending]]
@[simp] theorem State.spoilDest_choices (d : LoadDest) (v : DWord) : (s.spoilDest d v).choices = s.choices := by unfold State.spoilDest; split <;> [simp only [State.setGpr_choices]; (split <;> rfl); simp only [State.setFpr64_choices]]

/-! ## `settleLate` -/

@[simp] theorem State.settleLate_hi : s.settleLate.hi = s.hi := by unfold State.settleLate; split <;> simp only [State.spoilDest_hi]
@[simp] theorem State.settleLate_lo : s.settleLate.lo = s.lo := by unfold State.settleLate; split <;> simp only [State.spoilDest_lo]
@[simp] theorem State.settleLate_pc : s.settleLate.pc = s.pc := by unfold State.settleLate; split <;> simp only [State.spoilDest_pc]
@[simp] theorem State.settleLate_delaySlot : s.settleLate.delaySlot = s.delaySlot := by unfold State.settleLate; split <;> simp only [State.spoilDest_delaySlot]
@[simp] theorem State.settleLate_llbit : s.settleLate.llbit = s.llbit := by unfold State.settleLate; split <;> simp only [State.spoilDest_llbit]
@[simp] theorem State.settleLate_fcr31 : s.settleLate.fcr31 = s.fcr31 := by unfold State.settleLate; split <;> simp only [State.spoilDest_fcr31]
@[simp] theorem State.settleLate_cp0 : s.settleLate.cp0 = s.cp0 := by unfold State.settleLate; split <;> simp only [State.spoilDest_cp0]
@[simp] theorem State.settleLate_tlb : s.settleLate.tlb = s.tlb := by unfold State.settleLate; split <;> simp only [State.spoilDest_tlb]
@[simp] theorem State.settleLate_icache : s.settleLate.icache = s.icache := by unfold State.settleLate; split <;> simp only [State.spoilDest_icache]
@[simp] theorem State.settleLate_dcache : s.settleLate.dcache = s.dcache := by unfold State.settleLate; split <;> simp only [State.spoilDest_dcache]
@[simp] theorem State.settleLate_wbuf : s.settleLate.wbuf = s.wbuf := by unfold State.settleLate; split <;> simp only [State.spoilDest_wbuf]
@[simp] theorem State.settleLate_ahead : s.settleLate.ahead = s.ahead := by unfold State.settleLate; split <;> simp only [State.spoilDest_ahead]
@[simp] theorem State.settleLate_mem : s.settleLate.mem = s.mem := by unfold State.settleLate; split <;> simp only [State.spoilDest_mem]
@[simp] theorem State.settleLate_plat : s.settleLate.plat = s.plat := by unfold State.settleLate; split <;> simp only [State.spoilDest_plat]
@[simp] theorem State.settleLate_env : s.settleLate.env = s.env := by unfold State.settleLate; split <;> simp only [State.spoilDest_env]
@[simp] theorem State.settleLate_straps : s.settleLate.straps = s.straps := by unfold State.settleLate; split <;> simp only [State.spoilDest_straps]
@[simp] theorem State.settleLate_params : s.settleLate.params = s.params := by unfold State.settleLate; split <;> simp only [State.spoilDest_params]
@[simp] theorem State.settleLate_free : s.settleLate.free = s.free := by unfold State.settleLate; split <;> simp only [State.spoilDest_free]
@[simp] theorem State.settleLate_excTaken : s.settleLate.excTaken = s.excTaken := by unfold State.settleLate; split <;> simp only [State.spoilDest_excTaken]
@[simp] theorem State.settleLate_stepPending : s.settleLate.stepPending = s.stepPending := by unfold State.settleLate; split <;> simp only [State.spoilDest_stepPending]
@[simp] theorem State.settleLate_choices : s.settleLate.choices = s.choices := by unfold State.settleLate; split <;> simp only [State.spoilDest_choices]

/-! ## `backToLoad` -/

@[simp] theorem State.backToLoad_pc (e : LateError) : (s.backToLoad e).pc = e.pc := rfl
@[simp] theorem State.backToLoad_delaySlot (e : LateError) : (s.backToLoad e).delaySlot = e.delaySlot := rfl
@[simp] theorem State.backToLoad_llbit (e : LateError) : (s.backToLoad e).llbit = e.llbit := rfl
@[simp] theorem State.backToLoad_cp0 (e : LateError) : (s.backToLoad e).cp0 = { s.cp0 with llAddr := e.llAddr } := rfl
@[simp] theorem State.backToLoad_gpr (e : LateError) : (s.backToLoad e).gpr = s.gpr := rfl
@[simp] theorem State.backToLoad_hi (e : LateError) : (s.backToLoad e).hi = s.hi := rfl
@[simp] theorem State.backToLoad_lo (e : LateError) : (s.backToLoad e).lo = s.lo := rfl
@[simp] theorem State.backToLoad_fgr (e : LateError) : (s.backToLoad e).fgr = s.fgr := rfl
@[simp] theorem State.backToLoad_fcr31 (e : LateError) : (s.backToLoad e).fcr31 = s.fcr31 := rfl
@[simp] theorem State.backToLoad_tlb (e : LateError) : (s.backToLoad e).tlb = s.tlb := rfl
@[simp] theorem State.backToLoad_icache (e : LateError) : (s.backToLoad e).icache = s.icache := rfl
@[simp] theorem State.backToLoad_dcache (e : LateError) : (s.backToLoad e).dcache = s.dcache := rfl
@[simp] theorem State.backToLoad_wbuf (e : LateError) : (s.backToLoad e).wbuf = s.wbuf := rfl
@[simp] theorem State.backToLoad_lateError (e : LateError) : (s.backToLoad e).lateError = s.lateError := rfl
@[simp] theorem State.backToLoad_ahead (e : LateError) : (s.backToLoad e).ahead = s.ahead := rfl
@[simp] theorem State.backToLoad_mem (e : LateError) : (s.backToLoad e).mem = s.mem := rfl
@[simp] theorem State.backToLoad_plat (e : LateError) : (s.backToLoad e).plat = s.plat := rfl
@[simp] theorem State.backToLoad_env (e : LateError) : (s.backToLoad e).env = s.env := rfl
@[simp] theorem State.backToLoad_straps (e : LateError) : (s.backToLoad e).straps = s.straps := rfl
@[simp] theorem State.backToLoad_params (e : LateError) : (s.backToLoad e).params = s.params := rfl
@[simp] theorem State.backToLoad_free (e : LateError) : (s.backToLoad e).free = s.free := rfl
@[simp] theorem State.backToLoad_excTaken (e : LateError) : (s.backToLoad e).excTaken = s.excTaken := rfl
@[simp] theorem State.backToLoad_stepPending (e : LateError) : (s.backToLoad e).stepPending = s.stepPending := rfl
@[simp] theorem State.backToLoad_choices (e : LateError) : (s.backToLoad e).choices = s.choices := rfl

/-! ## The fields an update names -/

@[simp] theorem State.advance_pc : s.advance.pc = s.nextPc := rfl
@[simp] theorem State.advance_delaySlot : s.advance.delaySlot = none := rfl
@[simp] theorem State.branchTo_pc (a : DWord) : (s.branchTo a).pc = s.pc + 4#64 := rfl
@[simp] theorem State.branchTo_delaySlot (a : DWord) : (s.branchTo a).delaySlot = some a := rfl
@[simp] theorem State.skipSlot_pc : s.skipSlot.pc = s.pc + 8#64 := rfl
@[simp] theorem State.skipSlot_delaySlot : s.skipSlot.delaySlot = none := rfl
@[simp] theorem State.setHiLo_hi (h l : DWord) : (s.setHiLo h l).hi = h := rfl
@[simp] theorem State.setHiLo_lo (h l : DWord) : (s.setHiLo h l).lo = l := rfl
@[simp] theorem takeException_cp0 (x : Exc) : (takeException x s).cp0 = s.cp0After x := rfl
@[simp] theorem takeException_pc (x : Exc) : (takeException x s).pc = s.vectorBase + s.vectorOffset x := rfl
@[simp] theorem takeException_delaySlot (x : Exc) : (takeException x s).delaySlot = none := rfl
@[simp] theorem takeException_excTaken (x : Exc) : (takeException x s).excTaken = true := rfl
@[simp] theorem takeDebug_pc (b : BitVec 32) : (takeDebug b s).pc = s.debugVector := rfl
@[simp] theorem takeDebug_delaySlot (b : BitVec 32) : (takeDebug b s).delaySlot = none := rfl
@[simp] theorem takeDebug_excTaken (b : BitVec 32) : (takeDebug b s).excTaken = true := rfl
@[simp] theorem State.deret_pc : s.deret.pc = s.cp0.depc := rfl
@[simp] theorem State.link_llbit (pa : PAddr) : (s.link pa).llbit = true := rfl
@[simp] theorem State.drainAll_wbuf : s.drainAll.wbuf = [] := rfl
@[simp] theorem State.drainAll_mem : s.drainAll.mem = drainInto s.mem s.wbuf := rfl
@[simp] theorem State.settleLate_lateError : s.settleLate.lateError = none := by unfold State.settleLate; split <;> first | assumption | rfl

/-! ## Reading a register after an update -/

/-- A general register reads what was written to it; r0 reads 0. -/
theorem State.rget_setGpr_same (r : RegNum) (v : DWord) : (s.setGpr r v).rget r = if r = 0#5 then 0#64 else v := by
  unfold State.rget State.setGpr
  split <;> simp_all

/-- Writing one general register leaves every other as it was. -/
theorem State.rget_setGpr_other {r q : RegNum} (v : DWord) (h : q ≠ r) : (s.setGpr r v).rget q = s.rget q := by
  unfold State.rget State.setGpr
  have hn : r.toNat ≠ q.toNat := fun e => h (BitVec.eq_of_toNat_eq e.symm)
  split
  · rfl
  · split
    · rfl
    · simp [hn]

/-- Reading a general register depends on the registers alone. -/
theorem State.rget_congr {s t : State} (h : t.gpr = s.gpr) (q : RegNum) : t.rget q = s.rget q := by
  simp only [State.rget, h]

/-- Register r0 reads 0. -/
@[simp] theorem State.rget_zero : s.rget 0#5 = 0#64 := rfl

@[simp] theorem State.advance_rget (q : RegNum) : s.advance.rget q = s.rget q := rfl
@[simp] theorem State.branchTo_rget (a : DWord) (q : RegNum) : (s.branchTo a).rget q = s.rget q := rfl
@[simp] theorem State.skipSlot_rget (q : RegNum) : s.skipSlot.rget q = s.rget q := rfl
@[simp] theorem State.setHiLo_rget (h l : DWord) (q : RegNum) : (s.setHiLo h l).rget q = s.rget q := rfl
@[simp] theorem takeException_rget (x : Exc) (q : RegNum) : (takeException x s).rget q = s.rget q := rfl

/-- A floating-point register reads what was written to it. -/
@[simp] theorem State.fget_setFgr_same (f : FpRegNum) (v : DWord) : (s.setFgr f v).fget f = v := by
  simp [State.fget, State.setFgr]

/-- Writing one floating-point register leaves every other as it was. -/
theorem State.fget_setFgr_other {f g : FpRegNum} (v : DWord) (h : g ≠ f) : (s.setFgr f v).fget g = s.fget g := by
  have hn : f.toNat ≠ g.toNat := fun e => h (BitVec.eq_of_toNat_eq e.symm)
  simp [State.fget, State.setFgr, hn]

@[simp] theorem State.setCache_cache_same (c : CacheId) (v : Cache) : (s.setCache c v).cache c = v := by cases c <;> rfl

/-! ## The mode depends on the CP0 registers alone -/

theorem State.mode_congr {s t : State} (h : t.cp0 = s.cp0) : t.mode = s.mode := by
  unfold State.mode State.debugMode State.exl State.erl State.ksu
  rw [h]

theorem State.usable_congr {s t : State} (h : t.cp0 = s.cp0) (z : BitVec 2) : t.usable z = s.usable z := by
  simp only [State.usable, State.cu, State.mode_congr h, h]

theorem State.is64bitOps_congr {s t : State} (h : t.cp0 = s.cp0) : t.is64bitOps = s.is64bitOps := by
  simp only [State.is64bitOps, State.mode_congr h, State.sx, State.ux, h]

end Sys2Proof.Machine
end

