-- ==== Sys2Proof/Laws/Ops.lean ====
section
/-! SUPPORT. What each shared operation of an instruction can do, said once: the ordinary completions and the shapes of claims
they meet, the checks, the branches, and the outcomes of memory operations. -/

namespace Sys2Proof.Machine

/-! ## Physical bytes -/

theorem State.physByte_congr {s t : State} (hm : t.mem = s.mem) (hw : t.wbuf = s.wbuf) (a : PAddr) :
    t.physByte a = s.physByte a := by simp [State.physByte, hm, hw]

theorem State.sameBytes_of {s t : State} (hm : t.mem = s.mem) (hw : t.wbuf = s.wbuf) : s.sameBytes t :=
  State.physByte_congr hm hw

theorem State.drainOne_physByte (s : State) (a : PAddr) : s.drainOne.physByte a = s.physByte a := by
  unfold State.physByte State.drainOne
  split <;> simp_all [drainInto]

theorem State.drainAll_physByte (s : State) (a : PAddr) : s.drainAll.physByte a = s.physByte a := rfl

theorem drainInto_append (m : List Host.Cell) (es fs : List WbEntry) :
    drainInto m (es ++ fs) = drainInto (drainInto m es) fs := by
  induction es generalizing m with
  | nil => rfl
  | cons e es ih => exact ih _

/-! ## Ordinary completions -/

theorem State.advance_movedOn (s : State) : s.movedOn s.advance := ⟨rfl, rfl⟩

/-- An instruction that completes with `v` in GPR `r`. -/
theorem Computes.of_setReg {i : Instr} {s : State} {r : RegNum} {v : DWord} (h : exec i s = setReg r v s) :
    Computes i s r v := by
  refine ⟨_, h, ?_, ?_, ?_, ?_, ?_⟩
  · simp [State.rget_setGpr_same, gprHolds]
  · unfold State.setGpr; split <;> exact ⟨rfl, rfl⟩
  · intro q hq; simp [State.rget_setGpr_other s v hq]
  · unfold State.setGpr; split <;> rfl
  · apply State.sameBytes_of <;> simp

/-- An instruction that completes with `v` in GPR `r` after HI and LO took a product. -/
theorem ComputesProduct.of_setReg {i : Instr} {s : State} {r : RegNum} {hi lo : DWord}
    (h : exec i s = setReg r lo (s.setHiLo hi lo)) : ComputesProduct i s r hi lo := by
  refine ⟨_, h, ?_, ?_, ?_, ?_, ?_, ?_, ?_⟩
  · unfold State.setGpr; split <;> rfl
  · unfold State.setGpr; split <;> rfl
  · simp [State.rget_setGpr_same, gprHolds]
  · unfold State.setGpr; split <;> exact ⟨rfl, rfl⟩
  · intro q hq; simp [State.rget_setGpr_other _ _ hq]
  · unfold State.setGpr; split <;> rfl
  · apply State.sameBytes_of <;> simp

/-- An instruction that completes with nothing changed. -/
theorem DoesNothing.of_advance {i : Instr} {s : State} (h : exec i s = .next s.advance) : DoesNothing i s :=
  ⟨_, h, ⟨rfl, rfl⟩, rfl, State.sameBytes_of rfl rfl⟩

theorem BranchesTo.of_branchTo {i : Instr} {s : State} {a : DWord} (h : exec i s = .next (s.branchTo a)) :
    BranchesTo i s a := ⟨_, h, rfl, rfl, rfl, State.sameBytes_of rfl rfl⟩

theorem ContinuesAt.of_advance {i : Instr} {s : State} (h : exec i s = .next s.advance) (hs : s.delaySlot = none) :
    ContinuesAt i s (s.pc + 4#64) :=
  ⟨_, h, by simp [State.advance, State.nextPc, hs], rfl, rfl, State.sameBytes_of rfl rfl⟩

theorem ContinuesAt.of_skipSlot {i : Instr} {s : State} (h : exec i s = .next s.skipSlot) : ContinuesAt i s (s.pc + 8#64) :=
  ⟨_, h, rfl, rfl, rfl, State.sameBytes_of rfl rfl⟩

/-! ## Checks -/

theorem raise_of {x : Exc} {s : State} (h : s.debugMode = false) : raise x s = .next (takeException x s) := by
  simp [raise, h]

theorem raise_eq_next {x : Exc} {s t : State} (h : raise x s = .next t) :
    s.debugMode = false ∧ t = takeException x s := by
  unfold raise at h
  split at h
  · cases h
  · simp_all

theorem wide_of {s : State} {k : Out} (h : s.is64bitOps = true) : wide s k = k := by simp [wide, h]

theorem wide_of_not {s : State} {k : Out} (h : s.is64bitOps = false) : wide s k = raise .reservedInstruction s := by
  simp [wide, h]

/-- A checked 64-bit operation answers as its body, or raises Reserved Instruction. -/
theorem wide_cases {s : State} {k : Out} {o : Out} (h : wide s k = o) :
    (s.is64bitOps = true ∧ k = o) ∨ (s.is64bitOps = false ∧ raise .reservedInstruction s = o) := by
  unfold wide at h
  split at h <;> simp_all

theorem needs_of {z : BitVec 2} {s : State} {k : Out} (h : s.usable z = true) : needs z s k = k := by simp [needs, h]

theorem needs_of_not {z : BitVec 2} {s : State} {k : Out} (h : s.usable z = false) :
    needs z s k = raise (.copUnusable z) s := by simp [needs, h]

/-- An instruction of a coprocessor answers as its body, or raises Coprocessor Unusable. -/
theorem needs_cases {z : BitVec 2} {s : State} {k : Out} {o : Out} (h : needs z s k = o) :
    (s.usable z = true ∧ k = o) ∨ (s.usable z = false ∧ raise (.copUnusable z) s = o) := by
  unfold needs at h
  split at h <;> simp_all

theorem noSlot_of {s : State} {k : Out} (h : s.delaySlot = none) : noSlot s k = k := by simp [noSlot, h]

/-- A control transfer answers as its body, or stops in a delay slot. -/
theorem noSlot_cases {s : State} {k : Out} {o : Out} (h : noSlot s k = o) :
    (s.delaySlot = none ∧ k = o) ∨ (s.delaySlot.isSome = true ∧ o = .refused .delaySlotControl) := by
  unfold noSlot at h
  split at h
  · exact .inr ⟨by assumption, h.symm⟩
  · next hn => exact .inl ⟨by simpa using hn, h⟩

/-! ## Branches -/

theorem branch_of {s : State} (c : Bool) (offset : BitVec 16) (h : s.delaySlot = none) :
    branch c offset s = .next (if c then s.branchTo (branchTarget s.pc offset) else s.advance) := noSlot_of h

theorem branchLikely_of {s : State} (c : Bool) (offset : BitVec 16) (h : s.delaySlot = none) :
    branchLikely c offset s = .next (if c then s.branchTo (branchTarget s.pc offset) else s.skipSlot) := noSlot_of h

/-- An immediate sign-extended is the bit vector of its integer. -/
theorem sextImm_eq (imm : BitVec 16) : sextImm imm = BitVec.ofInt 64 imm.toInt := rfl

/-- The target of a relative branch as an integer sum (43_jump_branch.md R381). -/
theorem branchTarget_eq (s : State) (offset : BitVec 16) : branchTarget s.pc offset = s.relativeTarget offset := by
  unfold branchTarget State.relativeTarget
  rw [sextImm_eq, BitVec.shiftLeft_eq_mul_twoPow, BitVec.ofInt_add, BitVec.ofInt_add, BitVec.ofInt_mul,
    BitVec.ofInt_natCast, BitVec.ofNat_toNat, BitVec.setWidth_eq, BitVec.mul_comm]
  rfl

end Sys2Proof.Machine
end

