-- ==== Sys2Proof/Laws/Access.lean ====
section
/-! SUPPORT. What each memory operation can do, said once: the byte order, the write buffer, translation, uncached reads and
writes, and the loads and stores built on them. -/

namespace Sys2Proof.Machine

/-! ## Byte order -/

theorem bytesNat_lt (l : List Byte) : bytesNat l < 256 ^ l.length := by
  induction l with
  | nil => simp [bytesNat]
  | cons b l ih =>
    have := b.isLt
    simp only [bytesNat, List.length_cons, pow_succ]
    omega

theorem bytesNat_append (l m : List Byte) : bytesNat (l ++ m) = bytesNat l + 256 ^ l.length * bytesNat m := by
  induction l with
  | nil => simp [bytesNat]
  | cons b l ih => simp only [List.cons_append, bytesNat, ih, List.length_cons, pow_succ]; ring

theorem shift_or_byte (acc : DWord) (b : Byte) (h : acc.toNat < 2 ^ 56) :
    ((acc <<< 8) ||| b.setWidth 64).toNat = acc.toNat * 256 + b.toNat := by
  have hb := b.isLt
  have e : (acc.toNat <<< 8) % 2 ^ 64 = 2 ^ 8 * acc.toNat := by
    rw [Nat.shiftLeft_eq]
    omega
  rw [BitVec.toNat_or, BitVec.toNat_shiftLeft, BitVec.toNat_setWidth, e, Nat.mod_eq_of_lt (by omega),
    ← Nat.two_pow_add_eq_or_of_lt (by omega)]
  omega

theorem foldl_bytes (l : List Byte) (acc : DWord) (h : acc.toNat * 256 ^ l.length + bytesNat l.reverse < 2 ^ 64) :
    (l.foldl (fun (acc : DWord) (b : Byte) => (acc <<< 8) ||| b.setWidth 64) acc).toNat = acc.toNat * 256 ^ l.length + bytesNat l.reverse := by
  induction l generalizing acc with
  | nil => simp [bytesNat]
  | cons b l ih =>
    have hb := b.isLt
    simp only [List.reverse_cons, bytesNat_append, List.length_reverse, bytesNat, List.length_cons, pow_succ] at h ⊢
    have hpos : 0 < 256 ^ l.length := by positivity
    have hacc : acc.toNat < 2 ^ 56 := by
      by_contra hc
      have : 2 ^ 56 * 256 ≤ acc.toNat * (256 ^ l.length * 256) := Nat.mul_le_mul (by omega) (by omega)
      omega
    have e := shift_or_byte acc b hacc
    simp only [List.foldl_cons]
    rw [ih _ (by rw [e]; nlinarith), e]
    ring

/-- The value of bytes in a byte order. -/
theorem assemble_toNat (be : Bool) (l : List Byte) (h : l.length ≤ 8) :
    (assemble be l).toNat = bytesNat (if be then l.reverse else l) := by
  have key : ∀ m : List Byte, m.length ≤ 8 →
      (m.foldl (fun (acc : DWord) (b : Byte) => (acc <<< 8) ||| b.setWidth 64) (0#64)).toNat = bytesNat m.reverse := by
    intro m hm
    have hl := bytesNat_lt m.reverse
    have : 256 ^ m.reverse.length ≤ 256 ^ 8 := Nat.pow_le_pow_right (by norm_num) (by simpa using hm)
    rw [foldl_bytes m 0#64 (by simp; omega)]
    simp
  unfold assemble
  cases be
  · simpa using key l.reverse (by simpa using h)
  · simpa using key l h

theorem disassemble_length (be : Bool) (n : Nat) (v : DWord) : (disassemble be n v).length = n := by
  unfold disassemble
  cases be <;> simp

/-- Byte `i` of a value in a byte order. -/
theorem disassemble_get (be : Bool) (n : Nat) (v : DWord) (i : Nat) (h : i < (disassemble be n v).length) :
    (disassemble be n v)[i] = v.extractLsb' (8 * (if be then n - 1 - i else i)) 8 := by
  have hn := disassemble_length be n v
  unfold disassemble at h ⊢
  cases be <;> simp

theorem Memory.getBytes_eq (m : List Host.Cell) (a : PAddr) (n : Nat) :
    Memory.getBytes m a n = (List.range n).map fun i => Memory.get m (a + BitVec.ofNat 36 i) := by
  induction n generalizing a with
  | zero => rfl
  | succ n ih =>
    rw [Memory.getBytes, ih, List.range_succ_eq_map]
    simp only [List.map_cons, List.map_map]
    congr 1
    · simp
    · apply List.map_congr_left
      intro i _
      simp only [Function.comp]
      congr 1
      rw [BitVec.add_assoc]
      congr 1
      apply BitVec.eq_of_toNat_eq
      simp
      omega

/-! ## Memory results -/

/-- A memory operation that goes on answers with a value only if its first part does. -/
theorem Res.bind_ok {α β : Type} {r : Res α} {k : α → State → Res β} {v : β} {t : State} (h : r.bind k = .ok v t) :
    ∃ w u, r = .ok w u ∧ k w u = .ok v t := by
  cases r <;> simp [Res.bind] at h
  exact ⟨_, _, rfl, h⟩

@[simp] theorem Res.ok_bind {α β : Type} (v : α) (s : State) (k : α → State → Res β) : (Res.ok v s).bind k = k v s := rfl

/-! ## Translation -/

theorem segCompat_low {k0 : BitVec 3} {a : DWord} {pa : PAddr} {attr : BitVec 3} (h : segCompat k0 a = .unmapped pa attr) :
    pa.extractLsb' 0 12 = a.extractLsb' 0 12 := by
  unfold segCompat at h
  split at h
  · cases h
    apply BitVec.eq_of_getLsbD_eq; intro i hi
    have : i < 29 := by omega
    simp [hi, this]; omega
  · split at h
    · cases h
      apply BitVec.eq_of_getLsbD_eq; intro i hi
      have : i < 29 := by omega
      simp [hi, this]; omega
    · split at h
      · cases h
        apply BitVec.eq_of_getLsbD_eq; intro i hi
        simp [hi]
      · cases h

theorem segKernel_low {w e : Bool} {k0 : BitVec 3} {a : DWord} {pa : PAddr} {attr : BitVec 3}
    (h : segKernel w e k0 a = .unmapped pa attr) : pa.extractLsb' 0 12 = a.extractLsb' 0 12 := by
  have low36 : (a.extractLsb' 0 36).extractLsb' 0 12 = a.extractLsb' 0 12 := by
    apply BitVec.eq_of_getLsbD_eq; intro i hi
    simp [hi]
  have low31 : ((a.extractLsb' 0 31).setWidth 36 : PAddr).extractLsb' 0 12 = a.extractLsb' 0 12 := by
    apply BitVec.eq_of_getLsbD_eq; intro i hi
    have : i < 31 := by omega
    simp [hi, this]; omega
  unfold segKernel at h
  repeat' split at h
  all_goals first
    | exact segCompat_low h
    | (cases h; first | done | exact low36 | exact low31)

theorem segment_low {s : State} {a : DWord} {pa : PAddr} {attr : BitVec 3}
    (h : s.segment? a = some (.unmapped pa attr)) : pa.extractLsb' 0 12 = a.extractLsb' 0 12 := by
  unfold State.segment? at h
  split at h
  · split at h <;> cases h
  · split at h
    · simp only [Option.some.injEq, segUser] at h
      repeat' split at h
      all_goals cases h
    · simp only [Option.some.injEq, segSupervisor] at h
      repeat' split at h
      all_goals cases h
    · exact segKernel_low (Option.some.inj h)
    · cases h

theorem pageBits_mem (m : BitVec 12) : pageBits m ∈ [12, 14, 16, 18, 20, 22, 24] := by
  unfold pageBits
  repeat' split
  all_goals simp

theorem TlbEntry.physAddr_low (e : TlbEntry) (a : DWord) : (e.physAddr a).extractLsb' 0 12 = a.extractLsb' 0 12 := by
  have key : ∀ n ∈ [12, 14, 16, 18, 20, 22, 24], ∀ i, i < 12 → ((1#36 <<< n) - 1#36).getLsbD i = true := by decide
  apply BitVec.eq_of_getLsbD_eq
  intro i hi
  have h36 : i < 36 := by omega
  have hk := key _ (pageBits_mem e.mask) i hi
  unfold TlbEntry.physAddr
  simp only [BitVec.getLsbD_extractLsb', BitVec.getLsbD_or, BitVec.getLsbD_and, BitVec.getLsbD_not, Nat.zero_add, hi, h36, hk]
  simp

/-- A translation that succeeds leaves the state and the offset in the smallest page. -/
theorem State.translateWith_ok {s t : State} {k : AccessKind} {cd : Bool} {va : DWord} {p : Physical}
    (h : s.translateWith k cd va = .ok p t) : t = s ∧ p.pa.extractLsb' 0 12 = va.extractLsb' 0 12 := by
  obtain ⟨q, u, h1, h2⟩ := Res.bind_ok h
  split at h2
  · cases h2
  · cases h2
    split at h1
    · cases h1
    · cases h1
    · next pa attr hs =>
      cases h1
      exact ⟨rfl, segment_low hs⟩
    · unfold State.tlbTranslate at h1
      split at h1
      · cases h1
      · dsimp only at h1
        repeat' split at h1
        all_goals first
          | (cases h1; done)
          | (cases h1; exact ⟨rfl, TlbEntry.physAddr_low _ _⟩)
      · cases h1

/-- The physical address of the byte at `start` of the doubleword of the address translated. -/
theorem withOffset_self {pa : PAddr} {va : DWord} (h : pa.extractLsb' 0 12 = va.extractLsb' 0 12) : withOffset pa va = pa := by
  apply BitVec.eq_of_getLsbD_eq
  intro i hi
  unfold withOffset
  simp only [BitVec.getLsbD_append, BitVec.getLsbD_extractLsb']
  split
  · next h3 =>
    have := congrArg (fun x => x.getLsbD i) h
    have h12 : i < 12 := by omega
    simpa [h12, h3] using this.symm
  · next h3 =>
    have : 3 + (i - 3) = i := by omega
    have h33 : i - 3 < 33 := by omega
    simp [this, h33]

theorem withOffset_toNat (pa : PAddr) (start : DWord) : (withOffset pa start).toNat = pa.toNat / 8 * 8 + start.toNat % 8 := by
  unfold withOffset
  rw [BitVec.toNat_append]
  have h1 : (pa.extractLsb' 3 33).toNat = pa.toNat / 8 := by
    have := pa.isLt
    simp [BitVec.extractLsb'_toNat, Nat.shiftRight_eq_div_pow]
    omega
  have h2 : (start.extractLsb' 0 3).toNat = start.toNat % 8 := by simp [BitVec.extractLsb'_toNat]
  rw [h1, h2, ← Nat.shiftLeft_add_eq_or_of_lt (by omega), Nat.shiftLeft_eq]

/-- An address of the same doubleword. -/
theorem withOffset_inChipRange (pa : PAddr) (start : DWord) : inChipRange (withOffset pa start) = inChipRange pa := by
  unfold inChipRange
  have : (withOffset pa start).extractLsb' 22 14 = pa.extractLsb' 22 14 := by
    apply BitVec.eq_of_toNat_eq
    simp only [BitVec.extractLsb'_toNat, withOffset_toNat, Nat.shiftRight_eq_div_pow]
    omega
  rw [this]

/-! ## The write buffer -/

/-- Writes go out while the agent does not hold them and no load's read is outstanding. -/
theorem State.writesGo_of {s : State} (h : s.env.writeHold = false) (hl : s.lateError = none) : s.writesGo = true := by
  simp [State.writesGo, State.awaiting, h, hl]

/-- The buffer empties when it is empty or writes go out. -/
theorem State.flushed_of {s : State} (h : s.wbuf = [] ∨ s.writesGo = true) : s.flushed = .ok () s.drainAll := by
  unfold State.flushed
  split
  · next hw =>
    have : s.drainAll = s := by
      unfold State.drainAll
      rw [hw]
      cases s
      simp_all [drainInto]
    rw [this]
  · next hw => simp_all

/-- Emptying the buffer answers with it empty, or stalls. -/
theorem State.flushed_cases (s : State) :
    s.flushed = .ok () s.drainAll ∨ (s.wbuf ≠ [] ∧ s.writesGo = false ∧ s.flushed = .stall s.awaitWrites) := by
  by_cases h : s.wbuf = [] ∨ s.writesGo = true
  · exact .inl (State.flushed_of h)
  · push Not at h
    refine .inr ⟨h.1, by simpa using h.2, ?_⟩
    unfold State.flushed
    split
    · exact absurd ‹_› h.1
    · simp [h.2]

/-- With the buffer empty a line is cast out, or there is nothing to cast out: nothing stalls. -/
theorem State.castOut_of {s : State} (c : CacheId) (set : BitVec 8) (way : BitVec 2) (h : s.wbuf = []) :
    ∃ t, s.castOut c set way = .ok () t ∧ t = { s with wbuf := t.wbuf, mem := t.mem } := by
  unfold State.castOut State.writeBackLine
  dsimp only
  split
  · rw [State.flushed_of (.inl h)]
    exact ⟨_, rfl, rfl⟩
  · exact ⟨s, rfl, rfl⟩

/-- A write enters the buffer when there is room or writes go out: the processor then sees it in memory. -/
theorem State.bufferWrite_of {s : State} (pa : PAddr) (data : List Byte) (h : s.wbuf.length < 4 ∨ s.writesGo = true) :
    ∃ t, s.bufferWrite pa data = .ok () t ∧ t = { s with wbuf := t.wbuf, mem := t.mem } ∧
      drainInto t.mem t.wbuf = Memory.setBytes (drainInto s.mem s.wbuf) pa data := by
  unfold State.bufferWrite
  split
  · exact ⟨_, rfl, rfl, by simp [drainInto_append, drainInto]⟩
  · next hl =>
    have hh : s.writesGo = true := by rcases h with h | h <;> [omega; exact h]
    rw [if_pos hh]
    refine ⟨_, rfl, ?_, ?_⟩
    · unfold State.drainOne; split <;> rfl
    · simp only [drainInto_append]
      unfold State.drainOne
      split <;> simp_all [drainInto]

/-! ## Uncached reads -/

theorem readAnswer_drainAll (s : State) (l : List Nat) : s.drainAll.readAnswer l = s.readAnswer l := rfl

/-- No read is outstanding: a data read goes to the bus. -/
theorem State.busIdle_of {s : State} (k : AccessKind) (h : s.lateError = none) : s.busIdle k = .ok () s := if_pos h

/-- An uncached read of a load that is answered. -/
theorem State.uncachedRead_of {s : State} {pa : PAddr} (n : Nat) (h : s.busReads pa) :
    s.uncachedRead .load pa n = .ok (Memory.getBytes s.drainAll.mem pa n) s.drainAll := by
  unfold State.uncachedRead
  rw [State.busIdle_of _ h.2.2, Res.ok_bind, if_neg (by decide), State.flushed_of (h.1.imp_right fun hh => State.writesGo_of hh h.2.2), Res.ok_bind,
    readAnswer_drainAll, h.2.1]

/-- What the processor's reads see is memory after the pending writes. -/
theorem State.memNat_eq (s : State) (pa : PAddr) (n : Nat) (h : n ≤ 8) :
    (assemble s.dataBe (Memory.getBytes s.drainAll.mem pa n)).toNat = s.memNat pa n := by
  rw [assemble_toNat _ _ (by simp [Memory.getBytes_eq, h]), Memory.getBytes_eq]
  rfl

/-- A load past the cache that is answered. -/
theorem State.loadFrom_of {s : State} {va : DWord} {pa : PAddr} (start : DWord) (n : Nat) (hn : n ≤ 8) (h : s.loadsAt va pa) :
    ∃ v, s.loadFrom va start n = .ok (withOffset pa start, v) s.drainAll ∧ v.toNat = s.memNat (withOffset pa start) n := by
  obtain ⟨⟨hc, attr, ht, ha⟩, hb⟩ := h
  have hb' : s.busReads (withOffset pa start) := by
    refine ⟨hb.1, ?_, hb.2.2⟩
    rw [show (withOffset pa start).toNat / 8 = pa.toNat / 8 by rw [withOffset_toNat]; omega]
    exact hb.2.1
  refine ⟨_, ?_, State.memNat_eq s _ n hn⟩
  unfold State.loadFrom
  rw [ht, Res.ok_bind]
  dsimp only
  rw [if_neg (by rw [withOffset_inChipRange, hc]; simp)]
  unfold State.readBytes
  rw [if_pos (by simpa using ha), State.uncachedRead_of n hb', Res.ok_bind]
  rfl

/-- An aligned load past the cache that is answered. -/
theorem State.load_of {s : State} {va : DWord} {pa : PAddr} (n : Nat) (hn : n ≤ 8) (ha : va.toNat % n = 0) (h : s.loadsAt va pa) :
    ∃ v, s.load va n = .ok (pa, v) s.drainAll ∧ v.toNat = s.memNat pa n := by
  obtain ⟨attr, ht, -⟩ := h.1.2
  have hp := withOffset_self (State.translateWith_ok ht).2
  have := State.loadFrom_of va n hn h
  simp only [hp] at this
  simpa [State.load, aligned, ha] using this

/-! ## Uncached writes -/

/-- A write of `n` bytes that the processor sees in memory stores them. -/
theorem State.storedBytes_of {s t : State} {pa : PAddr} {n : Nat} {v : DWord} (hw : Memory.wf s.mem) (hn : n ≤ 8)
    (h : drainInto t.mem t.wbuf = Memory.setBytes (drainInto s.mem s.wbuf) pa (disassemble s.dataBe n v)) :
    s.storedBytes t pa n v := by
  have hw' := drainInto_wf s.wbuf hw
  have hl := disassemble_length s.dataBe n v
  constructor
  · intro k hk
    unfold State.physByte
    rw [h, Memory.get_setBytes_same _ hw' _ (by rw [hl]; split <;> omega) (by rw [hl]; omega), disassemble_get]
    cases s.dataBe
    · simp
    · simp only [if_true]
      congr 2
      omega
  · intro a ha
    unfold State.physByte
    rw [h, Memory.get_setBytes_other _ hw' (by simp only [inBytes, hl]; omega)]

/-- A store past the cache that enters the buffer. -/
theorem State.storeTo_of {s : State} {va : DWord} {pa : PAddr} (start : DWord) (n : Nat) (v : DWord) (hn : n ≤ 8)
    (hw : Memory.wf s.mem) (h : s.storesAt va pa) :
    ∃ t, s.storeTo true va start n v = .ok () t ∧ t = { s with wbuf := t.wbuf, mem := t.mem } ∧
      s.storedBytes t (withOffset pa start) n v := by
  obtain ⟨⟨hc, attr, ht, ha⟩, hb⟩ := h
  obtain ⟨t, h1, h2, h3⟩ := State.bufferWrite_of (withOffset pa start) (disassemble s.dataBe n v) hb
  refine ⟨t, ?_, h2, State.storedBytes_of hw hn h3⟩
  unfold State.storeTo
  rw [show s.translateWith .store true va = _ from ht, Res.ok_bind]
  unfold State.storePhysical
  dsimp only
  rw [if_neg (by rw [withOffset_inChipRange, hc]; simp)]
  unfold State.writeBytes
  rw [if_pos (by simpa using ha)]
  exact h1

/-- An aligned store past the cache that enters the buffer. -/
theorem State.store_of {s : State} {va : DWord} {pa : PAddr} (n : Nat) (v : DWord) (hn : n ≤ 8) (ha : va.toNat % n = 0)
    (hw : Memory.wf s.mem) (h : s.storesAt va pa) :
    ∃ t, s.store true va n v = .ok () t ∧ t = { s with wbuf := t.wbuf, mem := t.mem } ∧ s.storedBytes t pa n v := by
  obtain ⟨attr, ht, -⟩ := h.1.2
  have hp := withOffset_self (State.translateWith_ok ht).2
  have := State.storeTo_of va n v hn hw h
  simp only [hp] at this
  simpa [State.store, aligned, ha] using this

/-! ## Completed loads and stores -/

/-- An instruction that completes with `v` in GPR `r` after the pending writes went to memory. -/
theorem Loads.of_setReg {i : Instr} {s : State} {r : RegNum} {v : DWord} (h : exec i s = setReg r v s.drainAll) :
    Loads i s r v := by
  refine ⟨_, h, ?_, ?_, ?_, ?_, ?_⟩
  · simp [State.rget_setGpr_same, gprHolds]
  · unfold State.setGpr; split <;> exact ⟨rfl, rfl⟩
  · intro q hq
    simp [State.rget_setGpr_other _ _ hq]
    rfl
  · unfold State.setGpr; split <;> rfl
  · intro a
    rw [← State.drainAll_physByte s a]
    apply State.physByte_congr <;> simp

/-- A load to a GPR whose read succeeds. -/
theorem loadGpr_ok (rt : RegNum) (p : PAddr × DWord) (s t : State) (f : DWord → DWord) :
    loadGpr rt (.ok p t) s f = setReg rt (f p.2) t := rfl

/-- An instruction that completes a store that succeeded. -/
theorem Stores.of_stored {i : Instr} {s t : State} {pa : PAddr} {n : Nat} {v : DWord} (h : exec i s = .next t.advance)
    (ht : t = { s with wbuf := t.wbuf, mem := t.mem }) (hb : s.storedBytes t pa n v) : Stores i s pa n v := by
  refine ⟨_, h, ⟨fun k hk => hb.1 k hk, fun a ha => hb.2 a ha⟩, ?_, ?_⟩
  · rw [ht]; exact ⟨rfl, rfl⟩
  · rw [ht]; rfl

/-- A store that succeeds goes on. -/
theorem storeThen_ok (s t : State) (va start : DWord) (n : Nat) (v : DWord) (k : State → Out) :
    storeThen (.ok () t) s va start n v k = k t := rfl

/-- A store whose condition is not masked raises it. -/
theorem storeThen_raise {s : State} {x : Exc} (t : State) (va start : DWord) (n : Nat) (v : DWord) (k : State → Out)
    (h : (s.debugMode && x.maskedInDebug) = false) : storeThen (.exc x t) s va start n v k = raise x t := by
  simp [storeThen, h]

/-- Where debug mode does not perform a store whose condition it masked, the state goes on from what the access left. -/
theorem storeThen_masked {s t : State} {x : Exc} (va start : DWord) (n : Nat) (v : DWord) (k : State → Out)
    (h : (s.debugMode && x.maskedInDebug) = true) (hf : ((t.flagMasked x).fresh .performed).getLsbD 1 = false) :
    storeThen (.exc x t) s va start n v k = k (t.flagMasked x) := by
  simp only [storeThen, storeOrNot]
  rw [if_pos h, if_neg (by rw [hf]; decide)]

end Sys2Proof.Machine
end

