-- ==== Sys2Proof/Laws/Cycle.lean ====
section
/-! SUPPORT. What each part of a step can do, said once: late bus errors, an instruction in progress, the word fetched, the
end of a step, the write buffer beside the instructions, the bytes a reset spoils. -/

namespace Sys2Proof.Machine

/-! ## Late bus errors -/

/-- A read finds the bus idle; or a fetch leaves the late bus error arrived; or it is reported at a data read, or masked in
debug mode. -/
theorem State.busIdle_cases (s : State) (k : AccessKind) :
    (s.lateError = none ∧ s.busIdle k = .ok () s) ∨
    (k = .fetch ∧ s.lateError ≠ none ∧ s.busIdle k = .ok () s.errorArrives) ∨
    (k ≠ .fetch ∧ s.lateError ≠ none ∧
      ((s.debugMode = true ∧ s.busIdle k = .ok () (s.settleLate.flagMasked .busErrorData)) ∨
        (s.debugMode = false ∧ s.busIdle k = .exc .busErrorData s.settleLate))) := by
  unfold State.busIdle
  split
  · exact .inl ⟨by assumption, rfl⟩
  · next h =>
    split
    · next hk => exact .inr (.inl ⟨hk, h, rfl⟩)
    · next hk =>
      refine .inr (.inr ⟨hk, h, ?_⟩)
      split <;> simp_all

/-- With no late bus error there is none to arrive. -/
theorem State.errorArrives_of {s : State} (h : s.lateError = none) : s.errorArrives = s := by
  unfold State.errorArrives
  rw [h]
  cases s
  simp_all

/-- A fetch that goes to the bus goes on, the late bus error if there is one having arrived. -/
theorem State.busIdle_fetch (s : State) : s.busIdle .fetch = .ok () s.errorArrives := by
  unfold State.busIdle
  split
  · next h => rw [State.errorArrives_of h]
  · simp

theorem lateErrorAt_of {s : State} (w : Word) (h : s.lateError = none) : lateErrorAt w s = none := by
  simp [lateErrorAt, h]

/-- Where a late bus error is reported: at the load, which has completed nothing, if it is fresh, or at the word to run. -/
theorem lateErrorAt_some {w : Word} {s t : State} (h : lateErrorAt w s = some t) :
    ∃ e, s.lateError = some e ∧ ((e.fresh = true ∧ t = s.settleLate.backToLoad e) ∨ t = s.settleLate) := by
  unfold lateErrorAt at h
  split at h
  · cases h
  · next e he =>
    refine ⟨e, he, ?_⟩
    cases decode w <;> dsimp only at h <;> split at h <;> simp_all
    all_goals (try split at h) <;> simp_all

theorem afterLateError_of {w : Word} {s : State} (k : State → Out) (h : lateErrorAt w s = none) :
    afterLateError w s k = k s := by simp [afterLateError, h]

/-- Before a word runs, no late bus error is due, or it is masked in debug mode, or it coincides with SDBBP, or it is raised
where it is reported. -/
theorem afterLateError_cases (w : Word) (s : State) (k : State → Out) :
    (lateErrorAt w s = none ∧ afterLateError w s k = k s) ∨
    ∃ t, lateErrorAt w s = some t ∧
      ((s.debugMode = true ∧ afterLateError w s k = k (s.settleLate.flagMasked .busErrorData)) ∨
        (s.debugMode = false ∧ isSdbbp w = true ∧
          afterLateError w s k = .next (takeDebugWith debugDbp .busErrorData s.settleLate)) ∨
        (s.debugMode = false ∧ isSdbbp w = false ∧
          afterLateError w s k = .next (takeException .busErrorData t))) := by
  unfold afterLateError
  split
  · exact .inl ⟨by assumption, rfl⟩
  · next t h =>
    refine .inr ⟨t, h, ?_⟩
    split <;> [skip; split] <;> simp_all

/-! ## Debug exceptions due -/

/-- No debug exception is due: no break waits outside debug mode, and no single step is due. -/
theorem State.debugDue_eq_zero (s : State) :
    s.debugDue = 0#32 ↔ (s.debugMode = true ∨ s.plat.breaks = 0#4) ∧ s.stepDue = false := by
  unfold State.debugDue
  have key : ∀ (b : BitVec 4) (d : Bool), (0#26 ++ b ++ 0#1 ++ BitVec.ofBool d : BitVec 32) = 0#32 ↔ b = 0#4 ∧ d = false := by decide
  rw [key]
  cases s.debugMode <;> simp

/-- Where a debug exception is due a fetched word does not run: the debug exception is entered. -/
theorem runWord_debug {s : State} (w : Word) (h : s.debugDue ≠ 0#32) : runWord w s = .next (enterDebug s.debugDue s) := if_pos h

/-- A fetch that has no answer leaves everything else for a later step. -/
theorem runPc_stall {s t : State} (h : s.fetchWord = .stall t) : runPc s = .next t.stall := by simp [runPc, h]

/-! ## The word fetched -/

/-- A word that stalled is left in progress; any other outcome is as it was. -/
theorem hold_eq_next {w : Word} {o : Out} {t : State} (h : hold w o = .next t) :
    ∃ u, o = .next u ∧
      ((u.plat.stalled = false ∧ t = u) ∨
        (u.plat.stalled = true ∧ t = { u with plat := { u.plat with fetched := some w } })) := by
  unfold hold at h
  split at h
  · next u =>
    refine ⟨u, rfl, ?_⟩
    split at h <;> simp_all
  · exact absurd h (by simp_all)

/-- A word in sequence: with no debug exception due and no late bus error, the interrupt if one is pending, else the word. -/
theorem runWord_of {w : Word} {s : State} (hd : s.debugDue = 0#32) (hl : lateErrorAt w s = none) :
    runWord w s = if s.interruptPending then runInterrupted w s else hold w (execWord w s.prepared) := by
  simp [runWord, hd, afterLateError_of _ hl, runInstr]

/-- An interrupt before a word other than SDBBP: the word's own exception, or the interrupt. -/
theorem runInterrupted_cases {w : Word} {s : State} (h : isSdbbp w = false) :
    (∃ t, execWord w s.prepared = .next t ∧ t.excTaken = true ∧ runInterrupted w s = .next t) ∨
    runInterrupted w s = .next (takeException .interrupt s) := by
  unfold runInterrupted
  rw [if_neg (by simp [h])]
  split
  · next t ht =>
    split
    · exact .inl ⟨t, ht, by assumption, rfl⟩
    · exact .inr rfl
  · exact .inr rfl

/-- A fetch that gives a word runs it. -/
theorem runPc_of {s t : State} {w : Word} (h : s.fetchWord = .ok w t) : runPc s = runWord w t := by simp [runPc, h]

theorem State.fetchUncached_ahead {s : State} {pa : PAddr} {w : Word} (h : s.ahead.lookup pa = some w) :
    s.fetchUncached pa = .ok w (s.readOn pa) := by simp [State.fetchUncached, h]

/-- An uncached fetch of a word not read ahead, no write pending, answered with data: a late bus error has then arrived. -/
theorem State.fetchUncached_memory {s : State} {pa : PAddr} (ha : s.ahead.lookup pa = none) (hw : s.wbuf = [])
    (hr : s.readAnswer [pa.toNat / 8] = .data) :
    s.fetchUncached pa = .ok (low32 (assemble s.be (Memory.getBytes s.mem pa 4))) (s.errorArrives.readOn pa) := by
  have hr' : s.errorArrives.readAnswer [pa.toNat / 8] = .data := hr
  have hw' : s.errorArrives.wbuf = [] := hw
  rw [State.fetchUncached, ha, State.uncachedRead, State.busIdle_fetch]
  simp [State.flushedFor, hw', hr']
  rfl

/-- Reading ahead changes nothing but the words read ahead. -/
theorem State.readOn_eq (s : State) (pa : PAddr) : s.readOn pa = { s with ahead := (s.readOn pa).ahead } := rfl

/-! ## The step -/

/-- A step answers a state exactly when the processor does. -/
theorem ended_eq_next {s t : State} {o : Out} (h : ended s o = .next t) : ∃ u, o = .next u ∧ t = finish s u := by
  unfold ended at h
  split at h
  · cases h; exact ⟨_, rfl, rfl⟩
  · exact absurd h (by simp_all)

/-- With no event waiting, a step is one of the processor. -/
theorem step_of_noEvent {s : State} (h : s.env.inputs = []) : step s = processorStep s := by
  simp [step, cycle, h]

/-- With an event waiting that is not a step, the step is the event. -/
theorem step_of_event {s : State} {e : ExtEvent} {es : List ExtEvent} (h : s.env.inputs = e :: es) (he : e ≠ .run) :
    step s = .next (applyEvent e { s with env := { s.env with inputs := es } }) := by
  cases e <;> simp_all [step, cycle]

/-! ## Memory beside the instructions -/

/-- The buffer gives its oldest entry or is as it was. -/
theorem tickBuffer_cases (s : State) : tickBuffer s = s ∨ tickBuffer s = s.drainOne := by
  unfold tickBuffer
  split
  · exact .inl rfl
  · exact .inr rfl

/-- The buffer beside the instructions changes itself and memory alone. -/
theorem tickBuffer_eq (s : State) :
    tickBuffer s = { s with wbuf := (tickBuffer s).wbuf, mem := (tickBuffer s).mem } := by
  rcases tickBuffer_cases s with h | h <;> rw [h]
  unfold State.drainOne
  split <;> rfl

/-- The tick changes Count, the timer latch, the time-out counter, the arrival of a late bus error, the write buffer and
memory alone. -/
theorem tick_eq (s : State) :
    tick s = { s with
      cp0 := { s.cp0 with count := (tick s).cp0.count }
      plat := { s.plat with timerInt := (tick s).plat.timerInt, timeout := (tick s).plat.timeout }
      lateError := (tick s).lateError, wbuf := (tick s).wbuf, mem := (tick s).mem } := by
  have h := tickBuffer_eq (tickTimeout (tickCount s.params.countPerInstr s))
  have hc : (tick s).cp0.count = _ := congrArg (·.cp0.count) h
  have hi : (tick s).plat.timerInt = _ := congrArg (·.plat.timerInt) h
  have ht : (tick s).plat.timeout = _ := congrArg (·.plat.timeout) h
  have hl : (tick s).lateError = _ := congrArg (·.lateError) h
  rw [hc, hi, ht, hl]
  exact h

theorem tick_physByte (s : State) (a : PAddr) : (tick s).physByte a = s.physByte a := by
  unfold tick
  rcases tickBuffer_cases (tickTimeout (tickCount s.params.countPerInstr s)) with h | h <;> rw [h]
  · rfl
  · exact State.drainOne_physByte _ a

theorem spoilBytes_wf (l : List (PAddr × Byte)) {m : List Host.Cell} (h : Memory.wf m) : Memory.wf (spoilBytes m l) := by
  induction l generalizing m with
  | nil => exact h
  | cons c l ih => exact ih (Memory.set_wf _ _ h)

/-- A byte that no access cut off by a reset touches is as before. -/
theorem spoilBytes_other (l : List (PAddr × Byte)) {m : List Host.Cell} (a : PAddr) (hw : Memory.wf m) (h : ∀ c ∈ l, c.1 ≠ a) :
    Memory.get (spoilBytes m l) a = Memory.get m a := by
  induction l generalizing m with
  | nil => rfl
  | cons c l ih =>
    have hc := h c (by simp)
    exact (ih (Memory.set_wf _ _ hw) fun d hd => h d (by simp [hd])).trans (Memory.get_set_other c.2 (Ne.symm hc) hw)

end Sys2Proof.Machine
end

