-- ==== Sys2Proof/Laws/Decode.lean ====
section
/-! SUPPORT. The fields of the encoder's word shapes, and the named codes. -/

namespace Sys2Proof

/-- The bitwise and of two concatenations. -/
theorem append_and_append {n m : Nat} (a c : BitVec n) (b d : BitVec m) :
    (a ++ b) &&& (c ++ d) = (a &&& c) ++ (b &&& d) := by
  apply BitVec.eq_of_getLsbD_eq
  intro i _
  simp only [BitVec.getLsbD_and, BitVec.getLsbD_append]
  split <;> rfl

/-! ## Fields -/

@[simp] theorem opField_iType (op : BitVec 6) (rs rt : BitVec 5) (imm : BitVec 16) : opField (iType op rs rt imm) = op := by
  unfold opField iType
  apply BitVec.eq_of_getLsbD_eq
  intro i hi
  simp only [BitVec.getLsbD_extractLsb', BitVec.getLsbD_append]
  grind

@[simp] theorem rsField_iType (op : BitVec 6) (rs rt : BitVec 5) (imm : BitVec 16) : rsField (iType op rs rt imm) = rs := by
  unfold rsField iType
  apply BitVec.eq_of_getLsbD_eq
  intro i hi
  simp only [BitVec.getLsbD_extractLsb', BitVec.getLsbD_append]
  grind

@[simp] theorem rtField_iType (op : BitVec 6) (rs rt : BitVec 5) (imm : BitVec 16) : rtField (iType op rs rt imm) = rt := by
  unfold rtField iType
  apply BitVec.eq_of_getLsbD_eq
  intro i hi
  simp only [BitVec.getLsbD_extractLsb', BitVec.getLsbD_append]
  grind

@[simp] theorem immField_iType (op : BitVec 6) (rs rt : BitVec 5) (imm : BitVec 16) : immField (iType op rs rt imm) = imm := by
  unfold immField iType
  apply BitVec.eq_of_getLsbD_eq
  intro i hi
  simp only [BitVec.getLsbD_extractLsb', BitVec.getLsbD_append]
  grind

@[simp] theorem opField_jType (op : BitVec 6) (target : BitVec 26) : opField (jType op target) = op := by
  unfold opField jType
  apply BitVec.eq_of_getLsbD_eq
  intro i hi
  simp only [BitVec.getLsbD_extractLsb', BitVec.getLsbD_append]
  grind

@[simp] theorem targetField_jType (op : BitVec 6) (target : BitVec 26) : targetField (jType op target) = target := by
  unfold targetField jType
  apply BitVec.eq_of_getLsbD_eq
  intro i hi
  simp only [BitVec.getLsbD_extractLsb', BitVec.getLsbD_append]
  grind

@[simp] theorem opField_rType (op : BitVec 6) (rs rt rd sa : BitVec 5) (funct : BitVec 6) : opField (rType op rs rt rd sa funct) = op := by
  unfold opField rType
  apply BitVec.eq_of_getLsbD_eq
  intro i hi
  simp only [BitVec.getLsbD_extractLsb', BitVec.getLsbD_append]
  grind

@[simp] theorem rsField_rType (op : BitVec 6) (rs rt rd sa : BitVec 5) (funct : BitVec 6) : rsField (rType op rs rt rd sa funct) = rs := by
  unfold rsField rType
  apply BitVec.eq_of_getLsbD_eq
  intro i hi
  simp only [BitVec.getLsbD_extractLsb', BitVec.getLsbD_append]
  grind

@[simp] theorem rtField_rType (op : BitVec 6) (rs rt rd sa : BitVec 5) (funct : BitVec 6) : rtField (rType op rs rt rd sa funct) = rt := by
  unfold rtField rType
  apply BitVec.eq_of_getLsbD_eq
  intro i hi
  simp only [BitVec.getLsbD_extractLsb', BitVec.getLsbD_append]
  grind

@[simp] theorem rdField_rType (op : BitVec 6) (rs rt rd sa : BitVec 5) (funct : BitVec 6) : rdField (rType op rs rt rd sa funct) = rd := by
  unfold rdField rType
  apply BitVec.eq_of_getLsbD_eq
  intro i hi
  simp only [BitVec.getLsbD_extractLsb', BitVec.getLsbD_append]
  grind

@[simp] theorem saField_rType (op : BitVec 6) (rs rt rd sa : BitVec 5) (funct : BitVec 6) : saField (rType op rs rt rd sa funct) = sa := by
  unfold saField rType
  apply BitVec.eq_of_getLsbD_eq
  intro i hi
  simp only [BitVec.getLsbD_extractLsb', BitVec.getLsbD_append]
  grind

@[simp] theorem functField_rType (op : BitVec 6) (rs rt rd sa : BitVec 5) (funct : BitVec 6) : functField (rType op rs rt rd sa funct) = funct := by
  unfold functField rType
  apply BitVec.eq_of_getLsbD_eq
  intro i hi
  simp only [BitVec.getLsbD_extractLsb', BitVec.getLsbD_append]
  grind

@[simp] theorem opField_code20Type (code : BitVec 20) (funct : BitVec 6) : opField (code20Type code funct) = 0#6 := by
  unfold opField code20Type
  apply BitVec.eq_of_getLsbD_eq
  intro i hi
  simp only [BitVec.getLsbD_extractLsb', BitVec.getLsbD_append]
  grind

@[simp] theorem codeField20_code20Type (code : BitVec 20) (funct : BitVec 6) : codeField20 (code20Type code funct) = code := by
  unfold codeField20 code20Type
  apply BitVec.eq_of_getLsbD_eq
  intro i hi
  simp only [BitVec.getLsbD_extractLsb', BitVec.getLsbD_append]
  grind

@[simp] theorem functField_code20Type (code : BitVec 20) (funct : BitVec 6) : functField (code20Type code funct) = funct := by
  unfold functField code20Type
  apply BitVec.eq_of_getLsbD_eq
  intro i hi
  simp only [BitVec.getLsbD_extractLsb', BitVec.getLsbD_append]
  grind

@[simp] theorem opField_code10Type (rs rt : BitVec 5) (code : BitVec 10) (funct : BitVec 6) : opField (code10Type rs rt code funct) = 0#6 := by
  unfold opField code10Type
  apply BitVec.eq_of_getLsbD_eq
  intro i hi
  simp only [BitVec.getLsbD_extractLsb', BitVec.getLsbD_append]
  grind

@[simp] theorem rsField_code10Type (rs rt : BitVec 5) (code : BitVec 10) (funct : BitVec 6) : rsField (code10Type rs rt code funct) = rs := by
  unfold rsField code10Type
  apply BitVec.eq_of_getLsbD_eq
  intro i hi
  simp only [BitVec.getLsbD_extractLsb', BitVec.getLsbD_append]
  grind

@[simp] theorem rtField_code10Type (rs rt : BitVec 5) (code : BitVec 10) (funct : BitVec 6) : rtField (code10Type rs rt code funct) = rt := by
  unfold rtField code10Type
  apply BitVec.eq_of_getLsbD_eq
  intro i hi
  simp only [BitVec.getLsbD_extractLsb', BitVec.getLsbD_append]
  grind

@[simp] theorem codeField10_code10Type (rs rt : BitVec 5) (code : BitVec 10) (funct : BitVec 6) : codeField10 (code10Type rs rt code funct) = code := by
  unfold codeField10 code10Type
  apply BitVec.eq_of_getLsbD_eq
  intro i hi
  simp only [BitVec.getLsbD_extractLsb', BitVec.getLsbD_append]
  grind

@[simp] theorem functField_code10Type (rs rt : BitVec 5) (code : BitVec 10) (funct : BitVec 6) : functField (code10Type rs rt code funct) = funct := by
  unfold functField code10Type
  apply BitVec.eq_of_getLsbD_eq
  intro i hi
  simp only [BitVec.getLsbD_extractLsb', BitVec.getLsbD_append]
  grind

@[simp] theorem opField_cop2Type (cofun : BitVec 25) : opField (cop2Type cofun) = 0x12#6 := by
  unfold opField cop2Type
  apply BitVec.eq_of_getLsbD_eq
  intro i hi
  simp only [BitVec.getLsbD_extractLsb', BitVec.getLsbD_append]
  grind

@[simp] theorem cofunField_cop2Type (cofun : BitVec 25) : cofunField (cop2Type cofun) = cofun := by
  unfold cofunField cop2Type
  apply BitVec.eq_of_getLsbD_eq
  intro i hi
  simp only [BitVec.getLsbD_extractLsb', BitVec.getLsbD_append]
  grind

/-- The CO bit of a word is the top bit of its rs field. -/
theorem coBit_eq (w : Word) : coBit w = (rsField w).getLsbD 4 := by
  simp [coBit, rsField]

/-- The format field is the rest of the rs field. -/
theorem fmtField_eq (w : Word) : fmtField w = (rsField w).extractLsb' 0 4 := by
  apply BitVec.eq_of_getLsbD_eq
  intro i hi
  have : i < 5 := by omega
  simp [fmtField, rsField, hi, this]

@[simp] theorem coBit_cop2Type (cofun : BitVec 25) : coBit (cop2Type cofun) = true := by
  simp only [coBit, cop2Type, BitVec.getLsbD_append]
  simp

@[simp] theorem fmtRs_co (fmt : Fmt) : (fmtRs fmt).getLsbD 4 = true := by
  simp only [fmtRs, BitVec.getLsbD_append]
  simp

@[simp] theorem fmtRs_code (fmt : Fmt) : (fmtRs fmt).extractLsb' 0 4 = fmt.code := by
  unfold fmtRs
  apply BitVec.eq_of_getLsbD_eq
  intro i hi
  simp only [BitVec.getLsbD_extractLsb', BitVec.getLsbD_append]
  grind

/-! ## Named codes -/

theorem Fmt.ofCode_code {fmt : Fmt} (h : fmt.wellFormed = true) : Fmt.ofCode fmt.code = fmt := by
  cases fmt with
  | reserved c => revert c; decide
  | _ => rfl

theorem Fmt.code_ofCode (c : BitVec 4) : (Fmt.ofCode c).code = c := by revert c; decide

theorem Fmt.ofCode_wellFormed (c : BitVec 4) : (Fmt.ofCode c).wellFormed = true := by revert c; decide

theorem CacheOp.ofCode_code {op : CacheOp} (h : op.wellFormed = true) : CacheOp.ofCode op.code = op := by
  cases op with
  | undefined c => revert c; decide
  | _ => rfl

theorem CacheOp.code_ofCode (c : BitVec 5) : (CacheOp.ofCode c).code = c := by revert c; decide

theorem CacheOp.ofCode_wellFormed (c : BitVec 5) : (CacheOp.ofCode c).wellFormed = true := by revert c; decide

/-! ## Masks -/

@[simp] theorem and_ones5 (x : BitVec 5) : x &&& 31#5 = x := by revert x; decide

@[simp] theorem and_ones6 (x : BitVec 6) : x &&& 63#6 = x := by revert x; decide

theorem iType_mask_FC000000 (op : BitVec 6) (rs rt : BitVec 5) (imm : BitVec 16) : iType op rs rt imm &&& 0xFC000000#32 = iType op 0#5 0#5 0#16 := by
  rw [show (0xFC000000#32 : Word) = iType 0x3F#6 0#5 0#5 0#16 by decide]
  unfold iType
  rw [append_and_append, append_and_append, append_and_append]
  simp

theorem iType_mask_FC1F0000 (op : BitVec 6) (rs rt : BitVec 5) (imm : BitVec 16) : iType op rs rt imm &&& 0xFC1F0000#32 = iType op 0#5 rt 0#16 := by
  rw [show (0xFC1F0000#32 : Word) = iType 0x3F#6 0#5 0x1F#5 0#16 by decide]
  unfold iType
  rw [append_and_append, append_and_append, append_and_append]
  simp

theorem iType_mask_FFFF0000 (op : BitVec 6) (rs rt : BitVec 5) (imm : BitVec 16) : iType op rs rt imm &&& 0xFFFF0000#32 = iType op rs rt 0#16 := by
  rw [show (0xFFFF0000#32 : Word) = iType 0x3F#6 0x1F#5 0x1F#5 0#16 by decide]
  unfold iType
  rw [append_and_append, append_and_append, append_and_append]
  simp

theorem jType_mask_FC000000 (op : BitVec 6) (target : BitVec 26) : jType op target &&& 0xFC000000#32 = jType op 0#26 := by
  rw [show (0xFC000000#32 : Word) = jType 0x3F#6 0#26 by decide]
  unfold jType
  rw [append_and_append]
  simp

theorem rType_mask_FC00003F (op : BitVec 6) (rs rt rd sa : BitVec 5) (funct : BitVec 6) : rType op rs rt rd sa funct &&& 0xFC00003F#32 = rType op 0#5 0#5 0#5 0#5 funct := by
  rw [show (0xFC00003F#32 : Word) = rType 0x3F#6 0#5 0#5 0#5 0#5 0x3F#6 by decide]
  unfold rType
  rw [append_and_append, append_and_append, append_and_append, append_and_append, append_and_append]
  simp

theorem rType_mask_FFE00000 (op : BitVec 6) (rs rt rd sa : BitVec 5) (funct : BitVec 6) : rType op rs rt rd sa funct &&& 0xFFE00000#32 = rType op rs 0#5 0#5 0#5 0#6 := by
  rw [show (0xFFE00000#32 : Word) = rType 0x3F#6 0x1F#5 0#5 0#5 0#5 0#6 by decide]
  unfold rType
  rw [append_and_append, append_and_append, append_and_append, append_and_append, append_and_append]
  simp

theorem rType_mask_FE00003F (op : BitVec 6) (rs rt rd sa : BitVec 5) (funct : BitVec 6) : rType op rs rt rd sa funct &&& 0xFE00003F#32 = rType op (rs &&& 0x10#5) 0#5 0#5 0#5 funct := by
  rw [show (0xFE00003F#32 : Word) = rType 0x3F#6 0x10#5 0#5 0#5 0#5 0x3F#6 by decide]
  unfold rType
  rw [append_and_append, append_and_append, append_and_append, append_and_append, append_and_append]
  simp

theorem code20Type_mask_FC00003F (code : BitVec 20) (funct : BitVec 6) : code20Type code funct &&& 0xFC00003F#32 = code20Type 0#20 funct := by
  rw [show (0xFC00003F#32 : Word) = 0x3F#6 ++ 0#20 ++ 0x3F#6 by decide]
  unfold code20Type
  rw [append_and_append, append_and_append]
  simp

theorem code10Type_mask_FC00003F (rs rt : BitVec 5) (code : BitVec 10) (funct : BitVec 6) : code10Type rs rt code funct &&& 0xFC00003F#32 = code10Type 0#5 0#5 0#10 funct := by
  rw [show (0xFC00003F#32 : Word) = 0x3F#6 ++ 0#5 ++ 0#5 ++ 0#10 ++ 0x3F#6 by decide]
  unfold code10Type
  rw [append_and_append, append_and_append, append_and_append, append_and_append]
  simp

theorem cop2Type_mask_FE000000 (cofun : BitVec 25) : cop2Type cofun &&& 0xFE000000#32 = cop2Type 0#25 := by
  rw [show (0xFE000000#32 : Word) = 0x3F#6 ++ 1#1 ++ 0#25 by decide]
  unfold cop2Type
  rw [append_and_append, append_and_append]
  simp

end Sys2Proof
end

