-- ==== Sys2Proof/Laws/Fetch.lean ====
section
/-! SUPPORT. What a fetch can change, said once: the caches, the write buffer and memory, the words read ahead, the open
replacement choices, whether a late bus error has arrived, that a read is on hold, and its time-out counter. -/

namespace Sys2Proof.Machine

/-- Whatever state a memory operation leaves has a property. -/
def Res.all {α : Type} (r : Res α) (p : State → Prop) : Prop :=
  match r with
  | .ok _ t => p t
  | .exc _ t => p t
  | .stall t => p t
  | .fault _ => True
  | .refuse _ => True

/-- A property that each of two operations keeps, both in sequence keep. -/
theorem Res.all_bind {α β : Type} {r : Res α} {k : α → State → Res β} {p : State → Prop} (h : r.all p)
    (hk : ∀ v t, p t → (k v t).all p) : (r.bind k).all p := by
  cases r with
  | ok v t => exact hk v t h
  | exc x t => exact h
  | stall t => exact h
  | fault f => trivial
  | refuse f => trivial

theorem Res.all_ok {α : Type} {r : Res α} {p : State → Prop} {v : α} {t : State} (h : r.all p) (hr : r = .ok v t) : p t := by
  subst hr; exact h

theorem Res.all_exc {α : Type} {r : Res α} {p : State → Prop} {x : Exc} {t : State} (h : r.all p) (hr : r = .exc x t) : p t := by
  subst hr; exact h

theorem Res.all_stall {α : Type} {r : Res α} {p : State → Prop} {t : State} (h : r.all p) (hr : r = .stall t) : p t := by
  subst hr; exact h

/-- Nothing changed but what a fetch can change. -/
def State.sameButFetch (s t : State) : Prop :=
  t = { s with
    icache := t.icache, dcache := t.dcache, wbuf := t.wbuf, mem := t.mem, choices := t.choices, ahead := t.ahead
    lateError := t.lateError, plat := { s.plat with reading := t.plat.reading, timeout := t.plat.timeout } }

theorem State.sameButFetch_refl (s : State) : s.sameButFetch s := rfl

/-- One more such change. -/
theorem State.sameButFetch_of {s t u : State} (h : s.sameButFetch t)
    (hu : u = { t with
      icache := u.icache, dcache := u.dcache, wbuf := u.wbuf, mem := u.mem, choices := u.choices, ahead := u.ahead
      lateError := u.lateError, plat := { t.plat with reading := u.plat.reading, timeout := u.plat.timeout } }) : s.sameButFetch u := by
  unfold State.sameButFetch at *
  rw [hu, h]

theorem State.flushed_sameButFetch {s t : State} (h : s.sameButFetch t) : t.flushed.all s.sameButFetch := by
  rcases t.flushed_cases with hf | ⟨-, -, hf⟩ <;> rw [hf] <;> exact State.sameButFetch_of h rfl

theorem State.flushedFor_sameButFetch {s t : State} (unit : Nat) (pa : PAddr) (h : s.sameButFetch t) :
    (t.flushedFor unit pa).all s.sameButFetch := by
  unfold State.flushedFor
  split
  · exact State.flushed_sameButFetch h
  · exact h

theorem State.busIdle_sameButFetch {s t : State} (h : s.sameButFetch t) : (t.busIdle .fetch).all s.sameButFetch := by
  rw [State.busIdle_fetch]
  exact State.sameButFetch_of h rfl

theorem State.uncachedRead_sameButFetch {s t : State} (pa : PAddr) (n : Nat) (h : s.sameButFetch t) :
    (t.uncachedRead .fetch pa n).all s.sameButFetch := by
  refine Res.all_bind (State.busIdle_sameButFetch h) fun _ t h => Res.all_bind (State.flushedFor_sameButFetch _ _ h) fun _ t h => ?_
  split
  · exact h
  · exact h
  · exact State.sameButFetch_of h rfl

theorem State.castOut_sameButFetch {s t : State} (c : CacheId) (set : BitVec 8) (way : BitVec 2) (h : s.sameButFetch t) :
    (t.castOut c set way).all s.sameButFetch := by
  unfold State.castOut
  dsimp only
  split
  · exact Res.all_bind (State.flushed_sameButFetch h) fun _ t h => State.sameButFetch_of h rfl
  · exact h

theorem State.setCache_sameButFetch {s t : State} (c : CacheId) (v : Cache) (h : s.sameButFetch t) :
    s.sameButFetch (t.setCache c v) := by
  cases c <;> exact State.sameButFetch_of h rfl

theorem State.dropLine_sameButFetch {s t : State} (c : CacheId) (set : BitVec 8) (way : BitVec 2) (h : s.sameButFetch t) :
    s.sameButFetch (t.dropLine c set way) := State.setCache_sameButFetch _ _ h

theorem State.readLine_sameButFetch {s t : State} (b : Bool) (pa : PAddr) (h : s.sameButFetch t) :
    (t.readLine .fetch b pa).all s.sameButFetch := by
  unfold State.readLine
  split
  · trivial
  · refine Res.all_bind (State.busIdle_sameButFetch h) fun _ t h => Res.all_bind ?_ fun _ t h => ?_
    · split
      · exact State.flushed_sameButFetch h
      · exact State.flushedFor_sameButFetch _ _ h
    dsimp only
    split
    · exact h
    · exact h
    · exact State.sameButFetch_of h rfl

theorem State.fillWay_sameButFetch {s t : State} (c : CacheId) (set : BitVec 8) (way : BitVec 2) (pa : PAddr)
    (h : s.sameButFetch t) : (t.fillWay .fetch c set way pa).all s.sameButFetch := by
  refine Res.all_bind (State.readLine_sameButFetch _ pa h) fun line t h => Res.all_bind (State.castOut_sameButFetch _ _ _ h) fun _ t h => ?_
  split
  · cases c <;> exact State.sameButFetch_of h rfl
  · exact State.dropLine_sameButFetch _ _ _ h

theorem State.readBytes_sameButFetch {s t : State} (c : CacheId) (off : Bool) (va : DWord) (p : Physical) (n : Nat)
    (h : s.sameButFetch t) : (t.readBytes .fetch c off va p n).all s.sameButFetch := by
  unfold State.readBytes
  split
  · exact State.uncachedRead_sameButFetch _ _ h
  · refine Res.all_bind ?_ fun _ t h => h
    unfold State.lookup
    split
    · exact h
    · exact Res.all_bind (State.fillWay_sameButFetch _ _ _ _ h) fun _ t h => h
    · trivial

theorem State.chipRead_all (s : State) (pa : PAddr) (n : Nat) (p : State → Prop) (h : p s) : (s.chipRead pa n).all p := by
  unfold State.chipRead
  repeat' split
  all_goals first | exact h | trivial

/-- A translation leaves the state. -/
theorem State.translateWith_all (s : State) (k : AccessKind) (cd : Bool) (va : DWord) :
    (s.translateWith k cd va).all fun t => t = s := by
  refine Res.all_bind ?_ fun p t h => ?_
  · repeat' split
    all_goals first
      | rfl
      | trivial
      | (unfold State.tlbTranslate; dsimp only; repeat' split)
    all_goals first | rfl | trivial
  · split
    · trivial
    · exact h

/-- Whatever a fetch answers, no register, no CP0 register and no event changes; of the platform only that a read is on hold, with its
time-out counter. -/
theorem State.fetchWord_sameButFetch (s : State) : s.fetchWord.all s.sameButFetch := by
  unfold State.fetchWord
  split
  · exact s.sameButFetch_refl
  · refine Res.all_bind (p := s.sameButFetch) ?_ fun p t h => ?_
    · have := s.translateWith_all .fetch true s.pc
      unfold State.translate
      cases hr : s.translateWith .fetch true s.pc <;> simp only [hr, Res.all] at this ⊢ <;> subst this <;> exact State.sameButFetch_refl _
    · split
      · split
        · exact Res.all_bind (State.chipRead_all _ _ _ _ h) fun _ t h => h
        · unfold State.fetchUncached
          split
          · exact State.sameButFetch_of h rfl
          · exact Res.all_bind (State.uncachedRead_sameButFetch _ _ h) fun _ t h => State.sameButFetch_of h rfl
      · exact Res.all_bind (State.readBytes_sameButFetch _ _ _ _ _ h) fun _ t h => h

end Sys2Proof.Machine
end

