-- ==== Sys2Proof/Laws/PerInstr.lean ====
section
/-! SUPPORT. A statement about every instruction, one lemma per constructor: the encoding of the instruction has the bits
that select its row of spec/opcode_table.json. -/

namespace Sys2Proof.Laws.EncodeInRow

/-- The encoding of `i` lies in its row of the opcode table (30_encoding.md R222, R243). -/
def Statement (i : Instr) : Prop := i.inRow (encode i) = true

theorem fmtRs_top (fmt : Fmt) : fmtRs fmt &&& 0x10#5 = 0x10#5 := by
  rw [show (0x10#5) = 1#1 ++ 0#4 by decide, fmtRs, append_and_append]
  simp

/-- A word whose masked bits are the row's match lies in the row. -/
theorem of_mask {i : Instr} (h : encode i &&& i.row.1 = i.row.2) : Statement i := by
  simp [Statement, Instr.inRow, h]

theorem lb (rt : RegNum) (offset : BitVec 16) (base : RegNum) : Statement (.lb rt offset base) :=
  of_mask ((iType_mask_FC000000 ..).trans (by show _ = (0x80000000#32 : Word); decide))

theorem lbu (rt : RegNum) (offset : BitVec 16) (base : RegNum) : Statement (.lbu rt offset base) :=
  of_mask ((iType_mask_FC000000 ..).trans (by show _ = (0x90000000#32 : Word); decide))

theorem lh (rt : RegNum) (offset : BitVec 16) (base : RegNum) : Statement (.lh rt offset base) :=
  of_mask ((iType_mask_FC000000 ..).trans (by show _ = (0x84000000#32 : Word); decide))

theorem lhu (rt : RegNum) (offset : BitVec 16) (base : RegNum) : Statement (.lhu rt offset base) :=
  of_mask ((iType_mask_FC000000 ..).trans (by show _ = (0x94000000#32 : Word); decide))

theorem lw (rt : RegNum) (offset : BitVec 16) (base : RegNum) : Statement (.lw rt offset base) :=
  of_mask ((iType_mask_FC000000 ..).trans (by show _ = (0x8C000000#32 : Word); decide))

theorem lwu (rt : RegNum) (offset : BitVec 16) (base : RegNum) : Statement (.lwu rt offset base) :=
  of_mask ((iType_mask_FC000000 ..).trans (by show _ = (0x9C000000#32 : Word); decide))

theorem ld (rt : RegNum) (offset : BitVec 16) (base : RegNum) : Statement (.ld rt offset base) :=
  of_mask ((iType_mask_FC000000 ..).trans (by show _ = (0xDC000000#32 : Word); decide))

theorem sb (rt : RegNum) (offset : BitVec 16) (base : RegNum) : Statement (.sb rt offset base) :=
  of_mask ((iType_mask_FC000000 ..).trans (by show _ = (0xA0000000#32 : Word); decide))

theorem sh (rt : RegNum) (offset : BitVec 16) (base : RegNum) : Statement (.sh rt offset base) :=
  of_mask ((iType_mask_FC000000 ..).trans (by show _ = (0xA4000000#32 : Word); decide))

theorem sw (rt : RegNum) (offset : BitVec 16) (base : RegNum) : Statement (.sw rt offset base) :=
  of_mask ((iType_mask_FC000000 ..).trans (by show _ = (0xAC000000#32 : Word); decide))

theorem sd (rt : RegNum) (offset : BitVec 16) (base : RegNum) : Statement (.sd rt offset base) :=
  of_mask ((iType_mask_FC000000 ..).trans (by show _ = (0xFC000000#32 : Word); decide))

theorem lwl (rt : RegNum) (offset : BitVec 16) (base : RegNum) : Statement (.lwl rt offset base) :=
  of_mask ((iType_mask_FC000000 ..).trans (by show _ = (0x88000000#32 : Word); decide))

theorem lwr (rt : RegNum) (offset : BitVec 16) (base : RegNum) : Statement (.lwr rt offset base) :=
  of_mask ((iType_mask_FC000000 ..).trans (by show _ = (0x98000000#32 : Word); decide))

theorem swl (rt : RegNum) (offset : BitVec 16) (base : RegNum) : Statement (.swl rt offset base) :=
  of_mask ((iType_mask_FC000000 ..).trans (by show _ = (0xA8000000#32 : Word); decide))

theorem swr (rt : RegNum) (offset : BitVec 16) (base : RegNum) : Statement (.swr rt offset base) :=
  of_mask ((iType_mask_FC000000 ..).trans (by show _ = (0xB8000000#32 : Word); decide))

theorem ldl (rt : RegNum) (offset : BitVec 16) (base : RegNum) : Statement (.ldl rt offset base) :=
  of_mask ((iType_mask_FC000000 ..).trans (by show _ = (0x68000000#32 : Word); decide))

theorem ldr (rt : RegNum) (offset : BitVec 16) (base : RegNum) : Statement (.ldr rt offset base) :=
  of_mask ((iType_mask_FC000000 ..).trans (by show _ = (0x6C000000#32 : Word); decide))

theorem sdl (rt : RegNum) (offset : BitVec 16) (base : RegNum) : Statement (.sdl rt offset base) :=
  of_mask ((iType_mask_FC000000 ..).trans (by show _ = (0xB0000000#32 : Word); decide))

theorem sdr (rt : RegNum) (offset : BitVec 16) (base : RegNum) : Statement (.sdr rt offset base) :=
  of_mask ((iType_mask_FC000000 ..).trans (by show _ = (0xB4000000#32 : Word); decide))

theorem ll (rt : RegNum) (offset : BitVec 16) (base : RegNum) : Statement (.ll rt offset base) :=
  of_mask ((iType_mask_FC000000 ..).trans (by show _ = (0xC0000000#32 : Word); decide))

theorem lld (rt : RegNum) (offset : BitVec 16) (base : RegNum) : Statement (.lld rt offset base) :=
  of_mask ((iType_mask_FC000000 ..).trans (by show _ = (0xD0000000#32 : Word); decide))

theorem sc (rt : RegNum) (offset : BitVec 16) (base : RegNum) : Statement (.sc rt offset base) :=
  of_mask ((iType_mask_FC000000 ..).trans (by show _ = (0xE0000000#32 : Word); decide))

theorem scd (rt : RegNum) (offset : BitVec 16) (base : RegNum) : Statement (.scd rt offset base) :=
  of_mask ((iType_mask_FC000000 ..).trans (by show _ = (0xF0000000#32 : Word); decide))

theorem addi (rt : RegNum) (rs : RegNum) (imm : BitVec 16) : Statement (.addi rt rs imm) :=
  of_mask ((iType_mask_FC000000 ..).trans (by show _ = (0x20000000#32 : Word); decide))

theorem addiu (rt : RegNum) (rs : RegNum) (imm : BitVec 16) : Statement (.addiu rt rs imm) :=
  of_mask ((iType_mask_FC000000 ..).trans (by show _ = (0x24000000#32 : Word); decide))

theorem slti (rt : RegNum) (rs : RegNum) (imm : BitVec 16) : Statement (.slti rt rs imm) :=
  of_mask ((iType_mask_FC000000 ..).trans (by show _ = (0x28000000#32 : Word); decide))

theorem sltiu (rt : RegNum) (rs : RegNum) (imm : BitVec 16) : Statement (.sltiu rt rs imm) :=
  of_mask ((iType_mask_FC000000 ..).trans (by show _ = (0x2C000000#32 : Word); decide))

theorem andi (rt : RegNum) (rs : RegNum) (imm : BitVec 16) : Statement (.andi rt rs imm) :=
  of_mask ((iType_mask_FC000000 ..).trans (by show _ = (0x30000000#32 : Word); decide))

theorem ori (rt : RegNum) (rs : RegNum) (imm : BitVec 16) : Statement (.ori rt rs imm) :=
  of_mask ((iType_mask_FC000000 ..).trans (by show _ = (0x34000000#32 : Word); decide))

theorem xori (rt : RegNum) (rs : RegNum) (imm : BitVec 16) : Statement (.xori rt rs imm) :=
  of_mask ((iType_mask_FC000000 ..).trans (by show _ = (0x38000000#32 : Word); decide))

theorem daddi (rt : RegNum) (rs : RegNum) (imm : BitVec 16) : Statement (.daddi rt rs imm) :=
  of_mask ((iType_mask_FC000000 ..).trans (by show _ = (0x60000000#32 : Word); decide))

theorem daddiu (rt : RegNum) (rs : RegNum) (imm : BitVec 16) : Statement (.daddiu rt rs imm) :=
  of_mask ((iType_mask_FC000000 ..).trans (by show _ = (0x64000000#32 : Word); decide))

theorem lui (rt : RegNum) (imm : BitVec 16) : Statement (.lui rt imm) :=
  of_mask ((iType_mask_FC000000 ..).trans (by show _ = (0x3C000000#32 : Word); decide))

theorem add (rd : RegNum) (rs : RegNum) (rt : RegNum) : Statement (.add rd rs rt) :=
  of_mask ((rType_mask_FC00003F ..).trans (by show _ = (0x00000020#32 : Word); decide))

theorem addu (rd : RegNum) (rs : RegNum) (rt : RegNum) : Statement (.addu rd rs rt) :=
  of_mask ((rType_mask_FC00003F ..).trans (by show _ = (0x00000021#32 : Word); decide))

theorem sub (rd : RegNum) (rs : RegNum) (rt : RegNum) : Statement (.sub rd rs rt) :=
  of_mask ((rType_mask_FC00003F ..).trans (by show _ = (0x00000022#32 : Word); decide))

theorem subu (rd : RegNum) (rs : RegNum) (rt : RegNum) : Statement (.subu rd rs rt) :=
  of_mask ((rType_mask_FC00003F ..).trans (by show _ = (0x00000023#32 : Word); decide))

theorem slt (rd : RegNum) (rs : RegNum) (rt : RegNum) : Statement (.slt rd rs rt) :=
  of_mask ((rType_mask_FC00003F ..).trans (by show _ = (0x0000002A#32 : Word); decide))

theorem sltu (rd : RegNum) (rs : RegNum) (rt : RegNum) : Statement (.sltu rd rs rt) :=
  of_mask ((rType_mask_FC00003F ..).trans (by show _ = (0x0000002B#32 : Word); decide))

theorem and (rd : RegNum) (rs : RegNum) (rt : RegNum) : Statement (.and rd rs rt) :=
  of_mask ((rType_mask_FC00003F ..).trans (by show _ = (0x00000024#32 : Word); decide))

theorem or (rd : RegNum) (rs : RegNum) (rt : RegNum) : Statement (.or rd rs rt) :=
  of_mask ((rType_mask_FC00003F ..).trans (by show _ = (0x00000025#32 : Word); decide))

theorem xor (rd : RegNum) (rs : RegNum) (rt : RegNum) : Statement (.xor rd rs rt) :=
  of_mask ((rType_mask_FC00003F ..).trans (by show _ = (0x00000026#32 : Word); decide))

theorem nor (rd : RegNum) (rs : RegNum) (rt : RegNum) : Statement (.nor rd rs rt) :=
  of_mask ((rType_mask_FC00003F ..).trans (by show _ = (0x00000027#32 : Word); decide))

theorem dadd (rd : RegNum) (rs : RegNum) (rt : RegNum) : Statement (.dadd rd rs rt) :=
  of_mask ((rType_mask_FC00003F ..).trans (by show _ = (0x0000002C#32 : Word); decide))

theorem daddu (rd : RegNum) (rs : RegNum) (rt : RegNum) : Statement (.daddu rd rs rt) :=
  of_mask ((rType_mask_FC00003F ..).trans (by show _ = (0x0000002D#32 : Word); decide))

theorem dsub (rd : RegNum) (rs : RegNum) (rt : RegNum) : Statement (.dsub rd rs rt) :=
  of_mask ((rType_mask_FC00003F ..).trans (by show _ = (0x0000002E#32 : Word); decide))

theorem dsubu (rd : RegNum) (rs : RegNum) (rt : RegNum) : Statement (.dsubu rd rs rt) :=
  of_mask ((rType_mask_FC00003F ..).trans (by show _ = (0x0000002F#32 : Word); decide))

theorem sll (rd : RegNum) (rt : RegNum) (sa : BitVec 5) : Statement (.sll rd rt sa) :=
  of_mask ((rType_mask_FC00003F ..).trans (by show _ = (0x00000000#32 : Word); decide))

theorem srl (rd : RegNum) (rt : RegNum) (sa : BitVec 5) : Statement (.srl rd rt sa) :=
  of_mask ((rType_mask_FC00003F ..).trans (by show _ = (0x00000002#32 : Word); decide))

theorem sra (rd : RegNum) (rt : RegNum) (sa : BitVec 5) : Statement (.sra rd rt sa) :=
  of_mask ((rType_mask_FC00003F ..).trans (by show _ = (0x00000003#32 : Word); decide))

theorem dsll (rd : RegNum) (rt : RegNum) (sa : BitVec 5) : Statement (.dsll rd rt sa) :=
  of_mask ((rType_mask_FC00003F ..).trans (by show _ = (0x00000038#32 : Word); decide))

theorem dsrl (rd : RegNum) (rt : RegNum) (sa : BitVec 5) : Statement (.dsrl rd rt sa) :=
  of_mask ((rType_mask_FC00003F ..).trans (by show _ = (0x0000003A#32 : Word); decide))

theorem dsra (rd : RegNum) (rt : RegNum) (sa : BitVec 5) : Statement (.dsra rd rt sa) :=
  of_mask ((rType_mask_FC00003F ..).trans (by show _ = (0x0000003B#32 : Word); decide))

theorem dsll32 (rd : RegNum) (rt : RegNum) (sa : BitVec 5) : Statement (.dsll32 rd rt sa) :=
  of_mask ((rType_mask_FC00003F ..).trans (by show _ = (0x0000003C#32 : Word); decide))

theorem dsrl32 (rd : RegNum) (rt : RegNum) (sa : BitVec 5) : Statement (.dsrl32 rd rt sa) :=
  of_mask ((rType_mask_FC00003F ..).trans (by show _ = (0x0000003E#32 : Word); decide))

theorem dsra32 (rd : RegNum) (rt : RegNum) (sa : BitVec 5) : Statement (.dsra32 rd rt sa) :=
  of_mask ((rType_mask_FC00003F ..).trans (by show _ = (0x0000003F#32 : Word); decide))

theorem sllv (rd : RegNum) (rt : RegNum) (rs : RegNum) : Statement (.sllv rd rt rs) :=
  of_mask ((rType_mask_FC00003F ..).trans (by show _ = (0x00000004#32 : Word); decide))

theorem srlv (rd : RegNum) (rt : RegNum) (rs : RegNum) : Statement (.srlv rd rt rs) :=
  of_mask ((rType_mask_FC00003F ..).trans (by show _ = (0x00000006#32 : Word); decide))

theorem srav (rd : RegNum) (rt : RegNum) (rs : RegNum) : Statement (.srav rd rt rs) :=
  of_mask ((rType_mask_FC00003F ..).trans (by show _ = (0x00000007#32 : Word); decide))

theorem dsllv (rd : RegNum) (rt : RegNum) (rs : RegNum) : Statement (.dsllv rd rt rs) :=
  of_mask ((rType_mask_FC00003F ..).trans (by show _ = (0x00000014#32 : Word); decide))

theorem dsrlv (rd : RegNum) (rt : RegNum) (rs : RegNum) : Statement (.dsrlv rd rt rs) :=
  of_mask ((rType_mask_FC00003F ..).trans (by show _ = (0x00000016#32 : Word); decide))

theorem dsrav (rd : RegNum) (rt : RegNum) (rs : RegNum) : Statement (.dsrav rd rt rs) :=
  of_mask ((rType_mask_FC00003F ..).trans (by show _ = (0x00000017#32 : Word); decide))

theorem mult (rd : RegNum) (rs : RegNum) (rt : RegNum) : Statement (.mult rd rs rt) :=
  of_mask ((rType_mask_FC00003F ..).trans (by show _ = (0x00000018#32 : Word); decide))

theorem multu (rd : RegNum) (rs : RegNum) (rt : RegNum) : Statement (.multu rd rs rt) :=
  of_mask ((rType_mask_FC00003F ..).trans (by show _ = (0x00000019#32 : Word); decide))

theorem dmult (rd : RegNum) (rs : RegNum) (rt : RegNum) : Statement (.dmult rd rs rt) :=
  of_mask ((rType_mask_FC00003F ..).trans (by show _ = (0x0000001C#32 : Word); decide))

theorem dmultu (rd : RegNum) (rs : RegNum) (rt : RegNum) : Statement (.dmultu rd rs rt) :=
  of_mask ((rType_mask_FC00003F ..).trans (by show _ = (0x0000001D#32 : Word); decide))

theorem div (rs : RegNum) (rt : RegNum) : Statement (.div rs rt) :=
  of_mask ((rType_mask_FC00003F ..).trans (by show _ = (0x0000001A#32 : Word); decide))

theorem divu (rs : RegNum) (rt : RegNum) : Statement (.divu rs rt) :=
  of_mask ((rType_mask_FC00003F ..).trans (by show _ = (0x0000001B#32 : Word); decide))

theorem ddiv (rs : RegNum) (rt : RegNum) : Statement (.ddiv rs rt) :=
  of_mask ((rType_mask_FC00003F ..).trans (by show _ = (0x0000001E#32 : Word); decide))

theorem ddivu (rs : RegNum) (rt : RegNum) : Statement (.ddivu rs rt) :=
  of_mask ((rType_mask_FC00003F ..).trans (by show _ = (0x0000001F#32 : Word); decide))

theorem mfhi (rd : RegNum) : Statement (.mfhi rd) :=
  of_mask ((rType_mask_FC00003F ..).trans (by show _ = (0x00000010#32 : Word); decide))

theorem mflo (rd : RegNum) : Statement (.mflo rd) :=
  of_mask ((rType_mask_FC00003F ..).trans (by show _ = (0x00000012#32 : Word); decide))

theorem mthi (rs : RegNum) : Statement (.mthi rs) :=
  of_mask ((rType_mask_FC00003F ..).trans (by show _ = (0x00000011#32 : Word); decide))

theorem mtlo (rs : RegNum) : Statement (.mtlo rs) :=
  of_mask ((rType_mask_FC00003F ..).trans (by show _ = (0x00000013#32 : Word); decide))

theorem madd (rd : RegNum) (rs : RegNum) (rt : RegNum) : Statement (.madd rd rs rt) :=
  of_mask ((rType_mask_FC00003F ..).trans (by show _ = (0x70000000#32 : Word); decide))

theorem maddu (rd : RegNum) (rs : RegNum) (rt : RegNum) : Statement (.maddu rd rs rt) :=
  of_mask ((rType_mask_FC00003F ..).trans (by show _ = (0x70000001#32 : Word); decide))

theorem jr (rs : RegNum) : Statement (.jr rs) :=
  of_mask ((rType_mask_FC00003F ..).trans (by show _ = (0x00000008#32 : Word); decide))

theorem jalr (rd : RegNum) (rs : RegNum) : Statement (.jalr rd rs) :=
  of_mask ((rType_mask_FC00003F ..).trans (by show _ = (0x00000009#32 : Word); decide))

theorem syscall (code : BitVec 20) : Statement (.syscall code) :=
  of_mask ((code20Type_mask_FC00003F ..).trans (by show _ = (0x0000000C#32 : Word); decide))

theorem brk (code : BitVec 20) : Statement (.brk code) :=
  of_mask ((code20Type_mask_FC00003F ..).trans (by show _ = (0x0000000D#32 : Word); decide))

theorem sdbbp (code : BitVec 20) : Statement (.sdbbp code) :=
  of_mask ((code20Type_mask_FC00003F ..).trans (by show _ = (0x0000000E#32 : Word); decide))

theorem sync : Statement (.sync) :=
  of_mask ((rType_mask_FC00003F ..).trans (by show _ = (0x0000000F#32 : Word); decide))

theorem tge (rs : RegNum) (rt : RegNum) (code : BitVec 10) : Statement (.tge rs rt code) :=
  of_mask ((code10Type_mask_FC00003F ..).trans (by show _ = (0x00000030#32 : Word); decide))

theorem tgeu (rs : RegNum) (rt : RegNum) (code : BitVec 10) : Statement (.tgeu rs rt code) :=
  of_mask ((code10Type_mask_FC00003F ..).trans (by show _ = (0x00000031#32 : Word); decide))

theorem tlt (rs : RegNum) (rt : RegNum) (code : BitVec 10) : Statement (.tlt rs rt code) :=
  of_mask ((code10Type_mask_FC00003F ..).trans (by show _ = (0x00000032#32 : Word); decide))

theorem tltu (rs : RegNum) (rt : RegNum) (code : BitVec 10) : Statement (.tltu rs rt code) :=
  of_mask ((code10Type_mask_FC00003F ..).trans (by show _ = (0x00000033#32 : Word); decide))

theorem teq (rs : RegNum) (rt : RegNum) (code : BitVec 10) : Statement (.teq rs rt code) :=
  of_mask ((code10Type_mask_FC00003F ..).trans (by show _ = (0x00000034#32 : Word); decide))

theorem tne (rs : RegNum) (rt : RegNum) (code : BitVec 10) : Statement (.tne rs rt code) :=
  of_mask ((code10Type_mask_FC00003F ..).trans (by show _ = (0x00000036#32 : Word); decide))

theorem j (target : BitVec 26) : Statement (.j target) :=
  of_mask ((jType_mask_FC000000 ..).trans (by show _ = (0x08000000#32 : Word); decide))

theorem jal (target : BitVec 26) : Statement (.jal target) :=
  of_mask ((jType_mask_FC000000 ..).trans (by show _ = (0x0C000000#32 : Word); decide))

theorem beq (rs : RegNum) (rt : RegNum) (offset : BitVec 16) : Statement (.beq rs rt offset) :=
  of_mask ((iType_mask_FC000000 ..).trans (by show _ = (0x10000000#32 : Word); decide))

theorem bne (rs : RegNum) (rt : RegNum) (offset : BitVec 16) : Statement (.bne rs rt offset) :=
  of_mask ((iType_mask_FC000000 ..).trans (by show _ = (0x14000000#32 : Word); decide))

theorem blez (rs : RegNum) (offset : BitVec 16) : Statement (.blez rs offset) :=
  of_mask ((iType_mask_FC000000 ..).trans (by show _ = (0x18000000#32 : Word); decide))

theorem bgtz (rs : RegNum) (offset : BitVec 16) : Statement (.bgtz rs offset) :=
  of_mask ((iType_mask_FC000000 ..).trans (by show _ = (0x1C000000#32 : Word); decide))

theorem beql (rs : RegNum) (rt : RegNum) (offset : BitVec 16) : Statement (.beql rs rt offset) :=
  of_mask ((iType_mask_FC000000 ..).trans (by show _ = (0x50000000#32 : Word); decide))

theorem bnel (rs : RegNum) (rt : RegNum) (offset : BitVec 16) : Statement (.bnel rs rt offset) :=
  of_mask ((iType_mask_FC000000 ..).trans (by show _ = (0x54000000#32 : Word); decide))

theorem blezl (rs : RegNum) (offset : BitVec 16) : Statement (.blezl rs offset) :=
  of_mask ((iType_mask_FC000000 ..).trans (by show _ = (0x58000000#32 : Word); decide))

theorem bgtzl (rs : RegNum) (offset : BitVec 16) : Statement (.bgtzl rs offset) :=
  of_mask ((iType_mask_FC000000 ..).trans (by show _ = (0x5C000000#32 : Word); decide))

theorem bltz (rs : RegNum) (offset : BitVec 16) : Statement (.bltz rs offset) :=
  of_mask ((iType_mask_FC1F0000 ..).trans (by show _ = (0x04000000#32 : Word); decide))

theorem bgez (rs : RegNum) (offset : BitVec 16) : Statement (.bgez rs offset) :=
  of_mask ((iType_mask_FC1F0000 ..).trans (by show _ = (0x04010000#32 : Word); decide))

theorem bltzl (rs : RegNum) (offset : BitVec 16) : Statement (.bltzl rs offset) :=
  of_mask ((iType_mask_FC1F0000 ..).trans (by show _ = (0x04020000#32 : Word); decide))

theorem bgezl (rs : RegNum) (offset : BitVec 16) : Statement (.bgezl rs offset) :=
  of_mask ((iType_mask_FC1F0000 ..).trans (by show _ = (0x04030000#32 : Word); decide))

theorem bltzal (rs : RegNum) (offset : BitVec 16) : Statement (.bltzal rs offset) :=
  of_mask ((iType_mask_FC1F0000 ..).trans (by show _ = (0x04100000#32 : Word); decide))

theorem bgezal (rs : RegNum) (offset : BitVec 16) : Statement (.bgezal rs offset) :=
  of_mask ((iType_mask_FC1F0000 ..).trans (by show _ = (0x04110000#32 : Word); decide))

theorem bltzall (rs : RegNum) (offset : BitVec 16) : Statement (.bltzall rs offset) :=
  of_mask ((iType_mask_FC1F0000 ..).trans (by show _ = (0x04120000#32 : Word); decide))

theorem bgezall (rs : RegNum) (offset : BitVec 16) : Statement (.bgezall rs offset) :=
  of_mask ((iType_mask_FC1F0000 ..).trans (by show _ = (0x04130000#32 : Word); decide))

theorem tgei (rs : RegNum) (imm : BitVec 16) : Statement (.tgei rs imm) :=
  of_mask ((iType_mask_FC1F0000 ..).trans (by show _ = (0x04080000#32 : Word); decide))

theorem tgeiu (rs : RegNum) (imm : BitVec 16) : Statement (.tgeiu rs imm) :=
  of_mask ((iType_mask_FC1F0000 ..).trans (by show _ = (0x04090000#32 : Word); decide))

theorem tlti (rs : RegNum) (imm : BitVec 16) : Statement (.tlti rs imm) :=
  of_mask ((iType_mask_FC1F0000 ..).trans (by show _ = (0x040A0000#32 : Word); decide))

theorem tltiu (rs : RegNum) (imm : BitVec 16) : Statement (.tltiu rs imm) :=
  of_mask ((iType_mask_FC1F0000 ..).trans (by show _ = (0x040B0000#32 : Word); decide))

theorem teqi (rs : RegNum) (imm : BitVec 16) : Statement (.teqi rs imm) :=
  of_mask ((iType_mask_FC1F0000 ..).trans (by show _ = (0x040C0000#32 : Word); decide))

theorem tnei (rs : RegNum) (imm : BitVec 16) : Statement (.tnei rs imm) :=
  of_mask ((iType_mask_FC1F0000 ..).trans (by show _ = (0x040E0000#32 : Word); decide))

theorem lwc1 (ft : FpRegNum) (offset : BitVec 16) (base : RegNum) : Statement (.lwc1 ft offset base) :=
  of_mask ((iType_mask_FC000000 ..).trans (by show _ = (0xC4000000#32 : Word); decide))

theorem swc1 (ft : FpRegNum) (offset : BitVec 16) (base : RegNum) : Statement (.swc1 ft offset base) :=
  of_mask ((iType_mask_FC000000 ..).trans (by show _ = (0xE4000000#32 : Word); decide))

theorem ldc1 (ft : FpRegNum) (offset : BitVec 16) (base : RegNum) : Statement (.ldc1 ft offset base) :=
  of_mask ((iType_mask_FC000000 ..).trans (by show _ = (0xD4000000#32 : Word); decide))

theorem sdc1 (ft : FpRegNum) (offset : BitVec 16) (base : RegNum) : Statement (.sdc1 ft offset base) :=
  of_mask ((iType_mask_FC000000 ..).trans (by show _ = (0xF4000000#32 : Word); decide))

theorem lwc2 (rt : RegNum) (offset : BitVec 16) (base : RegNum) : Statement (.lwc2 rt offset base) :=
  of_mask ((iType_mask_FC000000 ..).trans (by show _ = (0xC8000000#32 : Word); decide))

theorem swc2 (rt : RegNum) (offset : BitVec 16) (base : RegNum) : Statement (.swc2 rt offset base) :=
  of_mask ((iType_mask_FC000000 ..).trans (by show _ = (0xE8000000#32 : Word); decide))

theorem ldc2 (rt : RegNum) (offset : BitVec 16) (base : RegNum) : Statement (.ldc2 rt offset base) :=
  of_mask ((iType_mask_FC000000 ..).trans (by show _ = (0xD8000000#32 : Word); decide))

theorem sdc2 (rt : RegNum) (offset : BitVec 16) (base : RegNum) : Statement (.sdc2 rt offset base) :=
  of_mask ((iType_mask_FC000000 ..).trans (by show _ = (0xF8000000#32 : Word); decide))

theorem mfc0 (rt : RegNum) (rd : Cop0RegNum) : Statement (.mfc0 rt rd) :=
  of_mask ((rType_mask_FFE00000 ..).trans (by show _ = (0x40000000#32 : Word); decide))

theorem dmfc0 (rt : RegNum) (rd : Cop0RegNum) : Statement (.dmfc0 rt rd) :=
  of_mask ((rType_mask_FFE00000 ..).trans (by show _ = (0x40200000#32 : Word); decide))

theorem cfc0 (rt : RegNum) (rd : Cop0RegNum) : Statement (.cfc0 rt rd) :=
  of_mask ((rType_mask_FFE00000 ..).trans (by show _ = (0x40400000#32 : Word); decide))

theorem mtc0 (rt : RegNum) (rd : Cop0RegNum) : Statement (.mtc0 rt rd) :=
  of_mask ((rType_mask_FFE00000 ..).trans (by show _ = (0x40800000#32 : Word); decide))

theorem dmtc0 (rt : RegNum) (rd : Cop0RegNum) : Statement (.dmtc0 rt rd) :=
  of_mask ((rType_mask_FFE00000 ..).trans (by show _ = (0x40A00000#32 : Word); decide))

theorem ctc0 (rt : RegNum) (rd : Cop0RegNum) : Statement (.ctc0 rt rd) :=
  of_mask ((rType_mask_FFE00000 ..).trans (by show _ = (0x40C00000#32 : Word); decide))

theorem mfc1 (rt : RegNum) (fs : FpRegNum) : Statement (.mfc1 rt fs) :=
  of_mask ((rType_mask_FFE00000 ..).trans (by show _ = (0x44000000#32 : Word); decide))

theorem dmfc1 (rt : RegNum) (fs : FpRegNum) : Statement (.dmfc1 rt fs) :=
  of_mask ((rType_mask_FFE00000 ..).trans (by show _ = (0x44200000#32 : Word); decide))

theorem cfc1 (rt : RegNum) (fs : FpRegNum) : Statement (.cfc1 rt fs) :=
  of_mask ((rType_mask_FFE00000 ..).trans (by show _ = (0x44400000#32 : Word); decide))

theorem mtc1 (rt : RegNum) (fs : FpRegNum) : Statement (.mtc1 rt fs) :=
  of_mask ((rType_mask_FFE00000 ..).trans (by show _ = (0x44800000#32 : Word); decide))

theorem dmtc1 (rt : RegNum) (fs : FpRegNum) : Statement (.dmtc1 rt fs) :=
  of_mask ((rType_mask_FFE00000 ..).trans (by show _ = (0x44A00000#32 : Word); decide))

theorem ctc1 (rt : RegNum) (fs : FpRegNum) : Statement (.ctc1 rt fs) :=
  of_mask ((rType_mask_FFE00000 ..).trans (by show _ = (0x44C00000#32 : Word); decide))

theorem mfc2 (rt : RegNum) (rd : Cop0RegNum) : Statement (.mfc2 rt rd) :=
  of_mask ((rType_mask_FFE00000 ..).trans (by show _ = (0x48000000#32 : Word); decide))

theorem dmfc2 (rt : RegNum) (rd : Cop0RegNum) : Statement (.dmfc2 rt rd) :=
  of_mask ((rType_mask_FFE00000 ..).trans (by show _ = (0x48200000#32 : Word); decide))

theorem cfc2 (rt : RegNum) (rd : Cop0RegNum) : Statement (.cfc2 rt rd) :=
  of_mask ((rType_mask_FFE00000 ..).trans (by show _ = (0x48400000#32 : Word); decide))

theorem mtc2 (rt : RegNum) (rd : Cop0RegNum) : Statement (.mtc2 rt rd) :=
  of_mask ((rType_mask_FFE00000 ..).trans (by show _ = (0x48800000#32 : Word); decide))

theorem dmtc2 (rt : RegNum) (rd : Cop0RegNum) : Statement (.dmtc2 rt rd) :=
  of_mask ((rType_mask_FFE00000 ..).trans (by show _ = (0x48A00000#32 : Word); decide))

theorem ctc2 (rt : RegNum) (rd : Cop0RegNum) : Statement (.ctc2 rt rd) :=
  of_mask ((rType_mask_FFE00000 ..).trans (by show _ = (0x48C00000#32 : Word); decide))

theorem bc0f (offset : BitVec 16) : Statement (.bc0f offset) :=
  of_mask ((iType_mask_FFFF0000 ..).trans (by show _ = (0x41000000#32 : Word); decide))

theorem bc0t (offset : BitVec 16) : Statement (.bc0t offset) :=
  of_mask ((iType_mask_FFFF0000 ..).trans (by show _ = (0x41010000#32 : Word); decide))

theorem bc0fl (offset : BitVec 16) : Statement (.bc0fl offset) :=
  of_mask ((iType_mask_FFFF0000 ..).trans (by show _ = (0x41020000#32 : Word); decide))

theorem bc0tl (offset : BitVec 16) : Statement (.bc0tl offset) :=
  of_mask ((iType_mask_FFFF0000 ..).trans (by show _ = (0x41030000#32 : Word); decide))

theorem bc1f (offset : BitVec 16) : Statement (.bc1f offset) :=
  of_mask ((iType_mask_FFFF0000 ..).trans (by show _ = (0x45000000#32 : Word); decide))

theorem bc1t (offset : BitVec 16) : Statement (.bc1t offset) :=
  of_mask ((iType_mask_FFFF0000 ..).trans (by show _ = (0x45010000#32 : Word); decide))

theorem bc1fl (offset : BitVec 16) : Statement (.bc1fl offset) :=
  of_mask ((iType_mask_FFFF0000 ..).trans (by show _ = (0x45020000#32 : Word); decide))

theorem bc1tl (offset : BitVec 16) : Statement (.bc1tl offset) :=
  of_mask ((iType_mask_FFFF0000 ..).trans (by show _ = (0x45030000#32 : Word); decide))

theorem bc2f (offset : BitVec 16) : Statement (.bc2f offset) :=
  of_mask ((iType_mask_FFFF0000 ..).trans (by show _ = (0x49000000#32 : Word); decide))

theorem bc2t (offset : BitVec 16) : Statement (.bc2t offset) :=
  of_mask ((iType_mask_FFFF0000 ..).trans (by show _ = (0x49010000#32 : Word); decide))

theorem bc2fl (offset : BitVec 16) : Statement (.bc2fl offset) :=
  of_mask ((iType_mask_FFFF0000 ..).trans (by show _ = (0x49020000#32 : Word); decide))

theorem bc2tl (offset : BitVec 16) : Statement (.bc2tl offset) :=
  of_mask ((iType_mask_FFFF0000 ..).trans (by show _ = (0x49030000#32 : Word); decide))

theorem bc3f (offset : BitVec 16) : Statement (.bc3f offset) :=
  of_mask ((iType_mask_FFFF0000 ..).trans (by show _ = (0x4D000000#32 : Word); decide))

theorem bc3t (offset : BitVec 16) : Statement (.bc3t offset) :=
  of_mask ((iType_mask_FFFF0000 ..).trans (by show _ = (0x4D010000#32 : Word); decide))

theorem bc3fl (offset : BitVec 16) : Statement (.bc3fl offset) :=
  of_mask ((iType_mask_FFFF0000 ..).trans (by show _ = (0x4D020000#32 : Word); decide))

theorem bc3tl (offset : BitVec 16) : Statement (.bc3tl offset) :=
  of_mask ((iType_mask_FFFF0000 ..).trans (by show _ = (0x4D030000#32 : Word); decide))

theorem tlbr : Statement (.tlbr) :=
  of_mask ((rType_mask_FE00003F ..).trans (by show _ = (0x42000001#32 : Word); decide))

theorem tlbwi : Statement (.tlbwi) :=
  of_mask ((rType_mask_FE00003F ..).trans (by show _ = (0x42000002#32 : Word); decide))

theorem tlbwr : Statement (.tlbwr) :=
  of_mask ((rType_mask_FE00003F ..).trans (by show _ = (0x42000006#32 : Word); decide))

theorem tlbp : Statement (.tlbp) :=
  of_mask ((rType_mask_FE00003F ..).trans (by show _ = (0x42000008#32 : Word); decide))

theorem eret : Statement (.eret) :=
  of_mask ((rType_mask_FE00003F ..).trans (by show _ = (0x42000018#32 : Word); decide))

theorem deret : Statement (.deret) :=
  of_mask ((rType_mask_FE00003F ..).trans (by show _ = (0x4200001F#32 : Word); decide))

theorem wait : Statement (.wait) :=
  of_mask ((rType_mask_FE00003F ..).trans (by show _ = (0x42000020#32 : Word); decide))

theorem cop2 (cofun : BitVec 25) : Statement (.cop2 cofun) :=
  of_mask ((cop2Type_mask_FE000000 ..).trans (by show _ = (0x4A000000#32 : Word); decide))

theorem cache (op : CacheOp) (offset : BitVec 16) (base : RegNum) : Statement (.cache op offset base) :=
  of_mask ((iType_mask_FC000000 ..).trans (by show _ = (0xBC000000#32 : Word); decide))

theorem pref (hint : BitVec 5) (offset : BitVec 16) (base : RegNum) : Statement (.pref hint offset base) :=
  of_mask ((iType_mask_FC000000 ..).trans (by show _ = (0xCC000000#32 : Word); decide))

theorem addFmt (fmt : Fmt) (fd : FpRegNum) (fs : FpRegNum) (ft : FpRegNum) : Statement (.addFmt fmt fd fs ft) :=
  of_mask ((rType_mask_FE00003F ..).trans (by rw [fmtRs_top]; show _ = (0x46000000#32 : Word); decide))

theorem subFmt (fmt : Fmt) (fd : FpRegNum) (fs : FpRegNum) (ft : FpRegNum) : Statement (.subFmt fmt fd fs ft) :=
  of_mask ((rType_mask_FE00003F ..).trans (by rw [fmtRs_top]; show _ = (0x46000001#32 : Word); decide))

theorem mulFmt (fmt : Fmt) (fd : FpRegNum) (fs : FpRegNum) (ft : FpRegNum) : Statement (.mulFmt fmt fd fs ft) :=
  of_mask ((rType_mask_FE00003F ..).trans (by rw [fmtRs_top]; show _ = (0x46000002#32 : Word); decide))

theorem divFmt (fmt : Fmt) (fd : FpRegNum) (fs : FpRegNum) (ft : FpRegNum) : Statement (.divFmt fmt fd fs ft) :=
  of_mask ((rType_mask_FE00003F ..).trans (by rw [fmtRs_top]; show _ = (0x46000003#32 : Word); decide))

theorem sqrtFmt (fmt : Fmt) (fd : FpRegNum) (fs : FpRegNum) : Statement (.sqrtFmt fmt fd fs) :=
  of_mask ((rType_mask_FE00003F ..).trans (by rw [fmtRs_top]; show _ = (0x46000004#32 : Word); decide))

theorem absFmt (fmt : Fmt) (fd : FpRegNum) (fs : FpRegNum) : Statement (.absFmt fmt fd fs) :=
  of_mask ((rType_mask_FE00003F ..).trans (by rw [fmtRs_top]; show _ = (0x46000005#32 : Word); decide))

theorem movFmt (fmt : Fmt) (fd : FpRegNum) (fs : FpRegNum) : Statement (.movFmt fmt fd fs) :=
  of_mask ((rType_mask_FE00003F ..).trans (by rw [fmtRs_top]; show _ = (0x46000006#32 : Word); decide))

theorem negFmt (fmt : Fmt) (fd : FpRegNum) (fs : FpRegNum) : Statement (.negFmt fmt fd fs) :=
  of_mask ((rType_mask_FE00003F ..).trans (by rw [fmtRs_top]; show _ = (0x46000007#32 : Word); decide))

theorem roundLFmt (fmt : Fmt) (fd : FpRegNum) (fs : FpRegNum) : Statement (.roundLFmt fmt fd fs) :=
  of_mask ((rType_mask_FE00003F ..).trans (by rw [fmtRs_top]; show _ = (0x46000008#32 : Word); decide))

theorem truncLFmt (fmt : Fmt) (fd : FpRegNum) (fs : FpRegNum) : Statement (.truncLFmt fmt fd fs) :=
  of_mask ((rType_mask_FE00003F ..).trans (by rw [fmtRs_top]; show _ = (0x46000009#32 : Word); decide))

theorem ceilLFmt (fmt : Fmt) (fd : FpRegNum) (fs : FpRegNum) : Statement (.ceilLFmt fmt fd fs) :=
  of_mask ((rType_mask_FE00003F ..).trans (by rw [fmtRs_top]; show _ = (0x4600000A#32 : Word); decide))

theorem floorLFmt (fmt : Fmt) (fd : FpRegNum) (fs : FpRegNum) : Statement (.floorLFmt fmt fd fs) :=
  of_mask ((rType_mask_FE00003F ..).trans (by rw [fmtRs_top]; show _ = (0x4600000B#32 : Word); decide))

theorem roundWFmt (fmt : Fmt) (fd : FpRegNum) (fs : FpRegNum) : Statement (.roundWFmt fmt fd fs) :=
  of_mask ((rType_mask_FE00003F ..).trans (by rw [fmtRs_top]; show _ = (0x4600000C#32 : Word); decide))

theorem truncWFmt (fmt : Fmt) (fd : FpRegNum) (fs : FpRegNum) : Statement (.truncWFmt fmt fd fs) :=
  of_mask ((rType_mask_FE00003F ..).trans (by rw [fmtRs_top]; show _ = (0x4600000D#32 : Word); decide))

theorem ceilWFmt (fmt : Fmt) (fd : FpRegNum) (fs : FpRegNum) : Statement (.ceilWFmt fmt fd fs) :=
  of_mask ((rType_mask_FE00003F ..).trans (by rw [fmtRs_top]; show _ = (0x4600000E#32 : Word); decide))

theorem floorWFmt (fmt : Fmt) (fd : FpRegNum) (fs : FpRegNum) : Statement (.floorWFmt fmt fd fs) :=
  of_mask ((rType_mask_FE00003F ..).trans (by rw [fmtRs_top]; show _ = (0x4600000F#32 : Word); decide))

theorem cvtSFmt (fmt : Fmt) (fd : FpRegNum) (fs : FpRegNum) : Statement (.cvtSFmt fmt fd fs) :=
  of_mask ((rType_mask_FE00003F ..).trans (by rw [fmtRs_top]; show _ = (0x46000020#32 : Word); decide))

theorem cvtDFmt (fmt : Fmt) (fd : FpRegNum) (fs : FpRegNum) : Statement (.cvtDFmt fmt fd fs) :=
  of_mask ((rType_mask_FE00003F ..).trans (by rw [fmtRs_top]; show _ = (0x46000021#32 : Word); decide))

theorem cvtWFmt (fmt : Fmt) (fd : FpRegNum) (fs : FpRegNum) : Statement (.cvtWFmt fmt fd fs) :=
  of_mask ((rType_mask_FE00003F ..).trans (by rw [fmtRs_top]; show _ = (0x46000024#32 : Word); decide))

theorem cvtLFmt (fmt : Fmt) (fd : FpRegNum) (fs : FpRegNum) : Statement (.cvtLFmt fmt fd fs) :=
  of_mask ((rType_mask_FE00003F ..).trans (by rw [fmtRs_top]; show _ = (0x46000025#32 : Word); decide))

theorem cFFmt (fmt : Fmt) (fs : FpRegNum) (ft : FpRegNum) : Statement (.cFFmt fmt fs ft) :=
  of_mask ((rType_mask_FE00003F ..).trans (by rw [fmtRs_top]; show _ = (0x46000030#32 : Word); decide))

theorem cUnFmt (fmt : Fmt) (fs : FpRegNum) (ft : FpRegNum) : Statement (.cUnFmt fmt fs ft) :=
  of_mask ((rType_mask_FE00003F ..).trans (by rw [fmtRs_top]; show _ = (0x46000031#32 : Word); decide))

theorem cEqFmt (fmt : Fmt) (fs : FpRegNum) (ft : FpRegNum) : Statement (.cEqFmt fmt fs ft) :=
  of_mask ((rType_mask_FE00003F ..).trans (by rw [fmtRs_top]; show _ = (0x46000032#32 : Word); decide))

theorem cUeqFmt (fmt : Fmt) (fs : FpRegNum) (ft : FpRegNum) : Statement (.cUeqFmt fmt fs ft) :=
  of_mask ((rType_mask_FE00003F ..).trans (by rw [fmtRs_top]; show _ = (0x46000033#32 : Word); decide))

theorem cOltFmt (fmt : Fmt) (fs : FpRegNum) (ft : FpRegNum) : Statement (.cOltFmt fmt fs ft) :=
  of_mask ((rType_mask_FE00003F ..).trans (by rw [fmtRs_top]; show _ = (0x46000034#32 : Word); decide))

theorem cUltFmt (fmt : Fmt) (fs : FpRegNum) (ft : FpRegNum) : Statement (.cUltFmt fmt fs ft) :=
  of_mask ((rType_mask_FE00003F ..).trans (by rw [fmtRs_top]; show _ = (0x46000035#32 : Word); decide))

theorem cOleFmt (fmt : Fmt) (fs : FpRegNum) (ft : FpRegNum) : Statement (.cOleFmt fmt fs ft) :=
  of_mask ((rType_mask_FE00003F ..).trans (by rw [fmtRs_top]; show _ = (0x46000036#32 : Word); decide))

theorem cUleFmt (fmt : Fmt) (fs : FpRegNum) (ft : FpRegNum) : Statement (.cUleFmt fmt fs ft) :=
  of_mask ((rType_mask_FE00003F ..).trans (by rw [fmtRs_top]; show _ = (0x46000037#32 : Word); decide))

theorem cSfFmt (fmt : Fmt) (fs : FpRegNum) (ft : FpRegNum) : Statement (.cSfFmt fmt fs ft) :=
  of_mask ((rType_mask_FE00003F ..).trans (by rw [fmtRs_top]; show _ = (0x46000038#32 : Word); decide))

theorem cNgleFmt (fmt : Fmt) (fs : FpRegNum) (ft : FpRegNum) : Statement (.cNgleFmt fmt fs ft) :=
  of_mask ((rType_mask_FE00003F ..).trans (by rw [fmtRs_top]; show _ = (0x46000039#32 : Word); decide))

theorem cSeqFmt (fmt : Fmt) (fs : FpRegNum) (ft : FpRegNum) : Statement (.cSeqFmt fmt fs ft) :=
  of_mask ((rType_mask_FE00003F ..).trans (by rw [fmtRs_top]; show _ = (0x4600003A#32 : Word); decide))

theorem cNglFmt (fmt : Fmt) (fs : FpRegNum) (ft : FpRegNum) : Statement (.cNglFmt fmt fs ft) :=
  of_mask ((rType_mask_FE00003F ..).trans (by rw [fmtRs_top]; show _ = (0x4600003B#32 : Word); decide))

theorem cLtFmt (fmt : Fmt) (fs : FpRegNum) (ft : FpRegNum) : Statement (.cLtFmt fmt fs ft) :=
  of_mask ((rType_mask_FE00003F ..).trans (by rw [fmtRs_top]; show _ = (0x4600003C#32 : Word); decide))

theorem cNgeFmt (fmt : Fmt) (fs : FpRegNum) (ft : FpRegNum) : Statement (.cNgeFmt fmt fs ft) :=
  of_mask ((rType_mask_FE00003F ..).trans (by rw [fmtRs_top]; show _ = (0x4600003D#32 : Word); decide))

theorem cLeFmt (fmt : Fmt) (fs : FpRegNum) (ft : FpRegNum) : Statement (.cLeFmt fmt fs ft) :=
  of_mask ((rType_mask_FE00003F ..).trans (by rw [fmtRs_top]; show _ = (0x4600003E#32 : Word); decide))

theorem cNgtFmt (fmt : Fmt) (fs : FpRegNum) (ft : FpRegNum) : Statement (.cNgtFmt fmt fs ft) :=
  of_mask ((rType_mask_FE00003F ..).trans (by rw [fmtRs_top]; show _ = (0x4600003F#32 : Word); decide))

end Sys2Proof.Laws.EncodeInRow
end

