-- ==== Sys2Proof/Laws/SoftFloat.lean ====
section
/-! SUPPORT. Floating-point rounding against the real numbers: what packing, unpacking and `FpFormat.round` answer, read as the
real number they stand for. -/

namespace Sys2Proof.Machine

/-- The sign bit of a packed number. -/
theorem signOf_pack {f : FpFormat} (hf : f = fpSingle ∨ f = fpDouble) (neg : Bool) {ex frac : Nat} (he : ex < 2 ^ f.expBits)
    (hr : frac < 2 ^ f.fracBits) : signOf f (f.pack neg ex frac) = neg := by
  rcases hf with rfl | rfl <;> cases neg <;>
    simp only [signOf, FpFormat.pack, fpSingle, fpDouble] at * <;> norm_num at * <;> omega

/-- Unpacking a packed normal number gives its sign, significand and exponent back. -/
theorem unpack_pack {f : FpFormat} (neg : Bool) {ex frac : Nat} (h0 : 0 < ex)
    (he : ex < 2 ^ f.expBits - 1) (hr : frac < 2 ^ f.fracBits) :
    f.unpack (f.pack neg ex frac) =
      { val := .fin neg (2 ^ f.fracBits + frac) ((ex : Int) - (f.bias + f.fracBits : Nat)), denormal := false } := by
  have key : ∀ F E : ℕ, frac < 2 ^ F → ex < 2 ^ E →
      ((if neg then 2 ^ (F + E) else 0) + ex * 2 ^ F + frac) % 2 ^ F = frac ∧
      ((if neg then 2 ^ (F + E) else 0) + ex * 2 ^ F + frac) / 2 ^ F % 2 ^ E = ex ∧
      (((if neg then 2 ^ (F + E) else 0) + ex * 2 ^ F + frac) / 2 ^ (F + E) % 2 == 1) = neg := by
    intro F E h1 h2
    have hp : 0 < 2 ^ F := by positivity
    have hlt : ex * 2 ^ F + frac < 2 ^ (F + E) := by
      rw [pow_add]
      calc ex * 2 ^ F + frac < ex * 2 ^ F + 2 ^ F := by omega
        _ = (ex + 1) * 2 ^ F := by ring
        _ ≤ 2 ^ E * 2 ^ F := Nat.mul_le_mul_right _ h2
        _ = 2 ^ F * 2 ^ E := by ring
    have hd : (ex * 2 ^ F + frac) / 2 ^ F = ex := by
      rw [add_comm, Nat.add_mul_div_right _ _ hp, Nat.div_eq_of_lt h1, zero_add]
    have hm : (ex * 2 ^ F + frac) % 2 ^ F = frac := by
      rw [add_comm, Nat.add_mul_mod_self_right, Nat.mod_eq_of_lt h1]
    cases neg
    · refine ⟨by simpa using hm, ?_, ?_⟩
      · simp only [Bool.false_eq_true, if_false, zero_add, hd, Nat.mod_eq_of_lt h2]
      · simp [Nat.div_eq_of_lt hlt]
    · refine ⟨?_, ?_, ?_⟩
      · simp only [if_true, pow_add]; rw [add_assoc, Nat.mul_add_mod, hm]
      · simp only [if_true, pow_add]; rw [add_assoc, Nat.mul_add_div hp, hd, Nat.add_mod_left, Nat.mod_eq_of_lt h2]
      · simp only [if_true]; rw [add_assoc, Nat.add_div_left _ (by positivity), Nat.div_eq_of_lt hlt]; rfl
  obtain ⟨k1, k2, k3⟩ := key f.fracBits f.expBits hr (by omega)
  unfold FpFormat.unpack FpFormat.pack
  simp only [k1, k2, k3]
  rw [if_neg (by omega), if_neg (by omega)]
  push_cast
  rfl

/-- What a rounding does to a magnitude of `q` units and the fraction `θ` of one. -/
theorem roundsUp_cases (mode : Rounding) (neg : Bool) {q r k : Nat} {sticky : Bool} {d t : ℝ} (hr : r < 2 ^ k) (hd0 : 0 ≤ d)
    (hd1 : d < 1) (hs : sticky = false ↔ d = 0) (hk : k = 0 → d = 0) (ht : t = (r + d) / 2 ^ k) :
    0 ≤ t ∧ t < 1 ∧ (t = 0 ↔ r = 0 ∧ sticky = false) ∧
    match mode with
    | .nearest => (roundsUp mode neg q r k sticky = true → 1 / 2 ≤ t ∧ (t = 1 / 2 → q % 2 = 1)) ∧
        (roundsUp mode neg q r k sticky = false → t ≤ 1 / 2 ∧ (t = 1 / 2 → q % 2 = 0))
    | .zero => roundsUp mode neg q r k sticky = false
    | .up => roundsUp mode neg q r k sticky = (!neg && decide (t ≠ 0))
    | .down => roundsUp mode neg q r k sticky = (neg && decide (t ≠ 0)) := by
  have hp : (0 : ℝ) < 2 ^ k := by positivity
  have hr' : (r : ℝ) + 1 ≤ 2 ^ k := by exact_mod_cast hr
  have hr0 : (0 : ℝ) ≤ r := by positivity
  have t0 : 0 ≤ t := by rw [ht]; positivity
  have t1 : t < 1 := by rw [ht, div_lt_one hp]; linarith
  have tz : t = 0 ↔ r = 0 ∧ sticky = false := by
    rw [ht, div_eq_zero_iff, hs]
    constructor
    · rintro (h | h)
      · exact ⟨by exact_mod_cast (by linarith : (r : ℝ) = 0), by linarith⟩
      · exact absurd h hp.ne'
    · rintro ⟨rfl, rfl⟩; simp
  refine ⟨t0, t1, tz, ?_⟩
  have tz' : (r != 0 || sticky) = decide (t ≠ 0) := by
    rw [Bool.eq_iff_iff]
    simp only [decide_eq_true_eq, ne_eq, tz, Bool.or_eq_true, bne_iff_ne]
    cases sticky <;> simp
  cases mode with
  | zero => rfl
  | up => simp [roundsUp, tz']
  | down => simp [roundsUp, tz']
  | nearest =>
    have eq2 : t = (2 * r + 2 * d) / (2 * 2 ^ k) := by rw [ht]; field_simp
    have hlt : 2 ^ k < 2 * r → 1 / 2 < t := by
      intro h
      have : (2 : ℝ) ^ k < 2 * r := by exact_mod_cast h
      rw [ht, lt_div_iff₀ hp]; linarith
    have heq : 2 * r = 2 ^ k → t = 1 / 2 + d / 2 ^ k := by
      intro h
      have : (2 : ℝ) * r = 2 ^ k := by exact_mod_cast h
      rw [ht]; field_simp; linarith
    have hgt : 2 * r < 2 ^ k → t < 1 / 2 := by
      intro h
      rw [ht, div_lt_iff₀ hp]
      rcases Nat.eq_zero_or_pos k with rfl | hk0
      · have : r = 0 := by simpa using hr
        rw [hk rfl, this]; norm_num
      · obtain ⟨j, rfl⟩ := Nat.exists_eq_succ_of_ne_zero hk0.ne'
        have : r + 1 ≤ 2 ^ j := by rw [Nat.pow_succ] at h; omega
        have : (r : ℝ) + 1 ≤ 2 ^ j := by exact_mod_cast this
        rw [pow_succ]; linarith
    have dpos : sticky = true → 0 < d := fun h => lt_of_le_of_ne hd0 fun e => by
      have := hs.mpr e.symm; simp_all
    unfold roundsUp
    constructor
    · intro h
      simp only [Bool.or_eq_true, Bool.and_eq_true, decide_eq_true_eq, beq_iff_eq] at h
      rcases h with h | ⟨h, h'⟩
      · have := hlt h; exact ⟨this.le, fun e => by linarith⟩
      · have := heq h
        refine ⟨by rw [this]; have : 0 ≤ d / 2 ^ k := by positivity
                   linarith, fun e => ?_⟩
        have dz : d / 2 ^ k = 0 := by linarith
        rcases h' with h' | h'
        · have := div_pos (dpos h') hp; linarith
        · exact h'
    · intro h
      simp only [Bool.or_eq_false_iff, Bool.and_eq_false_iff, decide_eq_false_iff_not, beq_eq_false_iff_ne] at h
      obtain ⟨h1, h2⟩ := h
      rcases Nat.lt_or_ge (2 * r) (2 ^ k) with h3 | h3
      · have := hgt h3; exact ⟨this.le, fun e => by linarith⟩
      · have e : 2 * r = 2 ^ k := by omega
        rcases h2 with h2 | ⟨h2, h4⟩
        · exact absurd e h2
        · have : d = 0 := hs.mp h2
          rw [heq e, this]; refine ⟨by simp, fun _ => by omega⟩

/-- The bias of either format against its exponent width. -/
theorem bias_eq {f : FpFormat} (hf : f = fpSingle ∨ f = fpDouble) : 2 ^ f.expBits = 2 * f.bias + 2 ∧ 0 < f.bias := by
  rcases hf with rfl | rfl <;> decide

/-- The real number a packed normal number stands for. -/
theorem isReal_normal {f : FpFormat} (neg : Bool) {ex frac : Nat} (h0 : 0 < ex) (he : ex < 2 ^ f.expBits - 1)
    (hr : frac < 2 ^ f.fracBits) :
    isReal (f.unpack (f.pack neg ex frac)).val
      ((if neg then -1 else 1) * (((2 : ℝ) ^ f.fracBits + frac) * (2 : ℝ) ^ ((ex : ℤ) - f.bias - f.fracBits))) := by
  refine ⟨neg, _, _, by rw [unpack_pack neg h0 he hr], ?_⟩
  push_cast
  rw [sub_sub, mul_assoc]

/-- The packed infinity is one. -/
theorem isInfinity_infinity {f : FpFormat} (hf : f = fpSingle ∨ f = fpDouble) (neg : Bool) (flags : FpFlags) :
    isInfinity f neg flags (.value (f.infinity neg) flags) := by
  refine ⟨_, rfl, ?_, signOf_pack hf neg ?_ ?_⟩
  · rcases hf with rfl | rfl <;> cases neg <;> decide
  · rcases hf with rfl | rfl <;> decide
  · rcases hf with rfl | rfl <;> decide

/-- The packed zero is one. -/
theorem isZero_zero {f : FpFormat} (hf : f = fpSingle ∨ f = fpDouble) (neg : Bool) : isZero f neg (.exact (f.zero neg)) := by
  refine ⟨_, 1 - ((f.bias : ℤ) + f.fracBits), rfl, ?_, signOf_pack hf neg ?_ ?_⟩
  · rcases hf with rfl | rfl <;> cases neg <;> decide
  · rcases hf with rfl | rfl <;> decide
  · rcases hf with rfl | rfl <;> decide

/-- The real number of the largest finite number. -/
theorem largest_isReal {f : FpFormat} (hf : f = fpSingle ∨ f = fpDouble) (neg : Bool) :
    isReal (f.unpack (f.largest neg)).val
      ((if neg then -1 else 1) * ((2 : ℝ) ^ ((f.bias : ℤ) + 1) - (2 : ℝ) ^ ((f.bias : ℤ) - f.fracBits))) := by
  obtain ⟨hb, hb0⟩ := bias_eq hf
  have hF : 0 < 2 ^ f.fracBits := by positivity
  have := isReal_normal (f := f) neg (ex := 2 ^ f.expBits - 2) (frac := 2 ^ f.fracBits - 1) (by omega) (by omega) (by omega)
  refine (congrArg (isReal (f.unpack (f.largest neg)).val) ?_).mpr this
  congr 1
  have e1 : ((2 ^ f.expBits - 2 : ℕ) : ℤ) - f.bias - f.fracBits = f.bias - f.fracBits := by rw [hb]; push_cast; omega
  rw [e1, Nat.cast_sub (by omega : 1 ≤ 2 ^ f.fracBits)]
  have e2 : (2 : ℝ) ^ ((f.bias : ℤ) + 1) = 2 * (2 ^ f.fracBits * (2 : ℝ) ^ ((f.bias : ℤ) - f.fracBits)) := by
    rw [← zpow_natCast, ← zpow_add₀ (by norm_num), ← zpow_one_add₀ (by norm_num)]; congr 1; ring
  rw [e2]; push_cast; ring

/-- The real number of the smallest normal number. -/
theorem smallest_isReal {f : FpFormat} (hf : f = fpSingle ∨ f = fpDouble) (neg : Bool) :
    isReal (f.unpack (f.smallest neg)).val ((if neg then -1 else 1) * (2 : ℝ) ^ (1 - (f.bias : ℤ))) := by
  obtain ⟨hb, hb0⟩ := bias_eq hf
  have := isReal_normal (f := f) neg (ex := 1) (frac := 0) (by omega) (by omega) (by positivity)
  refine (congrArg (isReal (f.unpack (f.smallest neg)).val) ?_).mpr this
  congr 1
  push_cast
  rw [add_zero, ← zpow_natCast, ← zpow_add₀ (by norm_num)]; congr 1; ring

/-- The packed zero stands for 0. -/
theorem zero_isReal {f : FpFormat} (hf : f = fpSingle ∨ f = fpDouble) (neg : Bool) : isReal (f.unpack (f.zero neg)).val 0 := by
  obtain ⟨bits, e, h1, h2, -⟩ := isZero_zero hf neg
  simp only [FpOut.exact, FpOut.value.injEq] at h1
  exact ⟨neg, 0, e, by rw [h1.1, h2], by simp⟩

/-- The significand of a rounding: `q` units of the format's precision and a fraction of one. -/
theorem significand {F m : ℕ} {e : ℤ} {a : ℝ} {sticky : Bool} (hm : 0 < m) (hlo : (m : ℝ) * 2 ^ e ≤ a)
    (hhi : a < (m + 1) * (2 : ℝ) ^ e) (hs : sticky = false ↔ a = m * (2 : ℝ) ^ e) (hbits : sticky = true → 2 ^ (F + 2) ≤ m) :
    let k := m.log2 + 1 - (F + 1)
    let q := if F + 1 ≤ m.log2 + 1 then m / 2 ^ k else m * 2 ^ (F + 1 - (m.log2 + 1))
    ∃ d t : ℝ, 0 ≤ d ∧ d < 1 ∧ (sticky = false ↔ d = 0) ∧ (k = 0 → d = 0) ∧ t = ((m % 2 ^ k : ℕ) + d) / 2 ^ k ∧
      2 ^ F ≤ q ∧ q < 2 ^ (F + 1) ∧ a = (q + t) * (2 : ℝ) ^ (e + m.log2 - F) := by
  intro k q
  have hL := Nat.log2_self_le hm.ne'
  have hU : m < 2 ^ (m.log2 + 1) := Nat.lt_log2_self
  generalize hLe : m.log2 = L at *
  have p2 : (0 : ℝ) < 2 ^ e := by positivity
  set d := a / 2 ^ e - m with hd
  have had : a = (m + d) * 2 ^ e := by rw [hd]; field_simp; ring
  have hd0 : 0 ≤ d := by rw [hd, sub_nonneg, le_div_iff₀ p2]; exact hlo
  have hd1 : d < 1 := by rw [hd, sub_lt_iff_lt_add, div_lt_iff₀ p2]; linarith
  have hsd : sticky = false ↔ d = 0 := by
    rw [hs, had]
    constructor
    · intro h; have := mul_right_cancel₀ p2.ne' h; linarith
    · intro h; rw [h, add_zero]
  have hwide : sticky = true → F + 2 ≤ L := by
    intro h
    have := (hbits h).trans_lt hU
    have := (Nat.pow_lt_pow_iff_right (by norm_num : 1 < 2)).mp this
    omega
  refine ⟨d, ((m % 2 ^ k : ℕ) + d) / 2 ^ k, hd0, hd1, hsd, ?_, rfl, ?_⟩
  · intro hk
    rcases Bool.eq_false_or_eq_true sticky with h | h
    · have := hwide h; omega
    · exact hsd.mp h
  · rcases Nat.lt_or_ge L F with h | h
    · have hq : q = m * 2 ^ (F - L) := by simp only [q]; rw [if_neg (by omega)]; congr 2; omega
      have hk : k = 0 := by omega
      have hdz : d = 0 := hsd.mp (by
        rcases Bool.eq_false_or_eq_true sticky with h' | h'
        · have := hwide h'; omega
        · exact h')
      refine ⟨?_, ?_, ?_⟩
      · rw [hq]
        calc 2 ^ F = 2 ^ L * 2 ^ (F - L) := by rw [← pow_add]; congr 1; omega
          _ ≤ m * 2 ^ (F - L) := Nat.mul_le_mul_right _ hL
      · rw [hq]
        calc m * 2 ^ (F - L) < 2 ^ (L + 1) * 2 ^ (F - L) := Nat.mul_lt_mul_of_pos_right hU (by positivity)
          _ = 2 ^ (F + 1) := by rw [← pow_add]; congr 1; omega
      · have e1 : (2 : ℝ) ^ e = 2 ^ (F - L) * (2 : ℝ) ^ (e + L - F) := by
          rw [← zpow_natCast, ← zpow_add₀ (by norm_num)]; congr 1; push_cast [h.le]; ring
        rw [had, hq, hdz, hk, e1]; push_cast; simp [Nat.mod_one]; ring
    · have hq : q = m / 2 ^ k := by simp only [q]; rw [if_pos (by omega)]
      have hkv : k = L - F := by omega
      have hp : 0 < 2 ^ k := by positivity
      refine ⟨?_, ?_, ?_⟩
      · rw [hq, Nat.le_div_iff_mul_le hp]
        calc 2 ^ F * 2 ^ k = 2 ^ L := by rw [← pow_add]; congr 1; omega
          _ ≤ m := hL
      · rw [hq, Nat.div_lt_iff_lt_mul hp]
        calc m < 2 ^ (L + 1) := hU
          _ = 2 ^ (F + 1) * 2 ^ k := by rw [← pow_add]; congr 1; omega
      · have e1 : (2 : ℝ) ^ (e + L - F) = 2 ^ k * (2 : ℝ) ^ e := by
          rw [← zpow_natCast, ← zpow_add₀ (by norm_num)]; congr 1; rw [hkv]; push_cast [h]; ring
        have e2 : (m : ℝ) = 2 ^ k * (m / 2 ^ k : ℕ) + (m % 2 ^ k : ℕ) := by exact_mod_cast (Nat.div_add_mod m (2 ^ k)).symm
        have hpr : (0 : ℝ) < 2 ^ k := by positivity
        rw [had, e1, hq]
        rw [show ((m : ℝ) + d) = 2 ^ k * (m / 2 ^ k : ℕ) + (m % 2 ^ k : ℕ) + d by rw [← e2]]
        field_simp
        ring

/-- The sign a rounding result has. -/
theorem sign_of_neg {x : ℝ} {neg : Bool} (hneg : neg = decide (x < 0)) (hx : x ≠ 0) :
    x = (if neg then -1 else 1) * |x| ∧ (neg = true → x < 0) ∧ (neg = false → 0 < x) := by
  subst hneg
  rcases lt_or_gt_of_ne hx with h | h
  · simp [h, abs_of_neg h]
  · simp [h, abs_of_pos h, not_lt.mpr h.le]

/-- A magnitude `q + t` units rounded as `roundsUp` says is rounded as the mode asks. -/
theorem roundedTo_of {mode : Rounding} {neg : Bool} {q r k : Nat} {sticky : Bool} {d t u x : ℝ} (hr : r < 2 ^ k) (hd0 : 0 ≤ d)
    (hd1 : d < 1) (hs : sticky = false ↔ d = 0) (hk : k = 0 → d = 0) (ht : t = (r + d) / 2 ^ k) (hu : 0 < u)
    (hx : x = (if neg then -1 else 1) * ((q + t) * u)) :
    let q' := if roundsUp mode neg q r k sticky then q + 1 else q
    roundedTo mode u x ((if neg then -1 else 1) * (q' * u)) ∧
      ((r ≠ 0 ∨ sticky = true) ↔ (if neg then -1 else 1) * ((q' : ℝ) * u) ≠ x) := by
  obtain ⟨t0, t1, tz, hm⟩ := roundsUp_cases mode neg (q := q) hr hd0 hd1 hs hk ht
  intro q'
  have hq0 : (0 : ℝ) ≤ q := by positivity
  have hqt : 0 ≤ (q + t) * u := by positivity
  have habs : |x| = (q + t) * u := by rw [hx]; cases neg <;> simp [abs_of_nonneg hqt]
  have hq' : (q' = q + 1 ∧ roundsUp mode neg q r k sticky = true) ∨ (q' = q ∧ roundsUp mode neg q r k sticky = false) := by
    simp only [q']
    cases roundsUp mode neg q r k sticky <;> simp
  have htz : t = 0 → roundsUp mode neg q r k sticky = false := by
    intro h
    cases mode <;> simp only at hm
    · rcases Bool.eq_false_or_eq_true (roundsUp .nearest neg q r k sticky) with h' | h'
      · have := (hm.1 h').1; linarith
      · exact h'
    · exact hm
    · rw [hm]; simp [h]
    · rw [hm]; simp [h]
  constructor
  · refine ⟨(if neg then -1 else 1) * (q' : ℤ), by cases neg <;> simp, ?_⟩
    have hdiff : |(if neg then -1 else 1) * ((q' : ℝ) * u) - x| = |(q' : ℝ) - (q + t)| * u := by
      have e : (q' : ℝ) * u - (q + t) * u = (q' - (q + t)) * u := by ring
      have e2 : |((q' : ℝ) - (q + t)) * u| = |(q' : ℝ) - (q + t)| * u := by rw [abs_mul, abs_of_pos hu]
      rw [← e2, ← e, hx]
      cases neg
      · simp
      · rw [← abs_neg]; congr 1; simp; ring
    cases mode <;> simp only at hm ⊢
    · rw [hdiff]
      rcases hq' with ⟨h1, h2⟩ | ⟨h1, h2⟩
      · obtain ⟨h3, h4⟩ := hm.1 h2
        rw [h1]
        have e : |((q + 1 : ℕ) : ℝ) - (q + t)| = 1 - t := by push_cast; rw [abs_of_nonneg (by linarith)]; ring
        rw [e]
        refine ⟨by nlinarith, fun h => ?_⟩
        have : t = 1 / 2 := by
          have : 2 * (1 - t) = 1 := by have := mul_right_cancel₀ hu.ne' (by linarith : 2 * (1 - t) * u = 1 * u); exact this
          linarith
        have := h4 this
        cases neg <;> simp <;> omega
      · obtain ⟨h3, h4⟩ := hm.2 h2
        rw [h1]
        have e : |(q : ℝ) - (q + t)| = t := by rw [abs_of_nonpos (by linarith)]; ring
        rw [e]
        refine ⟨by nlinarith, fun h => ?_⟩
        have : t = 1 / 2 := by
          have : 2 * t = 1 := by have := mul_right_cancel₀ hu.ne' (by linarith : 2 * t * u = 1 * u); exact this
          linarith
        have := h4 this
        cases neg <;> simp <;> omega
    · have h1 : q' = q := by rcases hq' with h | h; · rw [hm] at h; simp at h
                             exact h.1
      rw [habs, h1]
      have e : |(if neg then -1 else 1) * ((q : ℝ) * u)| = q * u := by
        have : 0 ≤ (q : ℝ) * u := by positivity
        cases neg <;> simp [abs_of_nonneg this]
      rw [e, hx]
      refine ⟨by nlinarith, by nlinarith, ?_⟩
      have : 0 ≤ (q + t) * u * (q * u) := by positivity
      cases neg <;> simp <;> linarith
    · rw [hx]
      cases neg
      · rcases hq' with ⟨h1, h2⟩ | ⟨h1, h2⟩
        · rw [h1]; push_cast; simp; constructor <;> nlinarith [lt_of_le_of_ne t0 (fun e => by rw [htz e.symm] at h2; cases h2)]
        · have : t = 0 := by rw [hm] at h2; simpa using h2
          rw [h1, this]; simp; linarith
      · have h1 : q' = q := by rcases hq' with h | h; · rw [hm] at h; simp at h
                               exact h.1
        rw [h1]; simp; constructor <;> nlinarith
    · rw [hx]
      cases neg
      · have h1 : q' = q := by rcases hq' with h | h; · rw [hm] at h; simp at h
                               exact h.1
        rw [h1]; simp; constructor <;> nlinarith
      · rcases hq' with ⟨h1, h2⟩ | ⟨h1, h2⟩
        · rw [h1]; push_cast; simp; constructor <;> nlinarith [lt_of_le_of_ne t0 (fun e => by rw [htz e.symm] at h2; cases h2)]
        · have : t = 0 := by rw [hm] at h2; simpa using h2
          rw [h1, this]; simp; linarith
  · have : (r ≠ 0 ∨ sticky = true) ↔ t ≠ 0 := by
      have := not_congr tz
      cases sticky <;> simp_all
    rw [this, hx, Ne, Ne, not_iff_not]
    have hs0 : (if neg then (-1 : ℝ) else 1) ≠ 0 := by cases neg <;> simp
    rw [mul_right_inj' hs0, mul_left_inj' hu.ne']
    constructor
    · intro h
      rcases hq' with h1 | h1
      · rw [htz h] at h1; simp at h1
      · rw [h1.1, h, add_zero]
    · intro h
      rcases hq' with h1 | h1
      · rw [h1.1] at h; push_cast at h; linarith
      · rw [h1.1] at h; linarith

/-- Rounding away from zero in magnitude: the directed mode of the number's own sign. -/
theorem FpFormat.overflow_away (f : FpFormat) {mode : Rounding} {neg : Bool}
    (h : mode = .nearest ∨ (mode = .up ∧ neg = false) ∨ (mode = .down ∧ neg = true)) : f.overflow mode neg = f.infinity neg := by
  rcases h with rfl | ⟨rfl, rfl⟩ | ⟨rfl, rfl⟩ <;> rfl

/-- Any other mode overflows to the largest finite number. -/
theorem FpFormat.overflow_toward (f : FpFormat) {mode : Rounding} {neg : Bool}
    (h : ¬(mode = .nearest ∨ (mode = .up ∧ neg = false) ∨ (mode = .down ∧ neg = true))) : f.overflow mode neg = f.largest neg := by
  cases mode <;> cases neg <;> first | rfl | simp at h

/-- The directed mode of a tiny number's own sign flushes it to the smallest normal number. -/
theorem FpFormat.flushed_away (f : FpFormat) {mode : Rounding} {neg : Bool}
    (h : (mode = .up ∧ neg = false) ∨ (mode = .down ∧ neg = true)) : f.flushed mode neg = f.smallest neg := by
  rcases h with ⟨rfl, rfl⟩ | ⟨rfl, rfl⟩ <;> rfl

/-- Any other mode flushes a tiny number to zero. -/
theorem FpFormat.flushed_toward (f : FpFormat) {mode : Rounding} {neg : Bool}
    (h : ¬((mode = .up ∧ neg = false) ∨ (mode = .down ∧ neg = true))) : f.flushed mode neg = f.zero neg := by
  cases mode <;> cases neg <;> first | rfl | simp at h

/-- The number that `FpFormat.round` answers once the kept significand `q`, the rest `r` below it and the exponent are computed. -/
theorem FpFormat.round_delivers_of {f : FpFormat} (hf : f = fpSingle ∨ f = fpDouble) (c : FpRound) {neg : Bool} {L q r k : Nat} {e : Int}
    {sticky : Bool} {x d t : ℝ} (hx : x ≠ 0) (hneg : neg = decide (x < 0)) (hr : r < 2 ^ k) (hd0 : 0 ≤ d) (hd1 : d < 1)
    (hsd : sticky = false ↔ d = 0) (hk : k = 0 → d = 0) (ht : t = (r + d) / 2 ^ k) (hq1 : 2 ^ f.fracBits ≤ q)
    (hq2 : q < 2 ^ (f.fracBits + 1)) (hax : |x| = (q + t) * 2 ^ (e + L - f.fracBits)) :
    deliversReal f c x
      (let q' := if roundsUp c.mode neg q r k sticky then q + 1 else q
       let ex : Int := e + L + (if q' == 2 ^ (f.fracBits + 1) then 1 else 0)
       let frac := if q' == 2 ^ (f.fracBits + 1) then 0 else q' - 2 ^ f.fracBits
       if (f.bias : Int) < ex then .value (f.overflow c.mode neg) { FpFlags.none with o := true, i := true }
       else if ex < 1 - (f.bias : Int) then
         if c.flush then .value (f.flushed c.mode neg) { FpFlags.none with u := true, i := true } else .unimplemented
       else .value (f.pack neg (ex + f.bias).toNat frac) { FpFlags.none with i := r != 0 || sticky }) := by
  obtain ⟨hxs, hn1, hn0⟩ := sign_of_neg hneg hx
  obtain ⟨hb, hb0⟩ := bias_eq hf
  have two : (1 : ℝ) < 2 := by norm_num
  have two0 : (2 : ℝ) ≠ 0 := by norm_num
  have hu : (0 : ℝ) < 2 ^ (e + L - f.fracBits) := by positivity
  obtain ⟨hround, hinex⟩ := roundedTo_of (mode := c.mode) (x := x) hr hd0 hd1 hsd hk ht hu (hax ▸ hxs)
  dsimp only
  have hq3 : q ≤ (if roundsUp c.mode neg q r k sticky then q + 1 else q) ∧
      (if roundsUp c.mode neg q r k sticky then q + 1 else q) ≤ 2 ^ (f.fracBits + 1) := by split <;> omega
  generalize (if roundsUp c.mode neg q r k sticky then q + 1 else q) = q' at *
  have t01 : 0 ≤ t ∧ t < 1 := by
    obtain ⟨h0, h1, -⟩ := roundsUp_cases c.mode neg (q := q) hr hd0 hd1 hsd hk ht
    exact ⟨h0, h1⟩
  -- the binade of the rounded number
  obtain ⟨ex, frac, hex, hfrac, hfr, hval⟩ : ∃ (ex : ℤ) (frac : ℕ), ex = e + L + (if (q' == 2 ^ (f.fracBits + 1)) = true then 1 else 0) ∧
      frac = (if (q' == 2 ^ (f.fracBits + 1)) = true then 0 else q' - 2 ^ f.fracBits) ∧ frac < 2 ^ f.fracBits ∧
      (q' : ℝ) * 2 ^ (e + L - f.fracBits) = (2 ^ f.fracBits + frac) * (2 : ℝ) ^ (ex - f.fracBits) := by
    refine ⟨_, _, rfl, rfl, ?_, ?_⟩
    · split
      · positivity
      · next h => rw [beq_iff_eq] at h; have := Nat.pow_succ (n := 2) (m := f.fracBits); omega
    · split
      · next h =>
        rw [beq_iff_eq] at h
        rw [h, show e + (L : ℤ) + 1 - f.fracBits = (e + L - f.fracBits) + 1 by ring, zpow_add_one₀ two0]
        push_cast; ring
      · next h =>
        rw [show e + (L : ℤ) + 0 - f.fracBits = e + L - f.fracBits by ring, Nat.cast_sub (by omega)]
        push_cast; ring
  rw [← hex, ← hfrac]
  have hF : (2 : ℝ) ^ f.fracBits = (2 : ℝ) ^ (f.fracBits : ℤ) := (zpow_natCast _ _).symm
  have hu' : (0 : ℝ) < 2 ^ (ex - f.fracBits) := by positivity
  have hy1 : (2 : ℝ) ^ ex ≤ q' * 2 ^ (e + L - f.fracBits) := by
    rw [hval]
    calc (2 : ℝ) ^ ex = 2 ^ f.fracBits * 2 ^ (ex - f.fracBits) := by rw [hF, ← zpow_add₀ two0]; congr 1; ring
      _ ≤ _ := mul_le_mul_of_nonneg_right (by have : (0 : ℝ) ≤ frac := by positivity
                                              linarith) hu'.le
  have hy2 : (q' : ℝ) * 2 ^ (e + L - f.fracBits) < (2 : ℝ) ^ (ex + 1) := by
    rw [hval]
    have hfr' : (frac : ℝ) < 2 ^ f.fracBits := by exact_mod_cast hfr
    calc _ < (2 ^ f.fracBits + 2 ^ f.fracBits) * (2 : ℝ) ^ (ex - f.fracBits) := mul_lt_mul_of_pos_right (by linarith) hu'
      _ = 2 ^ (ex + 1) := by rw [← two_mul, hF, mul_assoc, ← zpow_add₀ two0, ← zpow_one_add₀ two0]; congr 1; ring
  have hay : |(if neg then (-1 : ℝ) else 1) * (q' * 2 ^ (e + L - f.fracBits))| = q' * 2 ^ (e + L - f.fracBits) := by
    have : 0 ≤ (q' : ℝ) * 2 ^ (e + L - f.fracBits) := by positivity
    cases neg <;> simp [abs_of_nonneg this]
  have hsgn : (if x < 0 then (-1 : ℝ) else 1) = (if neg then -1 else 1) := by rw [hneg]; simp
  have haway : ((c.mode = .up ∧ 0 < x) ∨ (c.mode = .down ∧ x < 0)) ↔ ((c.mode = .up ∧ neg = false) ∨ (c.mode = .down ∧ neg = true)) := by
    cases neg
    · have := hn0 rfl; simp [this, not_lt.mpr this.le]
    · have := hn1 rfl; simp [this, not_lt.mpr this.le]
  refine ⟨e + L - f.fracBits, (if neg then -1 else 1) * (q' * 2 ^ (e + L - f.fracBits)), ?_, ?_, hround, ?_⟩
  · rw [hax, show e + (L : ℤ) - f.fracBits + f.fracBits = f.fracBits + (e + L - f.fracBits) by ring, zpow_add₀ two0, ← hF]
    have : (2 : ℝ) ^ f.fracBits ≤ q := by exact_mod_cast hq1
    exact mul_le_mul_of_nonneg_right (by linarith) hu.le
  · rw [hax, show e + (L : ℤ) - f.fracBits + f.fracBits + 1 = (f.fracBits + 1) + (e + L - f.fracBits) by ring, zpow_add₀ two0]
    have : (q : ℝ) + 1 ≤ 2 ^ (f.fracBits + 1) := by exact_mod_cast hq2
    have e1 : (2 : ℝ) ^ ((f.fracBits : ℤ) + 1) = 2 ^ (f.fracBits + 1) := by exact_mod_cast zpow_natCast (2 : ℝ) (f.fracBits + 1)
    rw [e1]
    exact mul_lt_mul_of_pos_right (by linarith) hu
  · simp only [hay, hsgn, haway]
    refine ⟨fun h1 h2 => ?_, fun h1 => ?_, fun h1 => ?_⟩
    · have c1 : ¬(f.bias : ℤ) < ex := fun h => by
        have : (2 : ℝ) ^ ((f.bias : ℤ) + 1) ≤ 2 ^ ex := zpow_le_zpow_right₀ two.le (by omega)
        linarith
      have c2 : ¬ex < 1 - (f.bias : ℤ) := fun h => by
        have : (2 : ℝ) ^ (ex + 1) ≤ 2 ^ (1 - (f.bias : ℤ)) := zpow_le_zpow_right₀ two.le (by omega)
        linarith
      rw [if_neg c1, if_neg c2]
      refine ⟨_, _, rfl, ?_, ?_, rfl⟩
      · have := isReal_normal (f := f) neg (ex := (ex + f.bias).toNat) (frac := frac) (by omega) (by omega) hfr
        rw [show (((ex + f.bias).toNat : ℕ) : ℤ) - f.bias - f.fracBits = ex - f.fracBits by omega, ← hval] at this
        exact this
      · rw [← hinex]; cases sticky <;> simp
    · have c1 : (f.bias : ℤ) < ex := by
        by_contra h
        have : (2 : ℝ) ^ (ex + 1) ≤ 2 ^ ((f.bias : ℤ) + 1) := zpow_le_zpow_right₀ two.le (by omega)
        linarith
      rw [if_pos c1, ← hneg]
      constructor
      · intro h
        rw [f.overflow_away h]
        exact isInfinity_infinity hf neg _
      · intro h
        refine ⟨_, rfl, ?_⟩
        rw [f.overflow_toward h]
        exact largest_isReal hf neg
    · have c1 : ¬(f.bias : ℤ) < ex := fun h => by
        have : (2 : ℝ) ^ (1 - (f.bias : ℤ)) ≤ 2 ^ ex := zpow_le_zpow_right₀ two.le (by omega)
        linarith
      have c2 : ex < 1 - (f.bias : ℤ) := by
        by_contra h
        have : (2 : ℝ) ^ (1 - (f.bias : ℤ)) ≤ 2 ^ ex := zpow_le_zpow_right₀ two.le (by omega)
        linarith
      rw [if_neg c1, if_pos c2, ← hneg]
      constructor
      · intro h; rw [h]; rfl
      · intro h
        rw [h]
        refine ⟨_, rfl, ?_, ?_⟩
        · have z1 := signOf_pack hf neg (ex := 0) (frac := 0) (by positivity) (by positivity)
          have z2 := signOf_pack hf neg (ex := 1) (frac := 0) (by omega) (by positivity)
          by_cases hw : (c.mode = .up ∧ neg = false) ∨ (c.mode = .down ∧ neg = true)
          · rw [f.flushed_away hw]; exact z2
          · rw [f.flushed_toward hw]; exact z1
        · split
          · next h' =>
            rw [f.flushed_away h']; exact smallest_isReal hf neg
          · next h' =>
            rw [f.flushed_toward h']; exact zero_isReal hf neg

/-- Rounding delivers the real number of the exact magnitude: `m * 2 ^ e`, and a little more than that if `sticky`. -/
theorem FpFormat.round_delivers {f : FpFormat} (hf : f = fpSingle ∨ f = fpDouble) (c : FpRound) {neg : Bool} {m : Nat} {e : Int}
    {sticky : Bool} {x : ℝ} (hx : x ≠ 0) (hneg : neg = decide (x < 0)) (hm : 0 < m) (hlo : (m : ℝ) * 2 ^ e ≤ |x|)
    (hhi : |x| < (m + 1) * (2 : ℝ) ^ e) (hs : sticky = false ↔ |x| = m * (2 : ℝ) ^ e)
    (hbits : sticky = true → 2 ^ (f.fracBits + 2) ≤ m) : deliversReal f c x (f.round c neg m e sticky) := by
  obtain ⟨d, t, hd0, hd1, hsd, hk, ht, hq1, hq2, hax⟩ := significand hm hlo hhi hs hbits
  exact round_delivers_of hf c hx hneg (Nat.mod_lt _ (by positivity)) hd0 hd1 hsd hk ht hq1 hq2 hax

end Sys2Proof.Machine
end

