-- ==== Sys2Proof/Tests/Slice0.lean ====
section
/-! SUPPORT. The model's own tests: what WellFormed refuses, the decoding of written-out words of every constructor, single
instructions on small states with the results of spec/95_test_vectors.md (the vector is named), and a witness that meets the
hypotheses of each obligation. -/

namespace Sys2Proof

open Machine

/-! ## Well-formedness: one ill-formed term for each check -/

theorem test_wellFormed_refuses_reserved_s : (Fmt.reserved 0#4).wellFormed = false := by decide
theorem test_wellFormed_refuses_reserved_d : (Instr.addFmt (.reserved 1#4) 0#5 0#5 0#5).wellFormed = false := by decide
theorem test_wellFormed_refuses_reserved_w : (Instr.cvtSFmt (.reserved 4#4) 0#5 0#5).wellFormed = false := by decide
theorem test_wellFormed_refuses_reserved_l : (Instr.cLtFmt (.reserved 5#4) 0#5 0#5).wellFormed = false := by decide
theorem test_wellFormed_refuses_undefined_cache :
    [0x00#5, 0x01#5, 0x04#5, 0x05#5, 0x08#5, 0x09#5, 0x0D#5, 0x10#5, 0x11#5, 0x14#5, 0x15#5, 0x19#5, 0x1D#5].all
      (fun c => !(Instr.cache (.undefined c) 0#16 4#5).wellFormed) = true := by decide

/-! ## Decoding -/

/-- An I-type word (30_encoding.md R221). -/
def iWord (op : BitVec 6) (rs rt : BitVec 5) (imm : BitVec 16) : Word := op ++ rs ++ rt ++ imm

/-- An R-type word (30_encoding.md R221). -/
def rWord (op : BitVec 6) (rs rt rd sa : BitVec 5) (funct : BitVec 6) : Word := op ++ rs ++ rt ++ rd ++ sa ++ funct

/-- Each word decodes to its instruction, which lies in its row of the table and encodes to the word. -/
def decodesAll (rows : List (Word × Instr)) : Bool :=
  rows.all fun p => decide (decode p.1 = .ok p.2 ∧ encode p.2 = p.1 ∧ p.2.inRow p.1 = true ∧ p.2.wellFormed = true)

/-- Decoding, op, base, rt, offset (R226). -/
theorem test_decode_loads_stores :
    decodesAll [
      (iWord 0b100000#6 21#5 9#5 0xA53C#16, .lb 9#5 0xA53C#16 21#5),
      (iWord 0b100100#6 21#5 9#5 0xA53C#16, .lbu 9#5 0xA53C#16 21#5),
      (iWord 0b100001#6 21#5 9#5 0xA53C#16, .lh 9#5 0xA53C#16 21#5),
      (iWord 0b100101#6 21#5 9#5 0xA53C#16, .lhu 9#5 0xA53C#16 21#5),
      (iWord 0b100011#6 21#5 9#5 0xA53C#16, .lw 9#5 0xA53C#16 21#5),
      (iWord 0b100111#6 21#5 9#5 0xA53C#16, .lwu 9#5 0xA53C#16 21#5),
      (iWord 0b110111#6 21#5 9#5 0xA53C#16, .ld 9#5 0xA53C#16 21#5),
      (iWord 0b101000#6 21#5 9#5 0xA53C#16, .sb 9#5 0xA53C#16 21#5),
      (iWord 0b101001#6 21#5 9#5 0xA53C#16, .sh 9#5 0xA53C#16 21#5),
      (iWord 0b101011#6 21#5 9#5 0xA53C#16, .sw 9#5 0xA53C#16 21#5),
      (iWord 0b111111#6 21#5 9#5 0xA53C#16, .sd 9#5 0xA53C#16 21#5),
      (iWord 0b100010#6 21#5 9#5 0xA53C#16, .lwl 9#5 0xA53C#16 21#5),
      (iWord 0b100110#6 21#5 9#5 0xA53C#16, .lwr 9#5 0xA53C#16 21#5),
      (iWord 0b101010#6 21#5 9#5 0xA53C#16, .swl 9#5 0xA53C#16 21#5),
      (iWord 0b101110#6 21#5 9#5 0xA53C#16, .swr 9#5 0xA53C#16 21#5),
      (iWord 0b011010#6 21#5 9#5 0xA53C#16, .ldl 9#5 0xA53C#16 21#5),
      (iWord 0b011011#6 21#5 9#5 0xA53C#16, .ldr 9#5 0xA53C#16 21#5),
      (iWord 0b101100#6 21#5 9#5 0xA53C#16, .sdl 9#5 0xA53C#16 21#5),
      (iWord 0b101101#6 21#5 9#5 0xA53C#16, .sdr 9#5 0xA53C#16 21#5),
      (iWord 0b110000#6 21#5 9#5 0xA53C#16, .ll 9#5 0xA53C#16 21#5),
      (iWord 0b110100#6 21#5 9#5 0xA53C#16, .lld 9#5 0xA53C#16 21#5),
      (iWord 0b111000#6 21#5 9#5 0xA53C#16, .sc 9#5 0xA53C#16 21#5),
      (iWord 0b111100#6 21#5 9#5 0xA53C#16, .scd 9#5 0xA53C#16 21#5),
      (iWord 0b110001#6 21#5 9#5 0xA53C#16, .lwc1 9#5 0xA53C#16 21#5),
      (iWord 0b111001#6 21#5 9#5 0xA53C#16, .swc1 9#5 0xA53C#16 21#5),
      (iWord 0b110101#6 21#5 9#5 0xA53C#16, .ldc1 9#5 0xA53C#16 21#5),
      (iWord 0b111101#6 21#5 9#5 0xA53C#16, .sdc1 9#5 0xA53C#16 21#5),
      (iWord 0b110010#6 21#5 9#5 0xA53C#16, .lwc2 9#5 0xA53C#16 21#5),
      (iWord 0b111010#6 21#5 9#5 0xA53C#16, .swc2 9#5 0xA53C#16 21#5),
      (iWord 0b110110#6 21#5 9#5 0xA53C#16, .ldc2 9#5 0xA53C#16 21#5),
      (iWord 0b111110#6 21#5 9#5 0xA53C#16, .sdc2 9#5 0xA53C#16 21#5),
      (iWord 0b110011#6 21#5 9#5 0xA53C#16, .pref 9#5 0xA53C#16 21#5)] = true := by decide

/-- Decoding, op, rs, rt, immediate (R226). -/
theorem test_decode_immediates :
    decodesAll [
      (iWord 0b001000#6 21#5 9#5 0xA53C#16, .addi 9#5 21#5 0xA53C#16),
      (iWord 0b001001#6 21#5 9#5 0xA53C#16, .addiu 9#5 21#5 0xA53C#16),
      (iWord 0b001010#6 21#5 9#5 0xA53C#16, .slti 9#5 21#5 0xA53C#16),
      (iWord 0b001011#6 21#5 9#5 0xA53C#16, .sltiu 9#5 21#5 0xA53C#16),
      (iWord 0b001100#6 21#5 9#5 0xA53C#16, .andi 9#5 21#5 0xA53C#16),
      (iWord 0b001101#6 21#5 9#5 0xA53C#16, .ori 9#5 21#5 0xA53C#16),
      (iWord 0b001110#6 21#5 9#5 0xA53C#16, .xori 9#5 21#5 0xA53C#16),
      (iWord 0b011000#6 21#5 9#5 0xA53C#16, .daddi 9#5 21#5 0xA53C#16),
      (iWord 0b011001#6 21#5 9#5 0xA53C#16, .daddiu 9#5 21#5 0xA53C#16),
      (iWord 0b001111#6 0#5 9#5 0xA53C#16, .lui 9#5 0xA53C#16)] = true := by decide

/-- Decoding, SPECIAL and MADD words: op, rs, rt, rd, sa, funct (R227, R228). -/
theorem test_decode_registers :
    decodesAll [
      (rWord 0b000000#6 21#5 9#5 6#5 0#5 0b100000#6, .add 6#5 21#5 9#5),
      (rWord 0b000000#6 21#5 9#5 6#5 0#5 0b100001#6, .addu 6#5 21#5 9#5),
      (rWord 0b000000#6 21#5 9#5 6#5 0#5 0b100010#6, .sub 6#5 21#5 9#5),
      (rWord 0b000000#6 21#5 9#5 6#5 0#5 0b100011#6, .subu 6#5 21#5 9#5),
      (rWord 0b000000#6 21#5 9#5 6#5 0#5 0b101010#6, .slt 6#5 21#5 9#5),
      (rWord 0b000000#6 21#5 9#5 6#5 0#5 0b101011#6, .sltu 6#5 21#5 9#5),
      (rWord 0b000000#6 21#5 9#5 6#5 0#5 0b100100#6, .and 6#5 21#5 9#5),
      (rWord 0b000000#6 21#5 9#5 6#5 0#5 0b100101#6, .or 6#5 21#5 9#5),
      (rWord 0b000000#6 21#5 9#5 6#5 0#5 0b100110#6, .xor 6#5 21#5 9#5),
      (rWord 0b000000#6 21#5 9#5 6#5 0#5 0b100111#6, .nor 6#5 21#5 9#5),
      (rWord 0b000000#6 21#5 9#5 6#5 0#5 0b101100#6, .dadd 6#5 21#5 9#5),
      (rWord 0b000000#6 21#5 9#5 6#5 0#5 0b101101#6, .daddu 6#5 21#5 9#5),
      (rWord 0b000000#6 21#5 9#5 6#5 0#5 0b101110#6, .dsub 6#5 21#5 9#5),
      (rWord 0b000000#6 21#5 9#5 6#5 0#5 0b101111#6, .dsubu 6#5 21#5 9#5),
      (rWord 0b000000#6 21#5 9#5 6#5 0#5 0b011000#6, .mult 6#5 21#5 9#5),
      (rWord 0b000000#6 21#5 9#5 6#5 0#5 0b011001#6, .multu 6#5 21#5 9#5),
      (rWord 0b000000#6 21#5 9#5 6#5 0#5 0b011100#6, .dmult 6#5 21#5 9#5),
      (rWord 0b000000#6 21#5 9#5 6#5 0#5 0b011101#6, .dmultu 6#5 21#5 9#5),
      (rWord 0b011100#6 21#5 9#5 6#5 0#5 0b000000#6, .madd 6#5 21#5 9#5),
      (rWord 0b011100#6 21#5 9#5 6#5 0#5 0b000001#6, .maddu 6#5 21#5 9#5),
      (rWord 0b000000#6 21#5 9#5 0#5 0#5 0b011010#6, .div 21#5 9#5),
      (rWord 0b000000#6 21#5 9#5 0#5 0#5 0b011011#6, .divu 21#5 9#5),
      (rWord 0b000000#6 21#5 9#5 0#5 0#5 0b011110#6, .ddiv 21#5 9#5),
      (rWord 0b000000#6 21#5 9#5 0#5 0#5 0b011111#6, .ddivu 21#5 9#5),
      (rWord 0b000000#6 0#5 0#5 6#5 0#5 0b010000#6, .mfhi 6#5),
      (rWord 0b000000#6 0#5 0#5 6#5 0#5 0b010010#6, .mflo 6#5),
      (rWord 0b000000#6 21#5 0#5 0#5 0#5 0b010001#6, .mthi 21#5),
      (rWord 0b000000#6 21#5 0#5 0#5 0#5 0b010011#6, .mtlo 21#5)] = true := by decide

/-- Decoding, shift words (R227). -/
theorem test_decode_shifts :
    decodesAll [
      (rWord 0b000000#6 0#5 9#5 6#5 13#5 0b000000#6, .sll 6#5 9#5 13#5),
      (rWord 0b000000#6 0#5 9#5 6#5 13#5 0b000010#6, .srl 6#5 9#5 13#5),
      (rWord 0b000000#6 0#5 9#5 6#5 13#5 0b000011#6, .sra 6#5 9#5 13#5),
      (rWord 0b000000#6 0#5 9#5 6#5 13#5 0b111000#6, .dsll 6#5 9#5 13#5),
      (rWord 0b000000#6 0#5 9#5 6#5 13#5 0b111010#6, .dsrl 6#5 9#5 13#5),
      (rWord 0b000000#6 0#5 9#5 6#5 13#5 0b111011#6, .dsra 6#5 9#5 13#5),
      (rWord 0b000000#6 0#5 9#5 6#5 13#5 0b111100#6, .dsll32 6#5 9#5 13#5),
      (rWord 0b000000#6 0#5 9#5 6#5 13#5 0b111110#6, .dsrl32 6#5 9#5 13#5),
      (rWord 0b000000#6 0#5 9#5 6#5 13#5 0b111111#6, .dsra32 6#5 9#5 13#5),
      (rWord 0b000000#6 21#5 9#5 6#5 0#5 0b000100#6, .sllv 6#5 9#5 21#5),
      (rWord 0b000000#6 21#5 9#5 6#5 0#5 0b000110#6, .srlv 6#5 9#5 21#5),
      (rWord 0b000000#6 21#5 9#5 6#5 0#5 0b000111#6, .srav 6#5 9#5 21#5),
      (rWord 0b000000#6 21#5 9#5 6#5 0#5 0b010100#6, .dsllv 6#5 9#5 21#5),
      (rWord 0b000000#6 21#5 9#5 6#5 0#5 0b010110#6, .dsrlv 6#5 9#5 21#5),
      (rWord 0b000000#6 21#5 9#5 6#5 0#5 0b010111#6, .dsrav 6#5 9#5 21#5)] = true := by decide

/-- Decoding, jumps, REGIMM and BC words (R226, R229, R234, R237, R238). -/
theorem test_decode_jumps_branches :
    decodesAll [
      (rWord 0b000000#6 21#5 0#5 0#5 0#5 0b001000#6, .jr 21#5),
      (rWord 0b000000#6 21#5 0#5 6#5 0#5 0b001001#6, .jalr 6#5 21#5),
      (0b000010#6 ++ 0x2ABCDEF#26, .j 0x2ABCDEF#26),
      (0b000011#6 ++ 0x2ABCDEF#26, .jal 0x2ABCDEF#26),
      (iWord 0b000100#6 21#5 9#5 0xA53C#16, .beq 21#5 9#5 0xA53C#16),
      (iWord 0b000101#6 21#5 9#5 0xA53C#16, .bne 21#5 9#5 0xA53C#16),
      (iWord 0b010100#6 21#5 9#5 0xA53C#16, .beql 21#5 9#5 0xA53C#16),
      (iWord 0b010101#6 21#5 9#5 0xA53C#16, .bnel 21#5 9#5 0xA53C#16),
      (iWord 0b000110#6 21#5 0#5 0xA53C#16, .blez 21#5 0xA53C#16),
      (iWord 0b000111#6 21#5 0#5 0xA53C#16, .bgtz 21#5 0xA53C#16),
      (iWord 0b010110#6 21#5 0#5 0xA53C#16, .blezl 21#5 0xA53C#16),
      (iWord 0b010111#6 21#5 0#5 0xA53C#16, .bgtzl 21#5 0xA53C#16),
      (iWord 0b000001#6 21#5 0#5 0xA53C#16, .bltz 21#5 0xA53C#16),
      (iWord 0b000001#6 21#5 1#5 0xA53C#16, .bgez 21#5 0xA53C#16),
      (iWord 0b000001#6 21#5 2#5 0xA53C#16, .bltzl 21#5 0xA53C#16),
      (iWord 0b000001#6 21#5 3#5 0xA53C#16, .bgezl 21#5 0xA53C#16),
      (iWord 0b000001#6 21#5 16#5 0xA53C#16, .bltzal 21#5 0xA53C#16),
      (iWord 0b000001#6 21#5 17#5 0xA53C#16, .bgezal 21#5 0xA53C#16),
      (iWord 0b000001#6 21#5 18#5 0xA53C#16, .bltzall 21#5 0xA53C#16),
      (iWord 0b000001#6 21#5 19#5 0xA53C#16, .bgezall 21#5 0xA53C#16),
      (iWord 0b010000#6 8#5 0#5 0xA53C#16, .bc0f 0xA53C#16),
      (iWord 0b010000#6 8#5 1#5 0xA53C#16, .bc0t 0xA53C#16),
      (iWord 0b010000#6 8#5 2#5 0xA53C#16, .bc0fl 0xA53C#16),
      (iWord 0b010000#6 8#5 3#5 0xA53C#16, .bc0tl 0xA53C#16),
      (iWord 0b010001#6 8#5 0#5 0xA53C#16, .bc1f 0xA53C#16),
      (iWord 0b010001#6 8#5 1#5 0xA53C#16, .bc1t 0xA53C#16),
      (iWord 0b010001#6 8#5 2#5 0xA53C#16, .bc1fl 0xA53C#16),
      (iWord 0b010001#6 8#5 3#5 0xA53C#16, .bc1tl 0xA53C#16),
      (iWord 0b010010#6 8#5 0#5 0xA53C#16, .bc2f 0xA53C#16),
      (iWord 0b010010#6 8#5 1#5 0xA53C#16, .bc2t 0xA53C#16),
      (iWord 0b010010#6 8#5 2#5 0xA53C#16, .bc2fl 0xA53C#16),
      (iWord 0b010010#6 8#5 3#5 0xA53C#16, .bc2tl 0xA53C#16),
      (iWord 0b010011#6 8#5 0#5 0xA53C#16, .bc3f 0xA53C#16),
      (iWord 0b010011#6 8#5 1#5 0xA53C#16, .bc3t 0xA53C#16),
      (iWord 0b010011#6 8#5 2#5 0xA53C#16, .bc3fl 0xA53C#16),
      (iWord 0b010011#6 8#5 3#5 0xA53C#16, .bc3tl 0xA53C#16)] = true := by decide

/-- Decoding, system calls, SYNC and traps (R227, R229). -/
theorem test_decode_traps :
    decodesAll [
      (0b000000#6 ++ 0xABCDE#20 ++ 0b001100#6, .syscall 0xABCDE#20),
      (0b000000#6 ++ 0xABCDE#20 ++ 0b001101#6, .brk 0xABCDE#20),
      (0b000000#6 ++ 0xABCDE#20 ++ 0b001110#6, .sdbbp 0xABCDE#20),
      (rWord 0b000000#6 0#5 0#5 0#5 0#5 0b001111#6, .sync),
      (0b000000#6 ++ 21#5 ++ 9#5 ++ 0x2AB#10 ++ 0b110000#6, .tge 21#5 9#5 0x2AB#10),
      (0b000000#6 ++ 21#5 ++ 9#5 ++ 0x2AB#10 ++ 0b110001#6, .tgeu 21#5 9#5 0x2AB#10),
      (0b000000#6 ++ 21#5 ++ 9#5 ++ 0x2AB#10 ++ 0b110010#6, .tlt 21#5 9#5 0x2AB#10),
      (0b000000#6 ++ 21#5 ++ 9#5 ++ 0x2AB#10 ++ 0b110011#6, .tltu 21#5 9#5 0x2AB#10),
      (0b000000#6 ++ 21#5 ++ 9#5 ++ 0x2AB#10 ++ 0b110100#6, .teq 21#5 9#5 0x2AB#10),
      (0b000000#6 ++ 21#5 ++ 9#5 ++ 0x2AB#10 ++ 0b110110#6, .tne 21#5 9#5 0x2AB#10),
      (iWord 0b000001#6 21#5 8#5 0xA53C#16, .tgei 21#5 0xA53C#16),
      (iWord 0b000001#6 21#5 9#5 0xA53C#16, .tgeiu 21#5 0xA53C#16),
      (iWord 0b000001#6 21#5 10#5 0xA53C#16, .tlti 21#5 0xA53C#16),
      (iWord 0b000001#6 21#5 11#5 0xA53C#16, .tltiu 21#5 0xA53C#16),
      (iWord 0b000001#6 21#5 12#5 0xA53C#16, .teqi 21#5 0xA53C#16),
      (iWord 0b000001#6 21#5 14#5 0xA53C#16, .tnei 21#5 0xA53C#16)] = true := by decide

/-- Decoding, the moves to and from coprocessors 0 to 2, the CP0 operations, COP2 (R234, R237, R238). -/
theorem test_decode_coprocessor_moves :
    decodesAll [
      (rWord 0b010000#6 0#5 9#5 6#5 0#5 0b000000#6, .mfc0 9#5 6#5),
      (rWord 0b010000#6 1#5 9#5 6#5 0#5 0b000000#6, .dmfc0 9#5 6#5),
      (rWord 0b010000#6 2#5 9#5 6#5 0#5 0b000000#6, .cfc0 9#5 6#5),
      (rWord 0b010000#6 4#5 9#5 6#5 0#5 0b000000#6, .mtc0 9#5 6#5),
      (rWord 0b010000#6 5#5 9#5 6#5 0#5 0b000000#6, .dmtc0 9#5 6#5),
      (rWord 0b010000#6 6#5 9#5 6#5 0#5 0b000000#6, .ctc0 9#5 6#5),
      (rWord 0b010001#6 0#5 9#5 6#5 0#5 0b000000#6, .mfc1 9#5 6#5),
      (rWord 0b010001#6 1#5 9#5 6#5 0#5 0b000000#6, .dmfc1 9#5 6#5),
      (rWord 0b010001#6 2#5 9#5 6#5 0#5 0b000000#6, .cfc1 9#5 6#5),
      (rWord 0b010001#6 4#5 9#5 6#5 0#5 0b000000#6, .mtc1 9#5 6#5),
      (rWord 0b010001#6 5#5 9#5 6#5 0#5 0b000000#6, .dmtc1 9#5 6#5),
      (rWord 0b010001#6 6#5 9#5 6#5 0#5 0b000000#6, .ctc1 9#5 6#5),
      (rWord 0b010010#6 0#5 9#5 6#5 0#5 0b000000#6, .mfc2 9#5 6#5),
      (rWord 0b010010#6 1#5 9#5 6#5 0#5 0b000000#6, .dmfc2 9#5 6#5),
      (rWord 0b010010#6 2#5 9#5 6#5 0#5 0b000000#6, .cfc2 9#5 6#5),
      (rWord 0b010010#6 4#5 9#5 6#5 0#5 0b000000#6, .mtc2 9#5 6#5),
      (rWord 0b010010#6 5#5 9#5 6#5 0#5 0b000000#6, .dmtc2 9#5 6#5),
      (rWord 0b010010#6 6#5 9#5 6#5 0#5 0b000000#6, .ctc2 9#5 6#5),
      (rWord 0b010000#6 16#5 0#5 0#5 0#5 0b000001#6, .tlbr),
      (rWord 0b010000#6 16#5 0#5 0#5 0#5 0b000010#6, .tlbwi),
      (rWord 0b010000#6 16#5 0#5 0#5 0#5 0b000110#6, .tlbwr),
      (rWord 0b010000#6 16#5 0#5 0#5 0#5 0b001000#6, .tlbp),
      (rWord 0b010000#6 16#5 0#5 0#5 0#5 0b011000#6, .eret),
      (rWord 0b010000#6 16#5 0#5 0#5 0#5 0b011111#6, .deret),
      (rWord 0b010000#6 16#5 0#5 0#5 0#5 0b100000#6, .wait),
      (0b010010#6 ++ 1#1 ++ 0x1ABCDEF#25, .cop2 0x1ABCDEF#25)] = true := by decide

/-- Decoding, the operations of CACHE (21_cache.md R190). -/
theorem test_decode_cache :
    decodesAll [
      (iWord 0b101111#6 21#5 0#5 0xA53C#16, .cache .indexInvalidateI 0xA53C#16 21#5),
      (iWord 0b101111#6 21#5 1#5 0xA53C#16, .cache .indexWriteBackInvalidateD 0xA53C#16 21#5),
      (iWord 0b101111#6 21#5 4#5 0xA53C#16, .cache .indexLoadTagI 0xA53C#16 21#5),
      (iWord 0b101111#6 21#5 5#5 0xA53C#16, .cache .indexLoadTagD 0xA53C#16 21#5),
      (iWord 0b101111#6 21#5 8#5 0xA53C#16, .cache .indexStoreTagI 0xA53C#16 21#5),
      (iWord 0b101111#6 21#5 9#5 0xA53C#16, .cache .indexStoreTagD 0xA53C#16 21#5),
      (iWord 0b101111#6 21#5 13#5 0xA53C#16, .cache .createDirtyExclusiveD 0xA53C#16 21#5),
      (iWord 0b101111#6 21#5 16#5 0xA53C#16, .cache .hitInvalidateI 0xA53C#16 21#5),
      (iWord 0b101111#6 21#5 17#5 0xA53C#16, .cache .hitInvalidateD 0xA53C#16 21#5),
      (iWord 0b101111#6 21#5 20#5 0xA53C#16, .cache .fillI 0xA53C#16 21#5),
      (iWord 0b101111#6 21#5 21#5 0xA53C#16, .cache .hitWriteBackInvalidateD 0xA53C#16 21#5),
      (iWord 0b101111#6 21#5 25#5 0xA53C#16, .cache .hitWriteBackD 0xA53C#16 21#5),
      (iWord 0b101111#6 21#5 29#5 0xA53C#16, .cache .fillD 0xA53C#16 21#5),
      (iWord 0b101111#6 21#5 2#5 0xA53C#16, .cache (.undefined 2#5) 0xA53C#16 21#5)] = true := by decide

/-- Decoding, COP1 words: fmt, ft, fs, fd, funct (R236, R237). -/
theorem test_decode_floating_point :
    decodesAll [
      (rWord 0b010001#6 16#5 9#5 6#5 13#5 0b000000#6, .addFmt .s 13#5 6#5 9#5),
      (rWord 0b010001#6 17#5 9#5 6#5 13#5 0b000001#6, .subFmt .d 13#5 6#5 9#5),
      (rWord 0b010001#6 20#5 9#5 6#5 13#5 0b000010#6, .mulFmt .w 13#5 6#5 9#5),
      (rWord 0b010001#6 21#5 9#5 6#5 13#5 0b000011#6, .divFmt .l 13#5 6#5 9#5),
      (rWord 0b010001#6 18#5 0#5 6#5 13#5 0b000100#6, .sqrtFmt (.reserved 2#4) 13#5 6#5),
      (rWord 0b010001#6 16#5 0#5 6#5 13#5 0b000101#6, .absFmt .s 13#5 6#5),
      (rWord 0b010001#6 17#5 0#5 6#5 13#5 0b000110#6, .movFmt .d 13#5 6#5),
      (rWord 0b010001#6 20#5 0#5 6#5 13#5 0b000111#6, .negFmt .w 13#5 6#5),
      (rWord 0b010001#6 21#5 0#5 6#5 13#5 0b001000#6, .roundLFmt .l 13#5 6#5),
      (rWord 0b010001#6 18#5 0#5 6#5 13#5 0b001001#6, .truncLFmt (.reserved 2#4) 13#5 6#5),
      (rWord 0b010001#6 16#5 0#5 6#5 13#5 0b001010#6, .ceilLFmt .s 13#5 6#5),
      (rWord 0b010001#6 17#5 0#5 6#5 13#5 0b001011#6, .floorLFmt .d 13#5 6#5),
      (rWord 0b010001#6 20#5 0#5 6#5 13#5 0b001100#6, .roundWFmt .w 13#5 6#5),
      (rWord 0b010001#6 21#5 0#5 6#5 13#5 0b001101#6, .truncWFmt .l 13#5 6#5),
      (rWord 0b010001#6 18#5 0#5 6#5 13#5 0b001110#6, .ceilWFmt (.reserved 2#4) 13#5 6#5),
      (rWord 0b010001#6 16#5 0#5 6#5 13#5 0b001111#6, .floorWFmt .s 13#5 6#5),
      (rWord 0b010001#6 17#5 0#5 6#5 13#5 0b100000#6, .cvtSFmt .d 13#5 6#5),
      (rWord 0b010001#6 20#5 0#5 6#5 13#5 0b100001#6, .cvtDFmt .w 13#5 6#5),
      (rWord 0b010001#6 21#5 0#5 6#5 13#5 0b100100#6, .cvtWFmt .l 13#5 6#5),
      (rWord 0b010001#6 18#5 0#5 6#5 13#5 0b100101#6, .cvtLFmt (.reserved 2#4) 13#5 6#5),
      (rWord 0b010001#6 16#5 9#5 6#5 0#5 0b110000#6, .cFFmt .s 6#5 9#5),
      (rWord 0b010001#6 17#5 9#5 6#5 0#5 0b110001#6, .cUnFmt .d 6#5 9#5),
      (rWord 0b010001#6 20#5 9#5 6#5 0#5 0b110010#6, .cEqFmt .w 6#5 9#5),
      (rWord 0b010001#6 21#5 9#5 6#5 0#5 0b110011#6, .cUeqFmt .l 6#5 9#5),
      (rWord 0b010001#6 18#5 9#5 6#5 0#5 0b110100#6, .cOltFmt (.reserved 2#4) 6#5 9#5),
      (rWord 0b010001#6 16#5 9#5 6#5 0#5 0b110101#6, .cUltFmt .s 6#5 9#5),
      (rWord 0b010001#6 17#5 9#5 6#5 0#5 0b110110#6, .cOleFmt .d 6#5 9#5),
      (rWord 0b010001#6 20#5 9#5 6#5 0#5 0b110111#6, .cUleFmt .w 6#5 9#5),
      (rWord 0b010001#6 21#5 9#5 6#5 0#5 0b111000#6, .cSfFmt .l 6#5 9#5),
      (rWord 0b010001#6 18#5 9#5 6#5 0#5 0b111001#6, .cNgleFmt (.reserved 2#4) 6#5 9#5),
      (rWord 0b010001#6 16#5 9#5 6#5 0#5 0b111010#6, .cSeqFmt .s 6#5 9#5),
      (rWord 0b010001#6 17#5 9#5 6#5 0#5 0b111011#6, .cNglFmt .d 6#5 9#5),
      (rWord 0b010001#6 20#5 9#5 6#5 0#5 0b111100#6, .cLtFmt .w 6#5 9#5),
      (rWord 0b010001#6 21#5 9#5 6#5 0#5 0b111101#6, .cNgeFmt .l 6#5 9#5),
      (rWord 0b010001#6 18#5 9#5 6#5 0#5 0b111110#6, .cLeFmt (.reserved 2#4) 6#5 9#5),
      (rWord 0b010001#6 16#5 9#5 6#5 0#5 0b111111#6, .cNgtFmt .s 6#5 9#5)] = true := by decide

/-- Words that are no instruction: reserved cells of the maps (30_encoding.md R226 to R238). -/
theorem test_decode_rejects :
    (decode (0b010011#6 ++ 1#5 ++ 0#21), decode (0b000000#6 ++ 0#20 ++ 0b000101#6), decode (0b000001#6 ++ 4#5 ++ 4#5 ++ 0#16),
      decode (0b010000#6 ++ 1#1 ++ 0#19 ++ 0b000011#6), decode (0b010001#6 ++ 16#5 ++ 0#15 ++ 0b010000#6)) =
    (.error (.copReserved 3#2), .error .reserved, .error .reserved, .error .cop0Nop, .error .fpuUnimplemented) := by decide

/-! ## States of the tests (the common start state of 95_test_vectors.md) -/

/-- What is seen of the next state. -/
def seen {α : Type} (o : Out) (f : State → α) : Option α :=
  match o with
  | .next t => some (f t)
  | _ => none

/-- The word a fetch answers. -/
def seenWord (r : Res Word) : Option Word :=
  match r with
  | .ok w _ => some w
  | _ => none

/-- A next state is seen. -/
theorem next_of_seen {o : Out} (h : (seen o fun _ => ()) = some ()) : ∃ t, o = .next t := by
  cases o with
  | next t => exact ⟨t, rfl⟩
  | fault _ => cases h
  | refused _ => cases h

/-- Kernel mode, all else clear, the memory of M0 and eight bytes more at 0x1000, r4 at it. -/
def m0 (be : Bool) : State :=
  { State.reset with
    pc := 0xFFFFFFFF80002000#64
    cp0 := { State.reset.cp0 with status := 0, config := State.reset.cp0.config ||| (if be then 0x8000#32 else 0#32) }
    gpr := State.reset.gpr.set 4 0xFFFFFFFF80001000#64
    mem := Memory.setBytes [] 0x1000#36 ((List.range 16).map fun i => BitVec.ofNat 8 (0x80 + i)) }

/-- The little-endian start state with another Status. -/
def withStatus (v : Word) (s : State) : State := { s with cp0 := { s.cp0 with status := v } }

/-- The start state with r4 and r5. -/
def r45 (a b : DWord) : State := ((m0 false).setGpr 4#5 a).setGpr 5#5 b

/-- User mode with UX = 0. -/
def userState : State := withStatus 0x10#32 (m0 false)

/-- GPR 2 after an instruction. -/
def r2 (i : Instr) (s : State) : Option DWord := seen (exec i s) (·.rget 2#5)

/-- HI and LO after an instruction. -/
def hiLo (i : Instr) (s : State) : Option (DWord × DWord) := seen (exec i s) fun t => (t.hi, t.lo)

/-- `n` bytes of memory after an instruction. -/
def bytes (i : Instr) (s : State) (a : PAddr) (n : Nat) : Option (List Nat) :=
  seen (exec i s) fun t => (List.range n).map fun k => (t.physByte (a + BitVec.ofNat 36 k)).toNat

/-- f4, f6 and FCR31 with CU1 = FR = 1. -/
def fpState (a b : DWord) (x : Word) : State :=
  { ((withStatus 0x24000000#32 (m0 false)).setFgr 4#5 a).setFgr 6#5 b with fcr31 := x }

/-- What an operation of format S delivers for two operands (the high word of an FPR is free after it, U4). -/
def fpS (op : FpFormat → FpRound → FpVal → FpVal → FpOut) (a b : Nat) (c : FpRound) : FpOut :=
  fpSingle.screen [fpSingle.unpack a, fpSingle.unpack b] (op fpSingle c (fpSingle.unpack a).val (fpSingle.unpack b).val)

/-- FCR31 after a floating-point operation, and whether it trapped. -/
def fpFlags (i : Instr) (a b : DWord) (x : Word) : Option (Nat × Bool) :=
  seen (exec i (fpState a b x)) fun t => (t.fcr31.toNat, t.excTaken)

/-- The whole of FPR 2, and FCR31. -/
def fpOpD (i : Instr) (a b : DWord) (x : Word) : Option (Nat × Nat) :=
  seen (exec i (fpState a b x)) fun t => ((t.fget 2#5).toNat, t.fcr31.toNat)

/-! ## Single instructions -/

/-- L1, L2, L3, L4, L5, L6. -/
theorem test_aligned_loads :
    r2 (.lb 2#5 1#16 4#5) (m0 true) = some 0xFFFFFFFFFFFFFF81#64 ∧
    r2 (.lbu 2#5 1#16 4#5) (m0 false) = some 0x81#64 ∧
    r2 (.lh 2#5 2#16 4#5) (m0 true) = some 0xFFFFFFFFFFFF8283#64 ∧
    r2 (.lh 2#5 2#16 4#5) (m0 false) = some 0xFFFFFFFFFFFF8382#64 ∧
    r2 (.lw 2#5 4#16 4#5) (m0 true) = some 0xFFFFFFFF84858687#64 ∧
    r2 (.lw 2#5 4#16 4#5) (m0 false) = some 0xFFFFFFFF87868584#64 ∧
    r2 (.lwu 2#5 4#16 4#5) (m0 true) = some 0x84858687#64 ∧
    r2 (.ld 2#5 0#16 4#5) (m0 true) = some 0x8081828384858687#64 ∧
    r2 (.ld 2#5 0#16 4#5) (m0 false) = some 0x8786858483828180#64 := by
  decide

/-- L8, L9, L11, L12. -/
theorem test_unaligned_loads :
    let w := fun be => (m0 be).setGpr 2#5 0x11223344#64
    let d := fun be => (m0 be).setGpr 2#5 0x1122334455667788#64
    r2 (.lwl 2#5 1#16 4#5) (w true) = some 0xFFFFFFFF81828344#64 ∧
    r2 (.lwl 2#5 1#16 4#5) (w false) = some 0xFFFFFFFF81803344#64 ∧
    r2 (.lwr 2#5 1#16 4#5) (w true) = some 0x11228081#64 ∧ r2 (.lwr 2#5 1#16 4#5) (w false) = some 0x11838281#64 ∧
    r2 (.ldl 2#5 1#16 4#5) (d true) = some 0x8182838485868788#64 ∧
    r2 (.ldl 2#5 1#16 4#5) (d false) = some 0x8180334455667788#64 ∧
    r2 (.ldr 2#5 1#16 4#5) (d true) = some 0x1122334455668081#64 ∧
    r2 (.ldr 2#5 1#16 4#5) (d false) = some 0x1187868584838281#64 := by
  decide

/-- L16; L13, L14, L15. -/
theorem test_stores :
    let w := fun be => (m0 be).setGpr 2#5 0x11223344#64
    let d := fun be => (m0 be).setGpr 2#5 0x1122334455667788#64
    bytes (.sw 2#5 4#16 4#5) (d true) 0x1003#36 6 = some [0x83, 0x55, 0x66, 0x77, 0x88, 0x88] ∧
    bytes (.sb 2#5 1#16 4#5) (d true) 0x1000#36 3 = some [0x80, 0x88, 0x82] ∧
    bytes (.sh 2#5 2#16 4#5) (d false) 0x1001#36 4 = some [0x81, 0x88, 0x77, 0x84] ∧
    bytes (.swl 2#5 1#16 4#5) (w true) 0x1000#36 5 = some [0x80, 0x11, 0x22, 0x33, 0x84] ∧
    bytes (.swl 2#5 1#16 4#5) (w false) 0x1000#36 3 = some [0x22, 0x11, 0x82] ∧
    bytes (.swr 2#5 1#16 4#5) (w false) 0x1000#36 5 = some [0x80, 0x44, 0x33, 0x22, 0x84] ∧
    bytes (.sdl 2#5 1#16 4#5) (d true) 0x1000#36 9 = some [0x80, 0x11, 0x22, 0x33, 0x44, 0x55, 0x66, 0x77, 0x88] ∧
    bytes (.sdr 2#5 1#16 4#5) (d true) 0x1000#36 3 = some [0x77, 0x88, 0x82] := by
  decide

/-- L22, L23. -/
theorem test_linked_and_conditional :
    r2 (.ll 2#5 4#16 4#5) (m0 true) = some 0xFFFFFFFF84858687#64 ∧
    seen (exec (.ll 2#5 4#16 4#5) (m0 true)) (fun t => (t.llbit, t.cp0.llAddr)) = some (true, 0x100#32) ∧
    r2 (.sc 2#5 4#16 4#5) ((m0 true).setGpr 2#5 0x55#64) = some 0#64 ∧
    r2 (.sc 2#5 4#16 4#5) { (m0 true).setGpr 2#5 0x55#64 with llbit := true } = some 1#64 ∧
    bytes (.sc 2#5 4#16 4#5) { (m0 true).setGpr 2#5 0x55#64 with llbit := true } 0x1004#36 4 = some [0, 0, 0, 0x55] := by
  decide

/-- L7, L17, L20, L21. -/
theorem test_address_errors :
    Raises (.lw 2#5 2#16 4#5) (m0 true) (.addressError .load 0xFFFFFFFF80001002#64) ∧
    Raises (.sh 2#5 1#16 4#5) (m0 true) (.addressError .store 0xFFFFFFFF80001001#64) ∧
    Raises (.ld 2#5 0#16 4#5) userState .reservedInstruction ∧
    Raises (.lw 2#5 4#16 4#5) userState (.addressError .load 0xFFFFFFFF80001004#64) :=
  ⟨rfl, rfl, rfl, rfl⟩

/-- L7 on: what the exception leaves. -/
theorem test_address_error_entry :
    seen (exec (.lw 2#5 2#16 4#5) (m0 true)) (fun t => (t.cp0.badVAddr, t.cp0.epc, t.cp0.status, t.pc, t.rget 2#5)) =
      some (0xFFFFFFFF80001002#64, 0xFFFFFFFF80002000#64, 2#32, 0xFFFFFFFF80000180#64, 0#64) := by
  decide

/-- A1, A4, A5, A6, A27. -/
theorem test_overflows :
    Raises (.add 2#5 4#5 5#5) (r45 0x7FFFFFFF#64 1#64) .overflow ∧
    Raises (.addi 2#5 4#5 0x7FFF#16) (r45 0x7FFF8001#64 0#64) .overflow ∧
    Raises (.sub 2#5 4#5 5#5) (r45 0xFFFFFFFF80000000#64 1#64) .overflow ∧
    Raises (.dadd 2#5 4#5 5#5) (r45 0x7FFFFFFFFFFFFFFF#64 1#64) .overflow ∧
    Raises (.add 0#5 4#5 5#5) (r45 0x7FFFFFFF#64 1#64) .overflow :=
  ⟨rfl, rfl, rfl, rfl, rfl⟩

/-- A2, A3, A5, A7 to A10. -/
theorem test_arithmetic :
    r2 (.addu 2#5 4#5 5#5) (r45 0x7FFFFFFF#64 1#64) = some 0xFFFFFFFF80000000#64 ∧
    r2 (.addiu 2#5 4#5 0xFFFF#16) (r45 0#64 0#64) = some 0xFFFFFFFFFFFFFFFF#64 ∧
    r2 (.subu 2#5 4#5 5#5) (r45 0xFFFFFFFF80000000#64 1#64) = some 0x7FFFFFFF#64 ∧
    r2 (.daddiu 2#5 4#5 0xFFFF#16) (r45 0x100000000#64 0#64) = some 0xFFFFFFFF#64 ∧
    r2 (.slt 2#5 4#5 5#5) (r45 (-1) 1#64) = some 1#64 ∧ r2 (.sltu 2#5 4#5 5#5) (r45 (-1) 1#64) = some 0#64 ∧
    r2 (.slti 2#5 4#5 0xFFFF#16) (r45 (-2) 0#64) = some 1#64 ∧ r2 (.sltiu 2#5 4#5 0xFFFF#16) (r45 5#64 0#64) = some 1#64 := by
  decide

/-- A11 to A15. -/
theorem test_logical :
    r2 (.andi 2#5 4#5 0xFFFF#16) (r45 (-1) 0#64) = some 0xFFFF#64 ∧
    r2 (.ori 2#5 0#5 0x8000#16) (m0 false) = some 0x8000#64 ∧
    r2 (.xori 2#5 4#5 0xFFFF#16) (r45 (-1) 0#64) = some 0xFFFFFFFFFFFF0000#64 ∧
    r2 (.lui 2#5 0x8000#16) (m0 false) = some 0xFFFFFFFF80000000#64 ∧
    r2 (.nor 2#5 0#5 0#5) (m0 false) = some 0xFFFFFFFFFFFFFFFF#64 := by
  decide

/-- A16, A18 to A24. -/
theorem test_shifts :
    r2 (.sll 2#5 4#5 31#5) (r45 1#64 0#64) = some 0xFFFFFFFF80000000#64 ∧
    r2 (.srl 2#5 4#5 1#5) (r45 0xFFFFFFFF80000000#64 0#64) = some 0x40000000#64 ∧
    r2 (.sra 2#5 4#5 1#5) (r45 0xFFFFFFFF80000000#64 0#64) = some 0xFFFFFFFFC0000000#64 ∧
    r2 (.sllv 2#5 4#5 5#5) (r45 1#64 33#64) = some 2#64 ∧ r2 (.dsllv 2#5 4#5 5#5) (r45 1#64 65#64) = some 2#64 ∧
    r2 (.dsrav 2#5 4#5 5#5) (r45 0x8000000000000000#64 63#64) = some (-1) ∧
    r2 (.dsrl 2#5 4#5 4#5) (r45 0x0123456789ABCDEF#64 0#64) = some 0x00123456789ABCDE#64 ∧
    r2 (.dsll32 2#5 4#5 0#5) (r45 1#64 0#64) = some 0x100000000#64 ∧
    r2 (.dsrl32 2#5 4#5 31#5) (r45 0x8000000000000000#64 0#64) = some 1#64 ∧
    r2 (.dsra32 2#5 4#5 0#5) (r45 0x8000000000000000#64 0#64) = some 0xFFFFFFFF80000000#64 := by
  decide

/-- M2, M3, M5, M6, M7, M8, M9, M11, M12. -/
theorem test_multiply_divide :
    hiLo (.mult 2#5 4#5 5#5) (r45 (-2) 3#64) = some (-1, -6) ∧ r2 (.mult 2#5 4#5 5#5) (r45 (-2) 3#64) = some (-6) ∧
    hiLo (.multu 0#5 4#5 5#5) (r45 (-2) 3#64) = some (2#64, -6) ∧
    hiLo (.dmultu 0#5 4#5 5#5) (r45 (-2) 3#64) = some (2#64, -6) ∧
    hiLo (.madd 2#5 4#5 5#5) { r45 2#64 3#64 with lo := -1 } = some (1#64, 5#64) ∧
    hiLo (.maddu 2#5 4#5 5#5) (r45 (-1) (-1)) = some (-2, 1#64) ∧
    hiLo (.div 4#5 5#5) (r45 (-7) 2#64) = some (-1, -3) ∧
    hiLo (.div 4#5 5#5) (r45 0xFFFFFFFF80000000#64 (-1)) = some (0#64, 0xFFFFFFFF80000000#64) ∧
    hiLo (.divu 4#5 5#5) (r45 (-7) 2#64) = some (1#64, 0x7FFFFFFC#64) ∧
    hiLo (.ddivu 4#5 5#5) (r45 (-7) 2#64) = some (1#64, 0x7FFFFFFFFFFFFFFC#64) := by
  decide

/-- The pc and the branch state after a jump or a branch at A = 0xFFFF_FFFF_8000_2000. -/
def flow (i : Instr) (s : State) : Option (DWord × Option DWord) := seen (exec i s) fun t => (t.pc, t.delaySlot)

/-- B1 to B12 of the jump and branch vectors: taken, not taken, likely not taken, linking with rs = r31. -/
theorem test_jumps_branches :
    flow (.beq 4#5 5#5 3#16) (r45 1#64 1#64) = some (0xFFFFFFFF80002004#64, some 0xFFFFFFFF80002010#64) ∧
    flow (.beq 4#5 5#5 3#16) (r45 1#64 2#64) = some (0xFFFFFFFF80002004#64, none) ∧
    flow (.bnel 4#5 5#5 3#16) (r45 1#64 1#64) = some (0xFFFFFFFF80002008#64, none) ∧
    flow (.bltz 4#5 0xFFFF#16) (r45 (-1) 0#64) = some (0xFFFFFFFF80002004#64, some 0xFFFFFFFF80002000#64) ∧
    flow (.j 0x100#26) (m0 false) = some (0xFFFFFFFF80002004#64, some 0xFFFFFFFF80000400#64) ∧
    flow (.jalr 31#5 4#5) (m0 false) = some (0xFFFFFFFF80002004#64, some 0xFFFFFFFF80001000#64) ∧
    seen (exec (.jalr 31#5 4#5) (m0 false)) (·.rget 31#5) = some 0xFFFFFFFF80002008#64 ∧
    seen (exec (.bgezal 5#5 3#16) (r45 0#64 (-1))) (fun t => (t.rget 31#5, t.pc)) =
      some (0xFFFFFFFF80002008#64, 0xFFFFFFFF80002004#64) := by
  decide

/-- T5 and the trap vectors: a signed comparison does not trap where an unsigned one does. -/
theorem test_traps :
    Raises (.tgeu 4#5 5#5 0#10) (r45 (-1) 1#64) .trap ∧
    exec (.tge 4#5 5#5 0#10) (r45 (-1) 1#64) = .next (r45 (-1) 1#64).advance ∧
    Raises (.teqi 4#5 0xFFFF#16) (r45 (-1) 0#64) .trap ∧
    Raises (.syscall 5#20) (m0 false) .syscall ∧ Raises (.brk 0#20) (m0 false) .breakpoint :=
  ⟨rfl, rfl, rfl, rfl, rfl⟩

/-- ExcCode and EPC of an exception whose CE is not free (C15), and BD in a delay slot. -/
theorem test_exception_entry :
    let t := takeException (.copUnusable 2#2) { m0 false with delaySlot := some 0#64 }
    (t.cp0.cause, t.cp0.epc, t.pc, t.delaySlot) = (0xA000002C#32, 0xFFFFFFFF80001FFC#64, 0xFFFFFFFF80000180#64, none) := by
  decide

/-- The ExcCodes of 11_cp0_registers.md R95. -/
theorem test_exception_codes :
    [Exc.interrupt, .tlbModified 0#64, .tlbRefill .load 0#64, .tlbRefill .store 0#64, .addressError .fetch 0#64,
      .addressError .store 0#64, .syscall, .breakpoint, .reservedInstruction, .copUnusable 1#2, .overflow, .trap,
      .floatingPoint].map (fun x => x.code.toNat) = [0, 1, 2, 3, 4, 5, 8, 9, 10, 11, 12, 13, 15] := by
  decide

/-- C1, C3, C4, C5, C6, C8, C9, C10, C15, C17. -/
theorem test_coprocessor :
    seen (exec (.lwc1 4#5 0#16 4#5) (m0 true)) (·.cp0.cause) = some 0x1000002C#32 ∧
    seen (exec (.dmtc1 2#5 4#5) ((withStatus 0x20000000#32 (m0 true)).setGpr 2#5 0x1122334455667788#64))
      (fun t => (low32 (t.fget 4#5), low32 (t.fget 5#5))) = some (0x55667788#32, 0x11223344#32) ∧
    seen (exec (.dmtc1 2#5 4#5) ((withStatus 0x24000000#32 (m0 true)).setGpr 2#5 0x1122334455667788#64)) (·.fget 4#5) =
      some 0x1122334455667788#64 ∧
    seen (exec (.ldc1 4#5 0#16 4#5) (withStatus 0x20000000#32 (m0 true))) (fun t => (low32 (t.fget 4#5), low32 (t.fget 5#5))) =
      some (0x84858687#32, 0x80818283#32) ∧
    seen (exec (.ctc1 2#5 31#5) ((withStatus 0x20000000#32 (m0 true)).setGpr 2#5 0x01000003#64))
      (fun t => (t.fcr31, t.excTaken)) =
      some (0x01000003#32, false) ∧
    seen (exec (.ctc1 2#5 31#5) ((withStatus 0x20000000#32 (m0 true)).setGpr 2#5 0x1080#64)) (fun t => (t.fcr31, t.excTaken)) =
      some (0x1080#32, true) ∧
    seen (exec (.ctc1 2#5 31#5) ((withStatus 0x20000000#32 (m0 true)).setGpr 2#5 0x20000#64)) (fun t => (t.fcr31, t.excTaken)) =
      some (0x20000#32, true) ∧
    seen (exec (.mfc2 2#5 4#5) (m0 true)) (·.cp0.cause) = some 0x2000002C#32 ∧
    seen (exec (.bc3f 3#16) (m0 true)) (·.cp0.cause) = some 0x3000002C#32 := by
  decide

/-- K1 to K7. -/
theorem test_cp0_moves :
    let s := { m0 false with cp0 := { (m0 false).cp0 with epc := 0x4000001000#64 } }
    r2 (.mfc0 2#5 14#5) s = some 0x1000#64 ∧ r2 (.dmfc0 2#5 14#5) s = some 0x4000001000#64 ∧
    seen (exec (.mtc0 2#5 14#5) (s.setGpr 2#5 0x80002000#64)) (·.cp0.epc) = some 0xFFFFFFFF80002000#64 ∧
    seen (exec (.mtc0 2#5 6#5) (s.setGpr 2#5 10#64)) (fun t => (t.cp0.wired, t.cp0.random)) = some (10#6, 47#6) ∧
    seen (exec (.mtc0 2#5 11#5) { s with plat := { s.plat with timerInt := true } }) (·.plat.timerInt) = some false ∧
    seen (exec (.mtc0 2#5 13#5) (s.setGpr 2#5 0xFFFFFFFF#64)) (·.cp0.cause) = some 0x300#32 ∧
    r2 (.mfc0 2#5 15#5) s = some 0x2D00#64 ∧
    seen (exec (.mfc0 2#5 12#5) userState) (·.cp0.cause) = some 0x2C#32 := by
  decide

/-- K9, K11, K13, K15, K16, K18, K19. -/
theorem test_cp0_operations :
    let s := m0 false
    let named := { s with cp0 := { s.cp0 with index := 5, entryHi := 0xC00000FF8000A000#64, entryLo0 := 0x1F#64 } }
    seen (exec .eret { withStatus 6#32 s with llbit := true }) (fun t => (t.pc, t.cp0.status, t.llbit)) =
      some (0#64, 2#32, false) ∧
    seen (exec .tlbwi named) (fun t => (t.tlb[5].vpn2, t.tlb[5].g, t.tlb[5].even.c, t.tlb[5].odd.v, t.tlb[6].vpn2)) =
      some (0x7FC0005#27, false, 3#3, false, 0x7FC0006#27) ∧
    seen (exec .tlbp named) (·.cp0.index) = some 5#32 ∧
    seen (exec .tlbr { named with cp0 := { named.cp0 with entryHi := 0#64 } }) (·.cp0.entryHi) = some 0xC00000FF8000A000#64 ∧
    seen (exec .wait s) (·.plat.power) = some .halt ∧
    seen (exec (.sdbbp 0#20) s) (fun t => (t.cp0.depc, t.cp0.debug, t.pc, t.cp0.status)) =
      some (0xFFFFFFFF80002000#64, 0x40000002#32, 0xFFFFFFFFBFC00400#64, 0#32) ∧
    seen (exec .deret { s with cp0 := { s.cp0 with depc := 0x80#64, debug := 0x40000002#32 } }) (fun t => (t.pc, t.debugMode)) =
      some (0x80#64, false) := by
  decide +kernel

/-- F1, F2, F4, F5, F6: the values. -/
theorem test_fp_arithmetic :
    let rn : FpRound := { mode := .nearest, flush := false }
    let exact := FpFlags.none
    let inexact := { FpFlags.none with i := true }
    fpS FpFormat.add 0x3F800000 0x40000000 rn = .value 0x40400000 exact ∧
    fpS FpFormat.add 0x3F800000 0x33800000 rn = .value 0x3F800000 inexact ∧
    fpS FpFormat.add 0x3F800000 0x33800000 { rn with mode := .up } = .value 0x3F800001 inexact ∧
    fpS FpFormat.div 0x3F800000 0x40400000 rn = .value 0x3EAAAAAB inexact ∧
    fpS FpFormat.div 0x3F800000 0x40400000 { rn with mode := .zero } = .value 0x3EAAAAAA inexact ∧
    fpS FpFormat.div 0xBF800000 0 rn = .value 0xFF800000 { FpFlags.none with z := true } ∧
    fpS FpFormat.div 0 0 rn = .value 0x7FBFFFFF { FpFlags.none with v := true } := by
  decide

/-- F7, F8, F10, F11, F12, F13, F14, F17: the values. -/
theorem test_fp_exceptional_values :
    let rn : FpRound := { mode := .nearest, flush := false }
    let overflow := { FpFlags.none with o := true, i := true }
    let underflow := { FpFlags.none with u := true, i := true }
    let invalid := { FpFlags.none with v := true }
    fpS FpFormat.add 0x7F7FFFFF 0x7F7FFFFF rn = .value 0x7F800000 overflow ∧
    fpS FpFormat.add 0x7F7FFFFF 0x7F7FFFFF { rn with mode := .zero } = .value 0x7F7FFFFF overflow ∧
    fpS FpFormat.add 0xFF7FFFFF 0xFF7FFFFF { rn with mode := .up } = .value 0xFF7FFFFF overflow ∧
    fpS FpFormat.sub 0x7F800000 0x7F800000 rn = .value 0x7FBFFFFF invalid ∧
    fpS FpFormat.add 0x3F800000 1 rn = .unimplemented ∧ fpS FpFormat.add 0x7FBFFFFF 0x3F800000 rn = .unimplemented ∧
    fpS FpFormat.add 0x7FC00000 0x3F800000 rn = .value 0x7FBFFFFF invalid ∧
    fpS FpFormat.mul 0x00800000 0x00800000 { rn with flush := true } = .value 0 underflow ∧
    fpS FpFormat.mul 0x00800000 0x00800000 { mode := .up, flush := true } = .value 0x00800000 underflow := by
  decide

/-- F2, F3, F5, F12, F15, F17: FCR31, and whether the operation traps. -/
theorem test_fp_flags :
    fpFlags (.addFmt .s 2#5 4#5 6#5) 0x3F800000#64 0x33800000#64 2#32 = some (0x1006, false) ∧
    fpFlags (.addFmt .s 2#5 4#5 6#5) 0x3F800000#64 0x33800000#64 0x80#32 = some (0x1080, true) ∧
    fpFlags (.divFmt .s 2#5 4#5 6#5) 0xBF800000#64 0#64 0#32 = some (0x8020, false) ∧
    fpFlags (.addFmt .s 2#5 4#5 6#5) 0x3F800000#64 1#64 0#32 = some (0x20000, true) ∧
    fpFlags (.movFmt .s 2#5 4#5) 0x7FBFFFFF#64 0#64 0x1004#32 = some (0x1004, false) ∧
    fpFlags (.mulFmt .s 2#5 4#5 6#5) 0x00800000#64 0x00800000#64 0x01000000#32 = some (0x0100300C, false) := by
  decide

/-- F18, F19, F26, F27, F30, and the square root of 2. -/
theorem test_fp_conversions :
    let s := fpSingle.unpack
    toFixed 32 .nearest (s 0x40200000) = .value 2 { FpFlags.none with i := true } ∧
    toFixed 32 .nearest (s 0x4F000000) = .unimplemented ∧ toFixed 32 .zero (s 0xCF000000) = .value 0x80000000 FpFlags.none ∧
    fpSingle.ofInt { mode := .nearest, flush := false } 0x7FFFFFFF = .value 0x4F000000 { FpFlags.none with i := true } ∧
    fpSingle.abs 0xFF800000 = 0x7F800000 ∧ fpSingle.neg 0x3F800000 = 0xBF800000 ∧
    fpOpD (.cvtLFmt .d 2#5 4#5) 0xC004000000000000#64 0#64 0#32 = some (0xFFFFFFFFFFFFFFFE, 0x1004) ∧
    fpOpD (.sqrtFmt .d 2#5 4#5) 0x4000000000000000#64 0#64 0#32 = some (0x3FF6A09E667F3BCD, 0x1004) := by
  decide +kernel

/-- F20 to F24. -/
theorem test_fp_compares :
    fpFlags (.cLtFmt .s 4#5 6#5) 0x3F800000#64 0x40000000#64 0#32 = some (0x800000, false) ∧
    fpFlags (.cLtFmt .s 4#5 6#5) 0x7FBFFFFF#64 0x3F800000#64 0#32 = some (0x10040, false) ∧
    fpFlags (.cUnFmt .s 4#5 6#5) 0x7FBFFFFF#64 0x3F800000#64 0#32 = some (0x800000, false) ∧
    fpFlags (.cEqFmt .s 4#5 6#5) 0#64 0x80000000#64 0#32 = some (0x800000, false) ∧
    fpFlags (.cLtFmt .s 4#5 6#5) 1#64 0#64 0#32 = some (0, false) := by
  decide

/-- Z11: CACHE Index Store Tag (D) with TagLo = 0 invalidates and writes nothing back; Z10 in one instruction: Hit Write Back
Invalidate puts the bytes of a dirty line in memory. -/
theorem test_cache :
    let l : CacheLine := { tag := 1#24, valid := true, lock := false, dirty := true, data := Vector.replicate 32 0x5A#8 }
    let s := { m0 false with dcache := (m0 false).dcache.setLine 0x80#8 0#2 l }
    seen (exec (.cache .indexStoreTagD 0#16 4#5) s) (fun t => ((t.dcache.line 0x80#8 0#2).valid, t.physByte 0x1000#36)) =
      some (false, 0x80#8) ∧
    seen (exec (.cache .hitWriteBackInvalidateD 0#16 4#5) s)
      (fun t => ((t.dcache.line 0x80#8 0#2).valid, t.physByte 0x1000#36, t.physByte 0x101F#36, t.physByte 0x1020#36)) =
      some (false, 0x5A#8, 0x5A#8, 0#8) := by
  decide +kernel

/-- K20, and SYNC with an empty buffer. -/
theorem test_no_effect :
    flow (.pref 0#5 0#16 4#5) (m0 false) = some (0xFFFFFFFF80002004#64, none) ∧
    flow .sync (m0 false) = some (0xFFFFFFFF80002004#64, none) ∧
    flow (.ctc0 2#5 3#5) (m0 false) = some (0xFFFFFFFF80002004#64, none) := by
  decide

/-- The reset state runs the word placed where it fetches (log entry 9). -/
theorem test_reset_runs_placed_word :
    seen (step (State.reset.withFetchWord 32 0x2402FFFF)) (fun t => (t.rget 2#5, t.pc)) =
      some (0xFFFFFFFFFFFFFFFF#64, 0xFFFFFFFFBFC00004#64) := by
  decide +kernel

/-- X12: an interrupt is taken before the next instruction. -/
theorem test_interrupt :
    let s := { withStatus 0x1001#32 (m0 false) with plat := { resetPlatform with intReg := 4#7 } }
    seen (step (s.withFetchWord 32 0x24020001)) (fun t => (t.cp0.epc, t.cp0.status, t.pc, t.rget 2#5)) =
      some (0xFFFFFFFF80002000#64, 0x1003#32, 0xFFFFFFFF80000180#64, 0#64) := by
  decide +kernel

/-- A load whose bus error is reported late: the load goes on, and an instruction is where it is raised once it has arrived,
the load if the next one uses r2; a fetch that needs the bus waits for it (60_exceptions.md R651, 70_reset_and_hazards.md R776,
20_memory.md R162). -/
theorem test_late_bus_error :
    let line := { CacheLine.empty with tag := 2#24, valid := true }
    let s := { (m0 false).setGpr 4#5 0xFFFFFFFFA0001000#64 with
      env := { (m0 false).env with lateErrors := true, errors := [0x200] } }
    let after := fun (cached arrives : Bool) (w : Nat) =>
      seen (exec (.lw 2#5 0#16 4#5) s) fun t =>
        let t := if cached then { t with icache := t.icache.setLine 0#8 0#2 line } else t
        seen (step ((if arrives then t.errorArrives else t).withFetchWord 32 w)) fun u => (u.pc, u.cp0.epc, u.rget 3#5)
    seen (exec (.lw 2#5 0#16 4#5) s) (fun t => (t.pc, t.lateError.isSome)) = some (0xFFFFFFFF80002004#64, true) ∧
    after true false 0x24030001 = some (some (0xFFFFFFFF80002008#64, 0#64, 1#64)) ∧
    after false false 0x24030001 = some (some (0xFFFFFFFF80000180#64, 0xFFFFFFFF80002004#64, 0#64)) ∧
    after true true 0x24030001 = some (some (0xFFFFFFFF80000180#64, 0xFFFFFFFF80002004#64, 0#64)) ∧
    after true false 0x24430001 = some (some (0xFFFFFFFF80000180#64, 0xFFFFFFFF80002000#64, 0#64)) := by
  decide +kernel

/-- An LL that goes on links; where its late bus error names it, the LL has not linked; where it names a later instruction, it has
(60_exceptions.md R630 step 1, 20_memory.md R166, R171). -/
theorem test_late_bus_error_of_ll :
    let line := { CacheLine.empty with tag := 2#24, valid := true }
    let s := { (m0 false).setGpr 4#5 0xFFFFFFFFA0001000#64 with
      env := { (m0 false).env with lateErrors := true, errors := [0x200] } }
    let after := fun (w : Nat) =>
      seen (exec (.ll 2#5 0#16 4#5) s) fun t =>
        let t := { t with icache := t.icache.setLine 0#8 0#2 line }
        seen (step (t.errorArrives.withFetchWord 32 w)) fun u => (u.cp0.epc, u.llbit, u.cp0.llAddr)
    after 0x0000000F = some (some (0xFFFFFFFF80002000#64, false, 0#32)) ∧
    after 0x24030001 = some (some (0xFFFFFFFF80002004#64, true, 0x100#32)) := by
  decide +kernel

/-- The read time-out counter counts while a read waits and is loaded else (61_interrupts_platform.md R732). -/
theorem test_read_timeout :
    let s := fun reading timeout => { m0 false with
      straps := { resetStraps with mode43n := false }
      plat := { resetPlatform with g2s := 0x00058#20, reading := reading, timeout := timeout } }
    (tickTimeout (s true 5#16)).plat.timeout = 4#16 ∧ (tickTimeout (s true 0#16)).plat.timeout = 0#16 ∧
    (tickTimeout (s false 0#16)).plat.timeout = 5#16 := by
  decide

/-- A load whose fetch was answered in the same step starts the counter anew with its own read; a load on hold whose counter has
run out takes its bus error (61_interrupts_platform.md R732). -/
theorem test_read_timeout_per_read :
    let s := fun fetched => { (m0 false).setGpr 4#5 0xFFFFFFFFA0001000#64 with
      straps := { resetStraps with mode43n := false }
      env := { (m0 false).env with unanswered := [0x200] }
      plat := { resetPlatform with
        g2s := 0x00058#20, timeout := 1#16, stalled := true, reading := true, fetched := fetched } }
    seen (step ((s none).withFetchWord 32 0x8C820000))
      (fun t => (t.plat.timeout, t.plat.reading, t.plat.fetched, t.pc)) =
      some (5#16, true, some 0x8C820000#32, 0xFFFFFFFF80002000#64) ∧
    seen (step (s (some 0x8C820000#32))) (fun t => (t.plat.reading, t.cp0.epc, t.pc)) =
      some (false, 0xFFFFFFFF80002000#64, 0xFFFFFFFF80000180#64) := by
  decide +kernel

/-! ## Witnesses: each shows a state and operands that meet the hypotheses of one obligation, of each of its clauses -/

theorem witness_DecodeOfEncode :
    (Instr.cache (.undefined 0x1F#5) 0#16 31#5).wellFormed = true ∧ (Instr.addFmt (.reserved 15#4) 0#5 0#5 0#5).wellFormed = true := by
  decide

theorem witness_DecoderFollowsTable :
    decode 0x8C820004#32 = .ok (.lw 2#5 4#16 4#5) ∧ (Instr.lw 0#5 0#16 0#5).inRow 0x8C820004#32 = true := by decide

/-- ADDIU r2, r4, -1 at the pc. -/
def addiuState : State := (m0 false).withFetchWord 32 0x2482FFFF

theorem witness_StepKeepsMemoryForm : addiuState.MemoryForm ∧ ∃ t, step addiuState = .next t :=
  ⟨by unfold State.MemoryForm; decide +kernel, next_of_seen (by decide +kernel)⟩

theorem witness_StepKeepsFixedFields : addiuState.FixedFields ∧ ∃ t, step addiuState = .next t :=
  ⟨by unfold State.FixedFields; decide +kernel, next_of_seen (by decide +kernel)⟩

/-- At both ends of the range of Wired, and with Wired above it. -/
theorem witness_StepKeepsRandomInRange :
    ∀ w ∈ [0#6, 47#6, 63#6], State.RandomInRange { addiuState with cp0 := { addiuState.cp0 with wired := w } } ∧
      ∃ t, step { addiuState with cp0 := { addiuState.cp0 with wired := w } } = .next t := by
  intro w hw
  simp only [List.mem_cons, List.not_mem_nil, or_false] at hw
  rcases hw with rfl | rfl | rfl <;>
    exact ⟨by unfold State.RandomInRange; decide +kernel, next_of_seen (by decide +kernel)⟩

/-- The same word in an uncached place. -/
def fetchState : State := State.reset.withFetchWord 32 0x2482FFFF

/-- The start state at another pc, in or out of debug mode. -/
def atPc (debug : Bool) (pc : DWord) : State :=
  { m0 false with pc := pc, cp0 := { (m0 false).cp0 with debug := if debug then 0x40000000#32 else 0#32 } }

/-- The start state at an uncached pc whose read is answered with an error. -/
def failingFetch (debug : Bool) : State :=
  { atPc debug 0xFFFFFFFFA0001000#64 with env := { (m0 false).env with errors := [0x200] } }

/-- A fetched word, and one left in progress by a step that stalled; a misaligned pc, an unmapped page and a bus error, in and out
of debug mode. -/
theorem witness_StepRunsDecodedInstruction :
    fetchState.env.inputs = [] ∧ fetchState.plat.power = .normal ∧ fetchState.plat.fetched = none ∧
    fetchState.plat.nmiPending = false ∧
    (tick fetchState).unstalled.fetchWord = .ok 0x2482FFFF#32 (tick fetchState).unstalled ∧
    (tick fetchState).unstalled.debugDue = 0#32 ∧ lateErrorAt 0x2482FFFF#32 (tick fetchState).unstalled = none ∧
    (tick fetchState).unstalled.interruptPending = false ∧ decode 0x2482FFFF#32 = .ok (.addiu 2#5 4#5 0xFFFF#16) ∧
    (let s := { m0 false with plat := { resetPlatform with stalled := true, fetched := some 0x0000000F#32 } }
     s.env.inputs = [] ∧ s.plat.power = .normal ∧ s.plat.fetched = some 0x0000000F#32 ∧
       lateErrorAt 0x0000000F#32 (tick s) = none ∧ decode 0x0000000F#32 = .ok .sync) ∧
    ∀ debug, (∀ s ∈ [atPc debug 0xFFFFFFFF80002002#64, atPc debug 0x2000#64, failingFetch debug],
        s.env.inputs = [] ∧ s.plat.power = .normal ∧ s.plat.fetched = none ∧ s.plat.nmiPending = false ∧ s.debugMode = debug) ∧
      (let u := fun s => (tick s).unstalled
       (u (atPc debug 0xFFFFFFFF80002002#64)).fetchWord =
         .exc (.addressError .fetch 0xFFFFFFFF80002002#64) (u (atPc debug 0xFFFFFFFF80002002#64)) ∧
       (u (atPc debug 0x2000#64)).fetchWord = .exc (.tlbRefill .fetch 0x2000#64) (u (atPc debug 0x2000#64)) ∧
       (u (failingFetch debug)).fetchWord = .exc .busErrorFetch (u (failingFetch debug)) ∧
       (u (atPc debug 0xFFFFFFFF80002002#64)).debugDue = 0#32 ∧ (u (atPc debug 0x2000#64)).debugDue = 0#32 ∧
       (u (failingFetch debug)).debugDue = 0#32 ∧ (u (failingFetch debug)).lateError = none) :=
  ⟨rfl, rfl, rfl, rfl, by rfl, by decide, by rfl, by decide, by decide, ⟨rfl, rfl, rfl, by rfl, by decide⟩, fun debug => by
    cases debug <;>
      exact ⟨by decide +kernel, by rfl, by rfl, by rfl, by decide +kernel, by decide +kernel, by decide +kernel, by rfl⟩⟩

/-- A fetch exception comes before an interrupt, and before a late bus error that has arrived, which stays (60_exceptions.md R625;
log entry 63). -/
theorem test_fetch_raises :
    let s := { failingFetch false with
      cp0 := { (m0 false).cp0 with status := 0x1001#32, cause := 0#32 }
      plat := { resetPlatform with intReg := 4#7 }
      lateError := some { pc := 0#64, delaySlot := none, llbit := false, llAddr := 0#32, dest := .gpr 2#5, arrived := true, fresh := false } }
    step s = .next (finish (tick s) (takeException .busErrorFetch (tick s).unstalled)) ∧
    seen (step s) (fun t => (t.pc, t.cp0.epc, t.lateError.isSome)) =
      some (0xFFFFFFFF80000180#64, 0xFFFFFFFFA0001000#64, true) :=
  ⟨by rfl, by decide +kernel⟩

/-- A word not read ahead, and one read ahead; a misaligned pc, an unmapped page, a bus error, and an instruction cache that is
disabled. -/
theorem witness_FetchPastCache :
    (atPc false 0xFFFFFFFF80002002#64).pc.toNat % 4 ≠ 0 ∧
    ((atPc false 0x2000#64).pc.toNat % 4 = 0 ∧
      (atPc false 0x2000#64).translate .fetch 0x2000#64 = .exc (.tlbRefill .fetch 0x2000#64) (atPc false 0x2000#64)) ∧
    ((failingFetch false).pastCache .fetch (failingFetch false).pc 0x1000#36 ∧ (failingFetch false).pc.toNat % 4 = 0 ∧
      (failingFetch false).ahead.lookup 0x1000#36 = none ∧ (failingFetch false).wbuf = [] ∧
      (failingFetch false).readAnswer [0x1000 / 8] = .error) ∧
    (let s := { m0 false with cp0 := { (m0 false).cp0 with config := (m0 false).cp0.config ||| 0x00020000#32 } }
     s.pastCache .fetch s.pc 0x2000#36 ∧ s.pc.toNat % 4 = 0 ∧ s.ahead.lookup 0x2000#36 = none ∧ s.wbuf = [] ∧
       s.readAnswer [0x2000 / 8] = .data) ∧
    fetchState.pastCache .fetch fetchState.pc 0x1FC00000#36 ∧ fetchState.pc.toNat % 4 = 0 ∧ fetchState.wbuf = [] ∧
    fetchState.ahead.lookup 0x1FC00000#36 = none ∧ fetchState.readAnswer [0x1FC00000 / 8] = .data ∧
    (let s := { fetchState with ahead := [(0x1FC00000#36, 0x24020007#32)], env := { fetchState.env with readAhead := 2 } }
     s.pastCache .fetch s.pc 0x1FC00000#36 ∧ s.pc.toNat % 4 = 0 ∧ s.wbuf = [] ∧
       s.ahead.lookup 0x1FC00000#36 = some 0x24020007#32 ∧ s.fetchWord = .ok 0x24020007#32 (s.readOn 0x1FC00000#36)) :=
  ⟨by decide, ⟨by decide, by rfl⟩,
    ⟨⟨by decide, attrUncached, by rfl, .inl rfl⟩, by decide, by decide, by decide, by decide⟩,
    ⟨⟨by decide, 0#3, by rfl, .inr (by decide)⟩, by decide, by decide, by decide, by decide⟩,
    ⟨by decide, attrUncached, by rfl, .inl rfl⟩, by decide, by decide, by decide, by decide,
    ⟨by decide, attrUncached, by rfl, .inl rfl⟩, by decide, by decide, by decide, by rfl⟩

/-- An interrupt pending at ADDIU, and at SYSCALL, which takes its own exception first. -/
def interruptState (w : Nat) : State :=
  (withStatus 0x401001#32 { State.reset with plat := { resetPlatform with intReg := 4#7 } }).withFetchWord 32 w

theorem witness_StepTakesInterrupt :
    ∀ p ∈ [(0x2482FFFF, Instr.addiu 2#5 4#5 0xFFFF#16, false), (0x0000000C, .syscall 0#20, true)],
      (interruptState p.1).env.inputs = [] ∧ (interruptState p.1).plat.power = .normal ∧
      (interruptState p.1).plat.nmiPending = false ∧ (interruptState p.1).plat.fetched = none ∧
      (let u := (tick (interruptState p.1)).unstalled
       u.fetchWord = .ok (BitVec.ofNat 32 p.1) u ∧
       decode (BitVec.ofNat 32 p.1) = .ok p.2.1 ∧ isSdbbp (BitVec.ofNat 32 p.1) = false ∧
       u.debugDue = 0#32 ∧ lateErrorAt (BitVec.ofNat 32 p.1) u = none ∧ u.interruptPending = true ∧
       seen (exec p.2.1 u.prepared) (·.excTaken) = some p.2.2) := by
  intro p hp
  simp only [List.mem_cons, List.not_mem_nil, or_false] at hp
  rcases hp with rfl | rfl <;>
    exact ⟨by rfl, by rfl, by rfl, by rfl, by rfl, by decide +kernel, by decide +kernel, by decide +kernel, by rfl,
      by decide +kernel, by decide +kernel⟩

theorem witness_TimerLatchSetAtCompare : (m0 false).params.countPerInstr = 1 := by decide

/-- A waiting NMI with the pipeline running; with a fetch that has no answer, and with one that has. -/
theorem witness_ResetClassEntry :
    ({ m0 false with env := { (m0 false).env with inputs := [.softReset [(0x1000#36, 0xFF#8)]] } } : State).env.inputs =
      .softReset [(0x1000#36, 0xFF#8)] :: [] ∧
    (let s := fun stalled unanswered => { fetchState with
       plat := { fetchState.plat with nmiPending := true, stalled := stalled }
       env := { fetchState.env with unanswered := unanswered } }
     (∀ p ∈ [(false, []), (true, []), (true, [0x1FC00000 / 8])],
       (s p.1 p.2).env.inputs = [] ∧ (s p.1 p.2).plat.power = .normal ∧ (s p.1 p.2).plat.nmiPending = true ∧
         (s p.1 p.2).plat.fetched = none ∧ (s p.1 p.2).debugMode = false ∧ (s p.1 p.2).plat.stalled = p.1) ∧
     ((tick (s false [])).debugDue = 0#32 ∧ (tick (s false [])).unstalled.atSdbbp = false) ∧
     (let u := (tick (s true [])).unstalled
      u.fetchWord = .ok 0x2482FFFF#32 u ∧ u.debugDue = 0#32 ∧ u.atSdbbp = false) ∧
     ∃ u, (tick (s true [0x1FC00000 / 8])).unstalled.fetchWord = .stall u) :=
  ⟨by rfl, by decide, by decide +kernel, ⟨by rfl, by decide +kernel, by decide +kernel⟩, _, by rfl⟩

/-- The largest sum that fits and the next one, for ADD, SUB, ADDI. -/
theorem witness_WordAddSubtract :
    let fits := fun n : Int => -(2 ^ (32 - 1)) ≤ n ∧ n < 2 ^ (32 - 1)
    let s := r45 0x7FFFFFFF#64 1#64
    let u := r45 0xFFFFFFFF80000000#64 1#64
    s.debugMode = false ∧ u.debugMode = false ∧
    fits ((s.rget32 4#5).toInt + (s.rget32 0#5).toInt) ∧ ¬fits ((s.rget32 4#5).toInt + (s.rget32 5#5).toInt) ∧
    fits ((u.rget32 4#5).toInt - (u.rget32 0#5).toInt) ∧ ¬fits ((u.rget32 4#5).toInt - (u.rget32 5#5).toInt) ∧
    fits ((s.rget32 4#5).toInt + (0#16).toInt) ∧ ¬fits ((s.rget32 4#5).toInt + (1#16).toInt) := by
  decide

theorem witness_DoublewordAddSubtract :
    let fits := fun n : Int => -(2 ^ (64 - 1)) ≤ n ∧ n < 2 ^ (64 - 1)
    let s := r45 0x7FFFFFFFFFFFFFFF#64 1#64
    let u := r45 0x8000000000000000#64 1#64
    s.is64bitOps = true ∧ s.debugMode = false ∧ u.is64bitOps = true ∧ u.debugMode = false ∧
    fits ((s.rget 4#5).toInt + (s.rget 0#5).toInt) ∧ ¬fits ((s.rget 4#5).toInt + (s.rget 5#5).toInt) ∧
    fits ((u.rget 4#5).toInt - (u.rget 0#5).toInt) ∧ ¬fits ((u.rget 4#5).toInt - (u.rget 5#5).toInt) ∧
    fits ((s.rget 4#5).toInt + (0#16).toInt) ∧ ¬fits ((s.rget 4#5).toInt + (1#16).toInt) := by
  decide

theorem witness_Shifts : (m0 false).is64bitOps = true := by decide

theorem witness_MultiplyProducts : (r45 (-2) 3#64).is64bitOps = true := by decide

/-- Divisors 1 and 0; a divisor whose low word alone is 0. -/
theorem witness_Divides :
    (m0 false).is64bitOps = true ∧
    ((r45 7#64 1#64).rget32 5#5).toInt ≠ 0 ∧ ((r45 7#64 1#64).rget32 5#5).toNat ≠ 0 ∧
    ((r45 7#64 0x100000000#64).rget 5#5).toInt ≠ 0 ∧ ((r45 7#64 0x100000000#64).rget 5#5).toNat ≠ 0 ∧
    (r45 7#64 0x100000000#64).rget32 5#5 = 0#32 ∧ (r45 7#64 0#64).rget 5#5 = 0#64 := by
  decide

theorem witness_JumpTargets : (m0 false).delaySlot = none := by decide

/-- Each condition met and not met, at the values next to its bound. -/
theorem witness_ConditionalBranches :
    let at' := fun v => r45 v 0#64
    (∀ v, (at' v).delaySlot = none) ∧
    (at' 0#64).rget 4#5 = (at' 0#64).rget 5#5 ∧ (at' 1#64).rget 4#5 ≠ (at' 1#64).rget 5#5 ∧
    ((at' 0#64).rget 4#5).toInt ≤ 0 ∧ ¬((at' 1#64).rget 4#5).toInt ≤ 0 ∧
    0 < ((at' 1#64).rget 4#5).toInt ∧ ¬0 < ((at' 0#64).rget 4#5).toInt ∧
    ((at' (-1)).rget 4#5).toInt < 0 ∧ ¬((at' 0#64).rget 4#5).toInt < 0 ∧
    0 ≤ ((at' 0#64).rget 4#5).toInt ∧ ¬0 ≤ ((at' (-1)).rget 4#5).toInt :=
  ⟨fun _ => rfl, by decide⟩

theorem witness_LinkingBranches :
    (r45 0#64 0#64).delaySlot = none ∧ ((r45 (-1) 0#64).rget 4#5).toInt < 0 ∧ 0 ≤ ((r45 0#64 0#64).rget 4#5).toInt := by decide

/-- One pending write. -/
def buffered (hold : Bool) : State :=
  { m0 false with
    wbuf := [{ pa := 0x1000#36, data := [1#8, 2#8] }]
    env := { (m0 false).env with writeHold := hold } }

/-- CU1 set. -/
def fpUsable : State := withStatus 0x24000000#32 (m0 false)

theorem witness_CoprocessorBranches :
    (m0 false).delaySlot = none ∧ fpUsable.delaySlot = none ∧ fpUsable.usable 1#2 = true ∧
    fpUsable.fcr31.getLsbD 23 = false ∧ ({ fpUsable with fcr31 := 0x800000#32 } : State).fcr31.getLsbD 23 = true ∧
    (m0 false).usable 0#2 = true ∧ (m0 false).wbuf = [] ∧ (buffered false).wbuf ≠ [] := by
  decide

/-- A probe or none, which requests a break. -/
def breakState (probe : Bool) (k : BreakKind) : State :=
  { m0 false with
    params := { resetParams with probePresent := probe }
    env := { (m0 false).env with inputs := [.debugBreak k] } }

/-- In debug mode. -/
def debugState : State := { m0 false with cp0 := { (m0 false).cp0 with debug := 0x40000000#32 } }

theorem witness_TransferInDelaySlotStops :
    let s := { debugState with delaySlot := some 0#64 }
    ∀ i ∈ [Instr.jr 4#5, .beq 4#5 5#5 0#16, .bc0t 0#16, .eret, .deret],
      transfersControl i = true ∧ s.delaySlot = some 0#64 ∧
      (∀ z, coprocessorOf i = some z → s.usable z = true) ∧ (i = .deret → s.debugMode = true) := by
  decide

/-- Equal and unequal operands, and -1 against 0 for the signed and the unsigned comparisons. -/
theorem witness_TrapsAndCalls :
    let s := r45 (-1) 0#64
    s.debugMode = false ∧
    (s.rget 4#5).toInt ≤ (s.rget 5#5).toInt ∧ ¬(s.rget 5#5).toInt ≤ (s.rget 4#5).toInt ∧
    (s.rget 5#5).toNat ≤ (s.rget 4#5).toNat ∧ ¬(s.rget 4#5).toNat ≤ (s.rget 5#5).toNat ∧
    (s.rget 4#5).toInt < (s.rget 5#5).toInt ∧ ¬(s.rget 4#5).toInt < (s.rget 4#5).toInt ∧
    (s.rget 5#5).toNat < (s.rget 4#5).toNat ∧ ¬(s.rget 4#5).toNat < (s.rget 4#5).toNat ∧
    s.rget 5#5 = s.rget 0#5 ∧ s.rget 4#5 ≠ s.rget 5#5 ∧
    (0xFFFF#16).toInt ≤ (s.rget 4#5).toInt ∧ ¬(0#16).toInt ≤ (s.rget 4#5).toInt ∧
    (0xFFFF#16).toInt % 2 ^ 64 ≤ ((s.rget 4#5).toNat : Int) ∧ ¬(0xFFFF#16).toInt % 2 ^ 64 ≤ ((s.rget 5#5).toNat : Int) ∧
    (s.rget 4#5).toInt = (0xFFFF#16).toInt ∧ (s.rget 4#5).toInt ≠ (0#16).toInt := by
  decide

theorem witness_SyncEmptiesBuffer :
    ((m0 false).wbuf = [] ∧ (buffered false).writesGo = true) ∧ (buffered true).wbuf ≠ [] ∧ (buffered true).writesGo = false := by
  decide

theorem witness_PrefetchAndControlMoves : (m0 false).usable 0#2 = true := by decide

theorem witness_ExceptionEntry :
    (m0 false).exl = false ∧ (withStatus 2#32 (m0 false)).exl = true ∧ Exc.copUnusable 1#2 = .copUnusable 1#2 := by decide

theorem witness_BadAddressRecorded : Exc.badAddr? .overflow = none ∧ Exc.badAddr? .interrupt = none := by decide

theorem witness_EretReturns :
    State.reset.usable 0#2 = true ∧ State.reset.delaySlot = none ∧ State.reset.erl = true ∧
    (withStatus 0x12#32 (m0 false)).usable 0#2 = true ∧ (withStatus 0x12#32 (m0 false)).delaySlot = none ∧
    (withStatus 0x12#32 (m0 false)).erl = false := by
  decide

/-- SDBBP at the pc, with a single step due or not, an interrupt pending or not, a late bus error that has arrived or none. -/
def boundaryState (due pending late : Bool) : State :=
  let error : LateError := { pc := 0#64, delaySlot := none, llbit := false, llAddr := 0#32, dest := .gpr 2#5, arrived := true, fresh := false }
  { interruptState 0x0000000E with
    stepPending := due
    plat := { resetPlatform with intReg := if pending then 4#7 else 0#7 }
    lateError := if late then some error else none }

/-- A single step with an interrupt pending: DM, OES and DSS in Debug, DEPC and EPC at the instruction, EXL set, the debug vector
(60_exceptions.md R660, R665; 11_cp0_registers.md R102). -/
theorem test_single_step_with_interrupt :
    seen (step (boundaryState true true false)) (fun t => (t.cp0.debug, t.cp0.depc, t.cp0.epc, t.exl, t.pc)) =
      some (0x40001001#32, 0xFFFFFFFFBFC00000#64, 0xFFFFFFFFBFC00000#64, true, 0xFFFFFFFFBFC00400#64) := by
  decide +kernel

/-- A debug interrupt waits and a single step is due at ADDIU, with an NMI waiting or not, behind a stall or not. -/
def dueState (nmi stalled : Bool) (unanswered : List Nat) : State :=
  { fetchState with
    stepPending := true
    plat := { fetchState.plat with breaks := 8#4, nmiPending := nmi, stalled := stalled }
    env := { fetchState.env with unanswered := unanswered } }

/-- They wait while the fetch has no answer; then DINT and DSS are set together (60_exceptions.md R660 to R662, log entry 39). -/
theorem test_break_waits_for_fetch :
    seen (step (dueState false false [0x1FC00000 / 8])) (fun t => (t.plat.breaks, t.stepPending, t.plat.reading, t.debugMode)) =
      some (8#4, true, true, false) ∧
    seen (step (dueState false true [])) (fun t => (t.cp0.debug, t.cp0.depc, t.plat.breaks, t.plat.reading)) =
      some (0x40000021#32, 0xFFFFFFFFBFC00000#64, 0#4, false) := by
  decide +kernel

/-- Outside debug mode, and in it. A break and a single step due: at a fetch with no answer, with an NMI before and behind the
stall, at a fetch that raises an exception, at a word fetched, at a fetch that stops. SDBBP with an interrupt, with a late bus error.
Each kind of break, with a probe and without one. -/
theorem witness_DebugEntryAndReturn :
    ((m0 false).debugMode = false ∧ (m0 false).usable 0#2 = true ∧ debugState.debugMode = true ∧ debugState.usable 0#2 = true ∧
      debugState.delaySlot = none) ∧
    (∀ p ∈ [(false, false), (true, false), (true, true), (false, true)], ∀ l ∈ [[], [0x1FC00000 / 8]],
      let s := dueState p.1 p.2 l
      s.env.inputs = [] ∧ s.plat.power = .normal ∧ s.plat.fetched = none ∧ s.plat.nmiPending = p.1 ∧ s.plat.stalled = p.2 ∧
        dueBits s = 0x21#32) ∧
    (∀ p ∈ [(false, false), (true, true)], ∃ u, (tick (dueState p.1 p.2 [0x1FC00000 / 8])).unstalled.fetchWord = .stall u) ∧
    (∀ nmi, reachesBoundary (dueState nmi true []) (tick (dueState nmi true [])).unstalled) ∧
    (∃ u, (tick { dueState false false [] with pc := 2#64 }).unstalled.fetchWord = .exc (.addressError .fetch 2#64) u) ∧
    (let s := { dueState false false [] with pc := 0xFFFFFFFFFF300000#64 }
     reachesBoundary s (tick s).unstalled) ∧
    (∀ p ∈ [(true, false), (false, true)],
      let s := boundaryState false p.1 p.2
      let u := (tick s).unstalled
      s.env.inputs = [] ∧ s.plat.power = .normal ∧ s.plat.nmiPending = false ∧ s.plat.fetched = none ∧ dueBits s = 0#32 ∧
        s.debugMode = false ∧ seenWord u.fetchWord = some 0x0000000E#32 ∧
        u.interruptPending = p.1 ∧ u.lateError.any (·.arrived) = p.2) ∧
    decode 0x0000000E#32 = .ok (.sdbbp 0#20) ∧
    ∀ k ∈ [BreakKind.instrAddress, .dataStore, .dataLoad, .jtag, .processorBus, .interrupt], ∀ probe,
      (breakState probe k).debugMode = false ∧ (breakState probe k).params.probePresent = probe ∧
        (breakState probe k).env.inputs = .debugBreak k :: [] := by
  refine ⟨by decide, by unfold dueBits; decide, ?_, ?_, ⟨_, by rfl⟩, .inr ⟨rfl, .inl ⟨.dsuRegister, by rfl⟩⟩,
    by unfold dueBits; decide +kernel, by decide, by decide⟩
  · intro p hp
    simp only [List.mem_cons, List.not_mem_nil, or_false] at hp
    rcases hp with rfl | rfl <;> exact ⟨_, by rfl⟩
  · intro nmi
    cases nmi <;> exact .inl ⟨0x2482FFFF#32, by rfl⟩

theorem witness_WaitSleepsUntilWoken :
    (m0 false).usable 0#2 = true ∧ (m0 false).wbuf = [] ∧
    (let s := { m0 false with plat := { resetPlatform with power := .halt } }
     s.env.inputs = [] ∧ s.plat.power ≠ .normal) := by
  decide

theorem witness_Cop0Reads : (m0 false).usable 0#2 = true ∧ (31#5, (m0 false).cp0.desave) ∈ cp0Values (m0 false) := by
  decide

theorem witness_Cop0WritesByMask :
    (m0 false).usable 0#2 = true ∧ (m0 false).is64bitOps = true ∧ (0#5, 0xFFFFFFFF8000003F#64, false) ∈ cp0Masks ∧
    (31#5, 0xFFFFFFFFFFFFFFFF#64, true) ∈ cp0Masks := by
  decide

theorem witness_Cop0WriteEffects :
    (m0 false).usable 0#2 = true ∧ (m0 false).is64bitOps = true ∧ (m0 false).fr = ((m0 false).rget 2#5).getLsbD 26 := by decide

/-- Index and Random at the last entry; a mask of the largest page and an illegal one. -/
theorem witness_TlbWrites :
    let s := fun mask => { m0 false with cp0 := { (m0 false).cp0 with index := 47#32, random := 47#6, pageMask := mask } }
    (s 0x01FFE000#32).usable 0#2 = true ∧ (s 0#32).cp0.index.toNat % 2 ^ 6 = (47 : Fin 48).val ∧
    (s 0#32).cp0.random.toNat = (47 : Fin 48).val ∧
    (s 0x01FFE000#32).cp0.pageMask.toNat / 2 ^ 13 % 2 ^ 12 ∈ [0x000, 0x003, 0x00F, 0x03F, 0x0FF, 0x3FF, 0xFFF] ∧
    (s 0x2000#32).cp0.pageMask.toNat / 2 ^ 13 % 2 ^ 12 ∉ [0x000, 0x003, 0x00F, 0x03F, 0x0FF, 0x3FF, 0xFFF] := by
  decide

/-- A page of user address 0x400000 in entry 47, and in entry 46 with `both`. -/
def mappedState (both : Bool) (e : TlbEntry) : State :=
  { m0 false with
    tlb := ((m0 false).tlb.set 47 e).set 46 (if both then e else resetTlbEntry 46)
    cp0 := { (m0 false).cp0 with entryHi := 0x400000#64, index := 47#32 } }

/-- The entry: an even page at 3, an odd page at 4, with a mask, V and D. -/
def mappedEntry (mask : BitVec 12) (v d : Bool) : TlbEntry :=
  { mask := mask, r := 0#2, vpn2 := 0x200#27, g := true, asid := 0#8
    even := { pfn := 0x3000#24, c := 3#3, d := d, v := v }, odd := { pfn := 0x4000#24, c := 2#3, d := d, v := v } }

theorem witness_TlbReadAndProbe :
    let s := mappedState false (mappedEntry 0#12 true true)
    let u := mappedState true (mappedEntry 0#12 true true)
    (s.usable 0#2 = true ∧ s.cp0.index.toNat % 2 ^ 6 = (47 : Fin 48).val) ∧ matchesEntryHi s s.tlb[47] ∧
    (∀ j : Fin 48, j ≠ 47 → ¬matchesEntryHi s s.tlb[j.val]) ∧
    (∀ j : Fin 48, ¬matchesEntryHi (m0 false) (m0 false).tlb[j.val]) ∧
    matchesEntryHi u u.tlb[46] ∧ matchesEntryHi u u.tlb[47] := by
  unfold matchesEntryHi matchesKey
  exact ⟨by decide, by decide +kernel, by decide +kernel, by decide +kernel, by decide +kernel, by decide +kernel⟩

/-- One entry that is invalid, that is not dirty, that is whole, with the smallest and the largest page and with a mask of no page
size; one with a reserved attribute. -/
def mappedEntries : List TlbEntry :=
  ([0x000#12, 0xFFF#12, 0x001#12].flatMap fun mask =>
    [mappedEntry mask true true, mappedEntry mask false true, mappedEntry mask true false]) ++
      [{ mappedEntry 0#12 true true with even := { pfn := 1#24, c := 4#3, d := true, v := true } }]

/-- No match; two matches; one match. -/
theorem witness_MappedTranslation :
    let u := mappedState true (mappedEntry 0#12 true true)
    (m0 false).segment? 0x400000#64 = some .mapped ∧ (∀ j : Fin 48, ¬matchesKey (m0 false) (m0 false).tlb[j.val] 0x400000#64) ∧
    u.segment? 0x400000#64 = some .mapped ∧ matchesKey u u.tlb[46] 0x400000#64 ∧ matchesKey u u.tlb[47] 0x400000#64 ∧
    ∀ e ∈ mappedEntries,
      (mappedState false e).segment? 0x400000#64 = some .mapped ∧ (mappedState false e).tlb[47] = e ∧
        matchesKey (mappedState false e) (mappedState false e).tlb[47] 0x400000#64 ∧
        ∀ j : Fin 48, j ≠ 47 → ¬matchesKey (mappedState false e) (mappedState false e).tlb[j.val] 0x400000#64 := by
  unfold matchesKey
  exact ⟨by decide, by decide +kernel, by decide +kernel, by decide +kernel, by decide +kernel, by decide +kernel⟩

/-- The states of the clauses, and the values on both sides of the bounds within a segment's clauses. -/
theorem witness_AddressSegments :
    let u := fun v => withStatus v (m0 false)
    (∀ p ∈ [(0x10#32, Mode.user, false), (0x08#32, .supervisor, false), (0x00#32, .kernel, false), (0x30#32, .user, true),
        (0x48#32, .supervisor, true), (0x80#32, .kernel, true)],
      (u p.1).mode = p.2.1 ∧ (u p.1).is64bitAddr = p.2.2 ∧ (u p.1).erl = false) ∧
    ((u 0x04#32).mode = .kernel ∧ (u 0x04#32).is64bitAddr = false ∧ (u 0x04#32).erl = true) ∧
    ((u 0x84#32).mode = .kernel ∧ (u 0x84#32).is64bitAddr = true ∧ (u 0x84#32).erl = true) ∧
    ((0x7FFFFFFF#64).toNat < 2 ^ 31 ∧ 2 ^ 31 ≤ (0x80000000#64).toNat ∧ (0xFFFFFFFF7FFFFFFF#64).toNat < 0xFFFFFFFF80000000) ∧
    ((0xFFFFFFFFFFFFF#64).toNat % 2 ^ 59 ≥ 2 ^ 36 ∧ (0xB800000FFFFFFFFF#64).toNat % 2 ^ 59 < 2 ^ 36 ∧
      (0xB800000FFFFFFFFF#64).toNat < 2 ^ 63 + 2 ^ 62) := by
  decide

/-- A line of physical page 1 in set 0x80, way 0, of both caches. -/
def cachedState (dirty : Bool) (tagLo : Word) : State :=
  let l : CacheLine := { tag := 1#24, valid := true, lock := false, dirty := dirty, data := Vector.replicate 32 0x5A#8 }
  { m0 false with
    dcache := (m0 false).dcache.setLine 0x80#8 0#2 l
    icache := (m0 false).icache.setLine 0x80#8 0#2 { l with dirty := false }
    cp0 := { (m0 false).cp0 with tagLo := tagLo } }

theorem witness_CacheIndexOperations :
    let s := cachedState true 0x1C0#32
    s.MemoryForm ∧ s.usable 0#2 = true ∧ s.effAddr 4#5 0#16 = 0xFFFFFFFF80001000#64 ∧
    s.segment? 0xFFFFFFFF80001000#64 = some (.unmapped 0x1000#36 0#3) ∧ s.wbuf = [] ∧
    ((s.cache .data).line 0x80#8 0#2).dirty = true ∧ ((cachedState false 0#32).cache .data).line 0x80#8 0#2 ≠ CacheLine.empty ∧
    s.cp0.tagLo.extractLsb' 6 2 = 3#2 ∧ (cachedState true 0#32).cp0.tagLo.extractLsb' 6 2 = 0#2 := by
  unfold State.MemoryForm
  decide +kernel

/-- The state with a full set of locked dirty lines but for way 1, from which a refill takes its victim. -/
def fullState : State :=
  let line := fun (w : BitVec 2) (lock : Bool) =>
    ({ tag := 2#24 + w.setWidth 24, valid := true, lock := lock, dirty := true, data := Vector.replicate 32 0xA5#8 } : CacheLine)
  let c := (m0 false).dcache.setFifo 0x80#8 2#2
  { m0 false with
    dcache := (((c.setLine 0x80#8 0#2 (line 0 false)).setLine 0x80#8 1#2 (line 1 false)).setLine 0x80#8 2#2 (line 2 true)).setLine
      0x80#8 3#2 (line 3 true) }

/-- A hit and a miss; a victim past two locked lines, whose line is dirty; a read that is answered. -/
theorem witness_CacheHitOperations :
    let s := cachedState true 0#32
    (s.MemoryForm ∧ s.usable 0#2 = true ∧
      s.translate .load (s.effAddr 4#5 0#16) = .ok { pa := 0x1000#36, attr := 0#3 } s ∧
      (s.cache .data).hits 0x80#8 1#24 = [0#2] ∧ (s.cache .inst).hits 0x80#8 1#24 = [0#2] ∧ s.wbuf = []) ∧
    (fullState.MemoryForm ∧ fullState.usable 0#2 = true ∧
      fullState.translate .load (fullState.effAddr 4#5 0#16) = .ok { pa := 0x1000#36, attr := 0#3 } fullState ∧
      fullState.dcache.hits 0x80#8 1#24 = [] ∧ fullState.wbuf = [] ∧
      (∀ d', d' < 2 → lockedFrom fullState .data 0x80#8 d') ∧ ¬lockedFrom fullState .data 0x80#8 2 ∧
      (∀ w ∈ (fullState.cache .data).hits 0x80#8 1#24, w = 0#2) ∧ lineReads fullState 0x1000#36) :=
  ⟨⟨by unfold State.MemoryForm; decide +kernel, by decide, by rfl, by decide +kernel, by decide +kernel, by decide⟩,
    by unfold State.MemoryForm; decide +kernel, by decide, by rfl, by decide +kernel, by decide,
    by unfold lockedFrom; decide +kernel, by unfold lockedFrom; decide +kernel, by decide +kernel,
    by unfold lineReads; decide +kernel⟩

/-- A hit and, under each attribute, a miss, for the doubleword at the end of a line and for the word in it; a fetch that hits and
one that misses. -/
theorem witness_CachedWordHits :
    let s := cachedState true 0#32
    (s.MemoryForm ∧ s.is64bitOps = true ∧ ∀ o ∈ [24#16, 28#16],
      hitsAt s .load (s.effAddr 4#5 o) (0x1000#36 + o.setWidth 36) 0#3 0#2 ∧
        hitsAt s .store (s.effAddr 4#5 o) (0x1000#36 + o.setWidth 36) 0#3 0#2) ∧
    ((s.effAddr 4#5 24#16).toNat % 8 = 0 ∧ (s.effAddr 4#5 28#16).toNat % 4 = 0 ∧ s.wbuf.length < 4 ∧
      (alignedLoads 2#5 24#16 4#5).length = 7 ∧
      (0xFFFFFFFF8000101F#64).toNat / 8 = (s.effAddr 4#5 24#16).toNat / 8 ∧ (0xFFFFFFFF8000101F#64).toNat % 8 + 1 ≤ 8) ∧
    (∀ attr ∈ [0#3, 1#3, 3#3],
      let u := { fullState with cp0 := { fullState.cp0 with config := (fullState.cp0.config &&& 0xFFFFFFF8#32) ||| attr.setWidth 32 } }
      u.MemoryForm ∧ missesAt u .load (u.effAddr 4#5 24#16) 0x1018#36 attr ∧
        missesAt u .store (u.effAddr 4#5 24#16) 0x1018#36 attr ∧ u.env.writeHold = false ∧ lineReads u 0x1018#36) ∧
    (let f := { s with pc := 0xFFFFFFFF80001000#64 }
     f.MemoryForm ∧ f.pc.toNat % 4 = 0 ∧ f.translate .fetch f.pc = .ok { pa := 0x1000#36, attr := 0#3 } f ∧ f.icacheOff = false ∧
       f.icache.hits 0x80#8 1#24 = [0#2]) ∧
    (let f := fullState
     f.pc.toNat % 4 = 0 ∧ f.translate .fetch f.pc = .ok { pa := 0x2000#36, attr := 0#3 } f ∧ f.icacheOff = false ∧
       f.icache.hits 0#8 2#24 = [] ∧ lineReads f 0x2000#36) ∧
    (let f := { fullState with env := { fullState.env with errors := [0x403] } }
     f.MemoryForm ∧ f.translate .fetch f.pc = .ok { pa := 0x2000#36, attr := 0#3 } f ∧ f.wbuf = [] ∧ f.lateError = none ∧
       f.icache.hits 0#8 2#24 = [] ∧ inChipRange 0x2000#36 = false ∧
       f.readAnswer ((List.range 4).map fun j => (0x2000#36).toNat / 32 * 4 + j) = .error) := by
  refine ⟨⟨by unfold State.MemoryForm; decide +kernel, by decide, ?_⟩, by decide, ?_,
    ⟨by unfold State.MemoryForm; decide +kernel, by decide, by rfl, by decide, by decide +kernel⟩,
    ⟨by decide, by rfl, by decide, by decide +kernel, by unfold lineReads; decide +kernel⟩,
    by unfold State.MemoryForm; decide +kernel, by rfl, by decide, by decide, by decide +kernel, by decide, by decide⟩
  · intro o ho
    simp only [List.mem_cons, List.not_mem_nil, or_false] at ho
    rcases ho with rfl | rfl <;>
      exact ⟨⟨by rfl, by decide, by decide, by decide, by decide +kernel⟩, by rfl, by decide, by decide, by decide, by decide +kernel⟩
  · intro attr ha
    simp only [List.mem_cons, List.not_mem_nil, or_false] at ha
    rcases ha with rfl | rfl | rfl <;>
      exact ⟨by unfold State.MemoryForm; decide +kernel, ⟨by rfl, by decide, by decide, by decide, by decide +kernel⟩,
        ⟨by rfl, by decide, by decide, by decide, by decide +kernel⟩, by decide, by unfold lineReads; decide +kernel⟩

/-- The start state with r4 at kseg1, and CU1 and FR set. -/
def uncachedState : State := withStatus 0x24000000#32 ((m0 false).setGpr 4#5 0xFFFFFFFFA0001000#64)

theorem uncached_loads : uncachedState.loadsAt (uncachedState.effAddr 4#5 0#16) 0x1000#36 :=
  ⟨⟨by decide, attrUncached, by rfl, .inl rfl⟩, by unfold State.busReads; decide⟩

theorem uncached_stores : uncachedState.storesAt (uncachedState.effAddr 4#5 0#16) 0x1000#36 :=
  ⟨⟨by decide, attrUncached, by rfl, .inl rfl⟩, by decide⟩

/-- Both caches disabled, r4 at a cached address of physical page 1, whose line the data cache holds. -/
def disabledState : State :=
  let s := cachedState true 0#32
  { withStatus 0x24000000#32 s with cp0 := { s.cp0 with status := 0x24000000#32, config := s.cp0.config ||| 0x00030000#32 } }

/-- A cached access with the caches disabled goes past them (21_cache.md R201): the statements over `loadsAt` and `storesAt` hold
of it. -/
theorem disabled_accesses :
    disabledState.loadsAt (disabledState.effAddr 4#5 0#16) 0x1000#36 ∧
    disabledState.storesAt (disabledState.effAddr 4#5 0#16) 0x1000#36 ∧
    disabledState.MemoryForm ∧ disabledState.usable 1#2 = true ∧ disabledState.is64bitOps = true ∧
    disabledState.translate .load (disabledState.effAddr 4#5 0#16) = .ok { pa := 0x1000#36, attr := 0#3 } disabledState :=
  ⟨⟨⟨by decide, 0#3, by rfl, .inr (by decide)⟩, by unfold State.busReads; decide⟩,
    ⟨⟨by decide, 0#3, by rfl, .inr (by decide)⟩, by decide⟩, by unfold State.MemoryForm; decide +kernel, by decide, by decide, by rfl⟩

/-- With the data cache disabled a load reads memory and a store leaves the line it would hit (21_cache.md R201). -/
theorem test_disabled_cache :
    r2 (.lbu 2#5 0#16 4#5) (cachedState true 0#32) = some 0x5A#64 ∧ r2 (.lbu 2#5 0#16 4#5) disabledState = some 0x80#64 ∧
    seen (exec (.sb 0#5 0#16 4#5) disabledState) (fun t => (t.dcache.line 0x80#8 0#2 = disabledState.dcache.line 0x80#8 0#2 : Bool)) =
      some true := by
  decide +kernel

/-- A store in debug mode whose refill fails over a valid way: the way is invalid, and stays so where the store is then performed
(21_cache.md R185, 60_exceptions.md R663). -/
theorem test_debug_store_refill_fails :
    let s := { fullState with
      cp0 := { fullState.cp0 with debug := 0x40000000#32, config := (fullState.cp0.config &&& 0xFFFFFFF8#32) ||| 3#32 }
      env := { fullState.env with storeErrors := true, errors := [0x200] } }
    let va := s.effAddr 4#5 0#16
    (s.dcache.line 0x80#8 2#2).valid = true ∧
    (match s.store true va 4 7#64 with
     | .exc x t =>
       (match (t.flagMasked x).storeMasked x va va 4 7#64 with
        | .ok _ u => some (x, (t.dcache.line 0x80#8 2#2).valid, (u.dcache.line 0x80#8 2#2).valid, u.physByte 0x1000#36)
        | _ => none)
     | _ => none) = some (.busErrorData, false, false, 7#8) := by
  decide +kernel

theorem witness_AlignedLoads :
    uncachedState.loadsAt (uncachedState.effAddr 4#5 0#16) 0x1000#36 ∧ (uncachedState.effAddr 4#5 0#16).toNat % 8 = 0 ∧
    (uncachedState.effAddr 4#5 0#16).toNat % 4 = 0 ∧ (uncachedState.effAddr 4#5 0#16).toNat % 2 = 0 ∧
    uncachedState.is64bitOps = true :=
  ⟨uncached_loads, by decide, by decide, by decide, by decide⟩

theorem witness_UnalignedLoads :
    (∃ pa, uncachedState.loadsAt (uncachedState.effAddr 4#5 7#16) pa) ∧ uncachedState.is64bitOps = true :=
  ⟨⟨0x1007#36, ⟨by decide, attrUncached, by rfl, .inl rfl⟩, by unfold State.busReads; decide⟩, by decide⟩

theorem witness_AlignedStores :
    uncachedState.MemoryForm ∧ uncachedState.storesAt (uncachedState.effAddr 4#5 0#16) 0x1000#36 ∧
    (uncachedState.effAddr 4#5 0#16).toNat % 8 = 0 ∧ uncachedState.is64bitOps = true :=
  ⟨by unfold State.MemoryForm; decide +kernel, uncached_stores, by decide, by decide⟩

theorem witness_UnalignedStores :
    uncachedState.MemoryForm ∧ (∃ pa, uncachedState.storesAt (uncachedState.effAddr 4#5 7#16) pa) ∧ uncachedState.is64bitOps = true :=
  ⟨by unfold State.MemoryForm; decide +kernel, ⟨0x1007#36, ⟨by decide, attrUncached, by rfl, .inl rfl⟩, by decide⟩, by decide⟩

/-- With LLbit clear and set. -/
theorem witness_LinkedAndConditional :
    uncachedState.loadsAt (uncachedState.effAddr 4#5 0#16) 0x1000#36 ∧ uncachedState.MemoryForm ∧
    uncachedState.storesAt (uncachedState.effAddr 4#5 0#16) 0x1000#36 ∧ uncachedState.llbit = false ∧
    (let s := { uncachedState with llbit := true }
     s.MemoryForm ∧ s.storesAt (s.effAddr 4#5 0#16) 0x1000#36 ∧ s.llbit = true) ∧
    (uncachedState.effAddr 4#5 0#16).toNat % 8 = 0 ∧ (uncachedState.effAddr 4#5 0#16).toNat % 4 = 0 ∧
    uncachedState.is64bitOps = true :=
  ⟨uncached_loads, by unfold State.MemoryForm; decide +kernel, uncached_stores, by decide,
    ⟨by unfold State.MemoryForm; decide +kernel, ⟨⟨by decide, attrUncached, by rfl, .inl rfl⟩, by decide⟩, by decide⟩, by decide,
    by decide, by decide⟩

/-- Addresses misaligned for each width, also in 32-bit user mode; a translation that raises; a read answered with an error, reported
at once or late; a refill so answered. -/
theorem witness_AccessesThatRaise :
    let failing := fun (late : Bool) (s : State) => { s with
      env := { s.env with lateErrors := late, errors := (List.range 4).map fun j => 0x1000 / 8 + j } }
    ((Instr.sdc1 2#5 0#16 4#5, AccessKind.store, 8) ∈ accessForms 2#5 0#16 4#5 ∧ uncachedState.debugMode = false ∧
      uncachedState.is64bitOps = true ∧ (∀ z, coprocessorOf (.sdc1 2#5 0#16 4#5) = some z → uncachedState.usable z = true) ∧
      (uncachedState.effAddr 4#5 1#16).toNat % 2 ≠ 0 ∧ (uncachedState.effAddr 4#5 2#16).toNat % 4 ≠ 0 ∧
      (uncachedState.effAddr 4#5 4#16).toNat % 8 ≠ 0) ∧
    (userState.debugMode = false ∧ userState.is64bitOps = false ∧ isDoubleword (.sc 2#5 0#16 4#5) = false ∧
      (userState.effAddr 4#5 2#16).toNat % 4 ≠ 0) ∧
    ((userState.effAddr 4#5 0#16).toNat % 8 = 0 ∧
      userState.translate .load (userState.effAddr 4#5 0#16) =
        .exc (.addressError .load (userState.effAddr 4#5 0#16)) userState) ∧
    (∀ late, let u := failing late uncachedState
      u.debugMode = false ∧ (u.effAddr 4#5 0#16).toNat % 8 = 0 ∧ u.lateError = none ∧ u.env.writeHold = false ∧
        u.pastCache .load (u.effAddr 4#5 0#16) 0x1000#36 ∧
        u.readAnswer [0x1000 / 8] = .error ∧ u.env.lateErrors = late) ∧
    (let u := failing false fullState
     missesAt u .load (u.effAddr 4#5 0#16) 0x1000#36 0#3 ∧ u.MemoryForm ∧ u.wbuf = [] ∧ u.env.lateErrors = false ∧
       u.lateError = none ∧ u.env.writeHold = false ∧
       u.readAnswer ((List.range 4).map fun j => (0x1000#36).toNat / 32 * 4 + j) = .error) :=
  ⟨by decide, by decide, ⟨by decide, by rfl⟩,
    fun late => by
      cases late <;>
        exact ⟨by decide, by decide, by decide, by decide, ⟨by decide, attrUncached, by rfl, .inl rfl⟩, by decide, by decide⟩,
    ⟨by rfl, by decide, by decide, by decide, by decide +kernel⟩, by unfold State.MemoryForm; decide +kernel, by decide, by decide,
    by decide, by decide, by decide⟩

/-- FR = 1 and an odd number; FR = 0 and an even one; a CTC1 value that traps by E, one by I with its enable, one not. -/
theorem witness_FpMoves :
    uncachedState.usable 1#2 = true ∧ uncachedState.is64bitOps = true ∧ uncachedState.fr = true ∧
    (withStatus 0x20000000#32 (m0 false)).usable 1#2 = true ∧ (withStatus 0x20000000#32 (m0 false)).fr = false ∧
    (4#5).getLsbD 0 = false ∧ uncachedState.debugMode = false ∧
    (0x20000#32).getLsbD 17 = true ∧ ((0x1080#32).getLsbD (12 + 0) = true ∧ (0x1080#32).getLsbD (7 + 0) = true) ∧
    ¬((0x01000003#32).getLsbD 17 = true ∨
      ∃ k, k < 5 ∧ (0x01000003#32).getLsbD (12 + k) = true ∧ (0x01000003#32).getLsbD (7 + k) = true) := by
  decide

theorem witness_FpLoadsAndStores :
    uncachedState.usable 1#2 = true ∧ uncachedState.loadsAt (uncachedState.effAddr 4#5 0#16) 0x1000#36 ∧ uncachedState.MemoryForm ∧
    uncachedState.storesAt (uncachedState.effAddr 4#5 0#16) 0x1000#36 ∧ (uncachedState.effAddr 4#5 0#16).toNat % 8 = 0 ∧
    (uncachedState.effAddr 4#5 0#16).toNat % 4 = 0 ∧ uncachedState.fr = true :=
  ⟨by decide, uncached_loads, by unfold State.MemoryForm; decide +kernel, uncached_stores, by decide, by decide, by decide⟩

/-- Outputs of the three kinds: an exact sum, an inexact one with Enable.I set, a denormalized operand. Operands of each kind of
screening, the largest and the smallest of each (48_fpu.md R544). -/
theorem witness_FpOperations :
    floatFormat .s = some fpSingle ∧ floatFormat .d = some fpDouble ∧ fpUsable.usable 1#2 = true ∧ fpUsable.is64bitOps = true ∧
    fpUsable.debugMode = false ∧
    (let rn : FpRound := { mode := .nearest, flush := false }
     fpS FpFormat.add 0x3F800000 0x40000000 rn = .value 0x40400000 .none ∧
       FpFlags.none.bits &&& fpUsable.fpEnables = 0#5 ∧
       fpS FpFormat.add 0x3F800000 0x33800000 rn = .value 0x3F800000 { FpFlags.none with i := true } ∧
       ({ FpFlags.none with i := true } : FpFlags).bits &&& (fpState 0#64 0#64 0x80#32).fpEnables ≠ 0#5 ∧
       fpS FpFormat.add 0x3F800000 1 rn = .unimplemented) ∧
    (∀ x ∈ [1, 0x807FFFFF, 0x7F800001, 0xFFBFFFFF], isUnimplementedOperand fpSingle x ∧ ¬isSignalingOperand fpSingle x) ∧
    (∀ x ∈ [0x7FC00000, 0xFFFFFFFF], isSignalingOperand fpSingle x ∧ ¬isUnimplementedOperand fpSingle x) ∧
    (∀ x ∈ [0, 0x00800000, 0x7F7FFFFF, 0xFF800000], ¬isSignalingOperand fpSingle x ∧ ¬isUnimplementedOperand fpSingle x) := by
  unfold isUnimplementedOperand isSignalingOperand
  decide

theorem witness_FpUnimplementedForms :
    floatFormat (.reserved 2#4) = none ∧ floatFormat .w = none ∧ fpUsable.usable 1#2 = true ∧ fpUsable.debugMode = false ∧
    (let u := withStatus 0x20000010#32 (m0 false)
     u.usable 1#2 = true ∧ u.debugMode = false ∧ u.is64bitOps = false) := by
  decide

/-- Operands that do not raise Invalid, and a signaling NaN with Enable.V set. -/
theorem witness_FpCompares :
    floatFormat .s = some fpSingle ∧ fpUsable.usable 1#2 = true ∧ (fpSingle.unpack 0x7FC00000).val = .nan true ∧
    (fpState 0x7FC00000#64 0#64 0x800#32).fpEnables.getLsbD 4 = true ∧ (fpState 0x7FC00000#64 0#64 0x800#32).debugMode = false ∧
    (fpState 0x7FC00000#64 0#64 0x800#32).usable 1#2 = true ∧
    (fpSingle.unpack ((fpState 0x7FC00000#64 0#64 0x800#32).fpRead .s 4#5 .operandA)).val = .nan true := by
  decide

/-- A magnitude that rounds: 2^24 + 1 in format S, in each mode; two encodings that are numbers, 1.0 and -2.5. -/
theorem witness_RoundingIsCorrect :
    ((fpSingle.unpack 0x3F800000).val = .fin false (2 ^ 23) (-23) ∧ isReal (fpSingle.unpack 0x3F800000).val 1 ∧
      (fpSingle.unpack 0xC0200000).val = .fin true (5 * 2 ^ 21) (-22) ∧ isReal (fpSingle.unpack 0xC0200000).val (-2.5) ∧
      (fpSingle.unpack 0x3F800000).denormal = false ∧ (fpSingle.unpack 0xC0200000).denormal = false ∧
      (fpSingle.unpack 1).denormal = true) ∧
    ∀ mode ∈ [Rounding.nearest, .zero, .up, .down], ∀ neg ∈ [false, true],
      ∃ bits, fpSingle.round { mode := mode, flush := false } neg (2 ^ 24 + 1) 0 false =
        .value bits { FpFlags.none with i := true } := by
  refine ⟨⟨by decide, ⟨false, 2 ^ 23, -23, by decide, by norm_num⟩, by decide, ⟨true, 5 * 2 ^ 21, -22, by decide, by norm_num⟩,
    by decide, by decide, by decide⟩, ?_⟩
  intro mode hm neg hn
  simp only [List.mem_cons, List.not_mem_nil, or_false] at hm hn
  rcases hm with rfl | rfl | rfl | rfl <;> rcases hn with rfl | rfl <;> exact ⟨_, by rfl⟩

theorem witness_ReservedAndUnusable :
    isDoubleword (.daddu 2#5 4#5 5#5) = true ∧ userState.is64bitOps = false ∧ userState.debugMode = false ∧
    coprocessorOf .tlbr = some 0#2 ∧ isDoubleword .tlbr = false ∧ userState.usable 0#2 = false ∧
    coprocessorOf (.bc3f 0#16) = some 3#2 ∧ (withStatus 0x80000000#32 (m0 false)).usable 3#2 = true := by
  decide

/-- Words of each kind, and a state in which each coprocessor is usable; it is none for user mode with CU = 0. -/
theorem witness_ReservedAndUnusable_words :
    (∀ w ∈ [0x00000005#32, 0x040F0000#32, 0x041F0000#32, 0x70000002#32, 0x7000003F#32, 0xEC000000#32],
      WordKind.reserved.holds w) ∧
    (∀ p ∈ [(0#2, 0x41040000#32), (0#2, 0x40600000#32), (1#2, 0x451F0000#32), (2#2, 0x49E00000#32), (3#2, 0x4C200000#32),
        (3#2, 0x4D040000#32)], (WordKind.coprocessor p.1).holds p.2) ∧
    (∀ w ∈ [0x42000000#32, 0x43FFFFFF#32], WordKind.cop0Function.holds w) ∧
    (∀ w ∈ [0x46000010#32, 0x46000022#32, 0x4600002F#32, 0x44600000#32, 0x45E00000#32], WordKind.cop1.holds w) ∧
    (∀ z, (withStatus 0xF0000000#32 (m0 false)).usable z = true) ∧ (withStatus 0xF0000000#32 (m0 false)).debugMode = false ∧
    (∀ z, userState.usable z = false) := by
  refine ⟨?_, ?_, ?_, ?_, by decide⟩ <;> simp only [WordKind.holds, List.forall_mem_cons] <;> simp

/-- User mode at 0x400000, mapped and uncached, with ADDIU there: it goes on in user mode; with SYSCALL it leaves. -/
def userAt (w : Nat) : State :=
  let e := { mappedEntry 0#12 true true with even := { pfn := 3#24, c := 2#3, d := true, v := true } }
  { withStatus 0x10#32 (mappedState false e) with pc := 0x400000#64 }.withFetchWord 32 w

theorem witness_UserModeIsContained :
    ∀ w ∈ [0x2482FFFF, 0x0000000C], (userAt w).mode = .user ∧ (userAt w).cu 0#2 = false ∧ ∃ t, step (userAt w) = .next t := by
  intro w hw
  simp only [List.mem_cons, List.not_mem_nil, or_false] at hw
  rcases hw with rfl | rfl <;> exact ⟨by decide +kernel, by decide +kernel, next_of_seen (by decide +kernel)⟩

end Sys2Proof
end

section
/-! SUPPORT. The reserved and fixed fields of the control registers under the writes of the model: a write of other bits leaves
the bits under a mask, and each update of the state keeps `State.FixedFields` (11_cp0_registers.md, 10_state.md R21, R42). -/

namespace Sys2Proof.Machine

/-! ## Bits under a mask -/

/-- A field written outside a mask leaves the bits under the mask. -/
theorem putBits_and_of_disjoint {n k : Nat} (x : BitVec n) (lo : Nat) (v : BitVec k) {m : BitVec n}
    (h : ((BitVec.allOnes k).setWidth n <<< lo) &&& m = 0#n) : putBits x lo v &&& m = x &&& m := by
  apply BitVec.eq_of_getLsbD_eq
  intro i hi
  have hbit : (((BitVec.allOnes k).setWidth n <<< lo) &&& m).getLsbD i = false := by rw [h]; simp
  have hv : v.getLsbD (i - lo) = true → i - lo < k := fun hb => BitVec.lt_of_getLsbD hb
  simp only [putBits, BitVec.getLsbD_and, BitVec.getLsbD_or, BitVec.getLsbD_not, BitVec.getLsbD_shiftLeft,
    BitVec.getLsbD_setWidth, BitVec.getLsbD_allOnes] at hbit ⊢
  grind

/-- One bit written outside a mask leaves the bits under the mask. -/
theorem putBit_and_of_disjoint {n : Nat} (x : BitVec n) (i : Nat) (b : Bool) {m : BitVec n}
    (h : ((BitVec.allOnes 1).setWidth n <<< i) &&& m = 0#n) : putBit x i b &&& m = x &&& m :=
  putBits_and_of_disjoint x i _ h

/-- Bits of a mask that meets `m` nowhere. -/
theorem and_and_of_disjoint {n : Nat} (x : BitVec n) {a m : BitVec n} (h : a &&& m = 0#n) : (x &&& a) &&& m = 0#n := by
  rw [BitVec.and_assoc, h, BitVec.and_zero]

/-- A masked write leaves the bits it may not write. -/
theorem writeMasked_and_of_disjoint {n : Nat} {mask m : BitVec n} (old v : BitVec n) (h : mask &&& m = 0#n) :
    writeMasked mask old v &&& m = old &&& m := by
  have hn : ~~~mask &&& m = m := by
    apply BitVec.eq_of_getLsbD_eq
    intro i hi
    have hbit : (mask &&& m).getLsbD i = false := by rw [h]; simp
    simp only [BitVec.getLsbD_and, BitVec.getLsbD_not] at hbit ⊢
    grind
  rw [writeMasked, BitVec.and_or_distrib_right, and_and_of_disjoint v h, BitVec.and_assoc, hn, BitVec.or_zero]

/-- A word whose low bits are 0 has none under a mask of low bits. -/
theorem append_zero_and_low {n k : Nat} (x : BitVec n) (m : BitVec k) : (x ++ 0#k) &&& (0#n ++ m) = 0#(n + k) := by
  rw [append_and_append]
  simp

/-! ## The invariant in parts -/

/-- The reserved and fixed fields of the CP0 registers of a processor with the mode pins `p`. -/
structure Cp0.Fixed (c : Cp0) (p : Straps) : Prop where
  index : c.index &&& 0x7FFFFFC0#32 = 0#32
  entryLo0 : c.entryLo0 &&& 0xFFFFFFFF00000000#64 = 0#64
  entryLo1 : c.entryLo1 &&& 0xFFFFFFFF00000000#64 = 0#64
  context : c.context &&& 0xF#64 = 0#64
  pageMask : c.pageMask &&& 0xFE001FFF#32 = 0#32
  entryHi : c.entryHi &&& 0x3FFFFF0000001F00#64 = 0#64
  status : c.status &&& 0x09AB0000#32 = 0#32
  cause : c.cause &&& 0x4FFFFC83#32 = 0#32
  config : c.config &&& 0xFFF8FFF8#32 = resetConfig p
  xContext : c.xContext &&& 0xF#64 = 0#64
  debug : c.debug &&& 0x3FFF8240#32 = 0#32
  tagLo : c.tagLo &&& 0x1#32 = 0#32
  tagHi : c.tagHi &&& 0x3FFFFFFF#32 = 0#32

theorem State.fixedFields_iff (s : State) :
    s.FixedFields ↔ s.gpr[0] = 0#64 ∧ s.cp0.Fixed s.straps ∧ s.fcr31 &&& 0xFE7C0000#32 = 0#32 := by
  constructor
  · rintro ⟨hg, h1, h2, h3, h4, h5, h6, h7, h8, h9, h10, h11, h12, h13, hf⟩
    exact ⟨hg, ⟨h1, h2, h3, h4, h5, h6, h7, h8, h9, h10, h11, h12, h13⟩, hf⟩
  · rintro ⟨hg, ⟨h1, h2, h3, h4, h5, h6, h7, h8, h9, h10, h11, h12, h13⟩, hf⟩
    exact ⟨hg, h1, h2, h3, h4, h5, h6, h7, h8, h9, h10, h11, h12, h13, hf⟩

namespace State.FixedFields

variable {s t : State}

theorem gpr_zero (h : s.FixedFields) : s.gpr[0] = 0#64 := ((State.fixedFields_iff s).1 h).1

theorem cp0_fixed (h : s.FixedFields) : s.cp0.Fixed s.straps := ((State.fixedFields_iff s).1 h).2.1

theorem fcr31_fixed (h : s.FixedFields) : s.fcr31 &&& 0xFE7C0000#32 = 0#32 := ((State.fixedFields_iff s).1 h).2.2

/-- A change of the CP0 registers alone, of what the invariant speaks of, that keeps their fields. -/
theorem of_cp0 (h : s.FixedFields) (he : (t.gpr, t.straps, t.fcr31) = (s.gpr, s.straps, s.fcr31))
    (hc : t.cp0.Fixed s.straps) : t.FixedFields := by
  obtain ⟨hg, hs, hf⟩ : t.gpr = s.gpr ∧ t.straps = s.straps ∧ t.fcr31 = s.fcr31 := by simpa using he
  exact (State.fixedFields_iff t).2 ⟨hg ▸ h.gpr_zero, hs ▸ hc, hf ▸ h.fcr31_fixed⟩

/-- A change of FCR31 alone, of what the invariant speaks of, that keeps its reserved fields. -/
theorem of_fcr31 (h : s.FixedFields) (he : (t.gpr, t.cp0, t.straps) = (s.gpr, s.cp0, s.straps))
    (hf : t.fcr31 &&& 0xFE7C0000#32 = 0#32) : t.FixedFields := by
  obtain ⟨hg, hc, hs⟩ : t.gpr = s.gpr ∧ t.cp0 = s.cp0 ∧ t.straps = s.straps := by simpa using he
  exact (State.fixedFields_iff t).2 ⟨hg ▸ h.gpr_zero, hc ▸ hs ▸ h.cp0_fixed, hf⟩

/-- A change of nothing the invariant speaks of. -/
theorem of_eq (h : s.FixedFields) (he : (t.gpr, t.cp0, t.straps, t.fcr31) = (s.gpr, s.cp0, s.straps, s.fcr31)) :
    t.FixedFields := by
  obtain ⟨hg, hc, hs, hf⟩ : t.gpr = s.gpr ∧ t.cp0 = s.cp0 ∧ t.straps = s.straps ∧ t.fcr31 = s.fcr31 := by simpa using he
  exact h.of_cp0 (by rw [hg, hs, hf]) (hc ▸ h.cp0_fixed)

/-! ## Registers -/

/-- A register written is not r0 (10_state.md R21). -/
theorem setGpr (h : s.FixedFields) (r : RegNum) (v : DWord) : (s.setGpr r v).FixedFields := by
  unfold State.setGpr
  split
  · exact h
  · next hr =>
    have hn : r.toNat ≠ 0 := fun e => hr (BitVec.eq_of_toNat_eq e)
    refine (State.fixedFields_iff _).2 ⟨?_, h.cp0_fixed, h.fcr31_fixed⟩
    simpa [Vector.getElem_set, hn] using h.gpr_zero

theorem setFpr32 (h : s.FixedFields) (f : FpRegNum) (v : Word) : (s.setFpr32 f v).FixedFields :=
  h.of_eq (by simp)

theorem setFpr64 (h : s.FixedFields) (f : FpRegNum) (v : DWord) : (s.setFpr64 f v).FixedFields :=
  h.of_eq (by simp)

theorem loadFgr (h : s.FixedFields) (f : FpRegNum) (v : Word) : (s.loadFgr f v).FixedFields :=
  h.of_eq (by simp)

theorem spoilDest (h : s.FixedFields) (d : LoadDest) (v : DWord) : (s.spoilDest d v).FixedFields := by
  cases d with
  | gpr r => exact h.setGpr r v
  | fgr f => unfold State.spoilDest; dsimp only; split <;> exact h.of_eq rfl
  | fpr f => exact h.setFpr64 f v

theorem setHiLo (h : s.FixedFields) (hi lo : DWord) : (s.setHiLo hi lo).FixedFields := h.of_eq rfl

/-! ## Completion -/

theorem advance (h : s.FixedFields) : s.advance.FixedFields := h.of_eq rfl

theorem branchTo (h : s.FixedFields) (a : DWord) : (s.branchTo a).FixedFields := h.of_eq rfl

theorem skipSlot (h : s.FixedFields) : s.skipSlot.FixedFields := h.of_eq rfl

/-! ## Memory and late bus errors -/

theorem drainOne (h : s.FixedFields) : s.drainOne.FixedFields := h.of_eq (by simp)

theorem setCache (h : s.FixedFields) (c : CacheId) (v : Cache) : (s.setCache c v).FixedFields := by
  cases c <;> exact h.of_eq rfl

theorem dropLine (h : s.FixedFields) (c : CacheId) (set : BitVec 8) (way : BitVec 2) : (s.dropLine c set way).FixedFields :=
  h.setCache _ _

theorem cleanLine (h : s.FixedFields) (c : CacheId) (set : BitVec 8) (way : BitVec 2) : (s.cleanLine c set way).FixedFields :=
  h.setCache _ _

theorem placeLine (h : s.FixedFields) (c : CacheId) (set : BitVec 8) (way : BitVec 2) (tag : BitVec 24)
    (data : Vector Byte 32) (dirty : Bool) : (s.placeLine c set way tag data dirty).FixedFields := by
  cases c <;> exact h.of_eq rfl

theorem moveFifo (h : s.FixedFields) (c : CacheId) (set : BitVec 8) : (s.moveFifo c set).FixedFields := by
  cases c <;> exact h.of_eq rfl

theorem settleLate (h : s.FixedFields) : s.settleLate.FixedFields := by
  unfold State.settleLate
  split
  · exact h
  · exact (h.spoilDest _ _).of_eq rfl

theorem link (h : s.FixedFields) (pa : PAddr) : (s.link pa).FixedFields := h.of_cp0 rfl { h.cp0_fixed with }

theorem backToLoad (h : s.FixedFields) (e : LateError) : (s.backToLoad e).FixedFields := h.of_cp0 rfl { h.cp0_fixed with }

/-! ## Exceptions -/

/-- Debug.TLF is bit 11, Debug.BsF bit 10 (11_cp0_registers.md R102). -/
theorem flagMasked (h : s.FixedFields) (x : Exc) : (s.flagMasked x).FixedFields := by
  refine h.of_cp0 rfl { h.cp0_fixed with debug := ?_ }
  refine Eq.trans ?_ h.cp0_fixed.debug
  dsimp only [State.flagMasked]
  split <;> exact putBit_and_of_disjoint _ _ _ (by decide)

/-- The bad address goes to the VPN fields; EntryLo takes free values in its own field (60_exceptions.md R632). -/
theorem recordBadAddr (h : s.FixedFields) (x : Exc) : (s.recordBadAddr x s.cp0).Fixed s.straps := by
  have hc := h.cp0_fixed
  unfold State.recordBadAddr
  split
  · exact hc
  · dsimp only
    have hlo (v : DWord) : (v &&& 0xFFFFFFFF#64) &&& 0xFFFFFFFF00000000#64 = 0#64 := and_and_of_disjoint v (by decide)
    split
    · exact { hc with
        entryLo0 := hlo _
        entryLo1 := hlo _
        context := (putBits_and_of_disjoint _ _ _ (by decide)).trans hc.context
        xContext := ((putBits_and_of_disjoint _ _ _ (by decide)).trans
          (putBits_and_of_disjoint _ _ _ (by decide))).trans hc.xContext
        entryHi := ((putBits_and_of_disjoint _ _ _ (by decide)).trans
          (putBits_and_of_disjoint _ _ _ (by decide))).trans hc.entryHi }
    · exact { hc with
        entryLo0 := hlo _
        entryLo1 := hlo _
        context := (putBits_and_of_disjoint _ _ _ (by decide)).trans hc.context
        xContext := (putBits_and_of_disjoint _ _ _ (by decide)).trans hc.xContext
        entryHi := (putBits_and_of_disjoint _ _ _ (by decide)).trans hc.entryHi }

/-- An exception writes ExcCode, CE and BD of Cause (60_exceptions.md R630). -/
theorem causeAfter (h : s.FixedFields) (x : Exc) : s.causeAfter x &&& 0x4FFFFC83#32 = 0#32 := by
  have key (ce : BitVec 2) : putBits (putBits s.cp0.cause 2 x.code) 28 ce &&& 0x4FFFFC83#32 = 0#32 :=
    ((putBits_and_of_disjoint _ _ _ (by decide)).trans (putBits_and_of_disjoint _ _ _ (by decide))).trans h.cp0_fixed.cause
  unfold State.causeAfter
  dsimp only
  split
  · exact key _
  · exact (putBit_and_of_disjoint _ _ _ (by decide)).trans (key _)

theorem takeException (h : s.FixedFields) (x : Exc) : (takeException x s).FixedFields :=
  h.of_cp0 rfl { h.recordBadAddr x with
    cause := h.causeAfter x
    status := (putBit_and_of_disjoint _ _ _ (by decide)).trans h.cp0_fixed.status }

/-- SoftReset and NMI set ERL, SR and BEV (60_exceptions.md R641, R642). -/
theorem resetEntry (h : s.FixedFields) : s.resetEntry.FixedFields :=
  h.of_cp0 rfl { h.cp0_fixed with
    status := (((putBit_and_of_disjoint _ _ _ (by decide)).trans (putBit_and_of_disjoint _ _ _ (by decide))).trans
      (putBit_and_of_disjoint _ _ _ (by decide))).trans h.cp0_fixed.status }

theorem takeNmi (h : s.FixedFields) : (takeNmi s).FixedFields := h.resetEntry.of_eq rfl

theorem eret (h : s.FixedFields) : s.eret.FixedFields := by
  unfold State.eret
  split <;> exact h.of_cp0 rfl { h.cp0_fixed with
    status := (putBit_and_of_disjoint _ _ _ (by decide)).trans h.cp0_fixed.status }

/-- A debug exception writes status bits, DM and DBD (60_exceptions.md R660). -/
theorem takeDebug (h : s.FixedFields) {bits : BitVec 32} (hb : bits &&& 0x3FFF8240#32 = 0#32) :
    (takeDebug bits s).FixedFields := by
  refine h.of_cp0 rfl { h.cp0_fixed with debug := ?_ }
  refine (putBit_and_of_disjoint _ _ _ (by decide)).trans ?_
  have hk : (s.cp0.debug &&& 0x3FFF8FC0#32) &&& 0x3FFF8240#32 = 0#32 := by
    rw [BitVec.and_assoc, show (0x3FFF8FC0#32 &&& 0x3FFF8240#32) = 0x3FFF8240#32 by decide]
    exact h.cp0_fixed.debug
  rw [BitVec.and_or_distrib_right, BitVec.and_or_distrib_right, hk, hb]
  decide

theorem takeDebugWith (h : s.FixedFields) {bits : BitVec 32} (hb : bits &&& 0x3FFF8240#32 = 0#32) (x : Exc) :
    (takeDebugWith bits x s).FixedFields := by
  refine takeDebug (s := { Machine.takeException x s with pc := s.pc, delaySlot := s.delaySlot })
    ((h.takeException x).of_eq rfl) ?_
  rw [BitVec.and_or_distrib_right, hb]
  split <;> decide

theorem takeDebugWithNmi (h : s.FixedFields) {bits : BitVec 32} (hb : bits &&& 0x3FFF8240#32 = 0#32) :
    (takeDebugWithNmi bits s).FixedFields := by
  refine takeDebug (s := { Machine.takeNmi s with pc := s.pc, delaySlot := s.delaySlot }) (h.takeNmi.of_eq rfl) ?_
  rw [BitVec.and_or_distrib_right, hb]
  decide

theorem deret (h : s.FixedFields) : s.deret.FixedFields :=
  h.of_cp0 rfl { h.cp0_fixed with debug := (putBit_and_of_disjoint _ _ _ (by decide)).trans h.cp0_fixed.debug }

/-! ## Writes of the control registers -/

theorem writeStatus (h : s.FixedFields) (v : Word) : (s.writeStatus v).FixedFields := by
  have hw : State.FixedFields { s with cp0 := { s.cp0 with status := writeMasked maskStatus s.cp0.status v } } :=
    h.of_cp0 rfl { h.cp0_fixed with status := (writeMasked_and_of_disjoint _ _ (by decide)).trans h.cp0_fixed.status }
  unfold State.writeStatus
  dsimp only
  split
  · exact hw
  · exact hw.of_eq rfl

/-- A write of Debug changes SSt, JtagRst, TLF and BsF alone (11_cp0_registers.md R102). -/
theorem debugWritten_and (old v : BitVec 32) : debugWritten old v &&& 0x3FFF8240#32 = old &&& 0x3FFF8240#32 := by
  have hk : (v ||| ~~~maskDebugClear) &&& 0x3FFF8240#32 = 0x3FFF8240#32 := by
    rw [BitVec.and_or_distrib_right, show (~~~maskDebugClear &&& 0x3FFF8240#32) = 0x3FFF8240#32 by decide]
    apply BitVec.eq_of_getLsbD_eq
    intro i _
    simp only [BitVec.getLsbD_or, BitVec.getLsbD_and]
    cases v.getLsbD i <;> simp
  rw [debugWritten, BitVec.and_assoc, hk]
  exact writeMasked_and_of_disjoint _ _ (by decide)

/-- A write of a CP0 register leaves its reserved and read-only fields (00_scope.md R14). -/
theorem writeCp0 (h : s.FixedFields) (r : Cop0RegNum) (v : DWord) : (s.writeCp0 r v).FixedFields := by
  have hc := h.cp0_fixed
  unfold State.writeCp0
  dsimp only
  split
  · exact h.of_cp0 rfl { hc with index := (writeMasked_and_of_disjoint _ _ (by decide)).trans hc.index }
  · exact h.of_cp0 rfl { hc with entryLo0 := (writeMasked_and_of_disjoint _ _ (by decide)).trans hc.entryLo0 }
  · exact h.of_cp0 rfl { hc with entryLo1 := (writeMasked_and_of_disjoint _ _ (by decide)).trans hc.entryLo1 }
  · exact h.of_cp0 rfl { hc with context := (writeMasked_and_of_disjoint _ _ (by decide)).trans hc.context }
  · exact h.of_cp0 rfl { hc with pageMask := (writeMasked_and_of_disjoint _ _ (by decide)).trans hc.pageMask }
  · exact h.of_cp0 rfl { hc with }
  · exact h.of_cp0 rfl { hc with }
  · exact h.of_cp0 rfl { hc with entryHi := (writeMasked_and_of_disjoint _ _ (by decide)).trans hc.entryHi }
  · exact h.of_cp0 rfl { hc with }
  · exact h.writeStatus _
  · exact h.of_cp0 rfl { hc with cause := (writeMasked_and_of_disjoint _ _ (by decide)).trans hc.cause }
  · exact h.of_cp0 rfl { hc with }
  · exact h.of_cp0 rfl { hc with config := (writeMasked_and_of_disjoint _ _ (by decide)).trans hc.config }
  · exact h.of_cp0 rfl { hc with }
  · exact h.of_cp0 rfl { hc with xContext := (writeMasked_and_of_disjoint _ _ (by decide)).trans hc.xContext }
  · exact h.of_cp0 rfl { hc with debug := (debugWritten_and _ _).trans hc.debug }
  · exact h.of_cp0 rfl { hc with }
  · exact h.of_cp0 rfl { hc with tagLo := (writeMasked_and_of_disjoint _ _ (by decide)).trans hc.tagLo }
  · exact h.of_cp0 rfl { hc with tagHi := (writeMasked_and_of_disjoint _ _ (by decide)).trans hc.tagHi }
  · exact h.of_cp0 rfl { hc with }
  · exact h.of_cp0 rfl { hc with }
  · exact h

/-- Status.CH is bit 18 (11_cp0_registers.md R80). -/
theorem setCh (h : s.FixedFields) (hit : Bool) : (s.setCh hit).FixedFields :=
  h.of_cp0 rfl { h.cp0_fixed with status := (putBit_and_of_disjoint _ _ _ (by decide)).trans h.cp0_fixed.status }

/-- TagLo and TagHi take 0 in their reserved fields (21_cache.md R192). -/
theorem indexLoadTag (h : s.FixedFields) (c : CacheId) (va : DWord) : (s.indexLoadTag c va).FixedFields := by
  unfold State.indexLoadTag
  apply moveFifo
  refine h.of_cp0 rfl { h.cp0_fixed with tagLo := ?_, tagHi := ?_ }
  · exact append_zero_and_low _ 1#1
  · exact append_zero_and_low _ 0x3FFFFFFF#30

end State.FixedFields

/-! ## The registers TLBR loads (46_cp0_instructions.md R495) -/

theorem TlbPage.entryLo_high (p : TlbPage) (g : Bool) : p.entryLo g &&& 0xFFFFFFFF00000000#64 = 0#64 := by
  have key (f : BitVec 24) (c : BitVec 3) (d v g : BitVec 1) :
      (0#34 ++ f ++ c ++ d ++ v ++ g) &&& (0x3FFFFFFFC#34 ++ 0#24 ++ 0#3 ++ 0#1 ++ 0#1 ++ 0#1) =
        0#34 ++ 0#24 ++ 0#3 ++ 0#1 ++ 0#1 ++ 0#1 := by
    simp only [append_and_append, BitVec.and_zero, BitVec.zero_and]
  exact key ..

theorem Cp0.Fixed.loadTlb {c : Cp0} {p : Straps} (h : c.Fixed p) (e : TlbEntry) : (c.loadTlb e).Fixed p := by
  have hmask (m : BitVec 12) : (0#7 ++ m ++ 0#13) &&& (0x7F#7 ++ 0#12 ++ 0x1FFF#13) = 0#7 ++ 0#12 ++ 0#13 := by
    simp only [append_and_append, BitVec.and_zero, BitVec.zero_and]
  have hhi (r : BitVec 2) (v : BitVec 27) (a : BitVec 8) :
      (r ++ 0#22 ++ v ++ 0#5 ++ a) &&& (0#2 ++ 0x3FFFFF#22 ++ 0#27 ++ 0x1F#5 ++ 0#8) =
        0#2 ++ 0#22 ++ 0#27 ++ 0#5 ++ 0#8 := by
    simp only [append_and_append, BitVec.and_zero, BitVec.zero_and]
  exact { h with
    pageMask := hmask _
    entryHi := hhi ..
    entryLo0 := e.even.entryLo_high e.g
    entryLo1 := e.odd.entryLo_high e.g }

theorem State.FixedFields.loadNoTlb {s : State} (h : s.FixedFields) : s.loadNoTlb.Fixed s.straps :=
  { h.cp0_fixed with
    pageMask := and_and_of_disjoint _ (by decide)
    entryHi := and_and_of_disjoint _ (by decide)
    entryLo0 := and_and_of_disjoint _ (by decide)
    entryLo1 := and_and_of_disjoint _ (by decide) }

/-- The CP0 registers after ColdReset (70_reset_and_hazards.md R755). -/
theorem resetCp0_fixed (p : Straps) : (resetCp0 p).Fixed p := by
  have hconfig : ∀ (e : BitVec 3) (b : BitVec 1),
      (0#1 ++ e ++ 0#12 ++ b ++ 0x66F0#15 : BitVec 32) &&& 0xFFF8FFF8#32 = 0#1 ++ e ++ 0#12 ++ b ++ 0x66F0#15 := by decide
  constructor
  case config => exact hconfig _ _
  all_goals simp [resetCp0]

end Sys2Proof.Machine
end

section
/-! SUPPORT. What a memory operation, an instruction and a step leave, said of a property of the state; and that each memory
operation and each shared operation of an instruction keeps `State.FixedFields`. -/

namespace Sys2Proof.Machine

/-! ## Outcomes -/

/-- Whatever state an instruction or a step answers has a property. -/
def Out.all (o : Out) (p : State → Prop) : Prop :=
  match o with
  | .next t => p t
  | .fault _ => True
  | .refused _ => True

theorem Out.all_next {o : Out} {p : State → Prop} {t : State} (h : Out.all o p) (ho : o = .next t) : p t := by
  subst ho; exact h

/-- The state a memory operation leaves has its reserved and fixed fields. -/
abbrev Res.Fixed {α : Type} (r : Res α) : Prop := r.all State.FixedFields

/-- The state an instruction or a step answers has its reserved and fixed fields. -/
abbrev Out.Fixed (o : Out) : Prop := Out.all o State.FixedFields

/-- A control transfer keeps what its body keeps, or stops. -/
theorem noSlot_fixed (s : State) {k : Out} (hk : k.Fixed) : (noSlot s k).Fixed := by
  unfold noSlot
  split
  · trivial
  · exact hk

namespace State.FixedFields

variable {s : State}

theorem ok {α : Type} (h : s.FixedFields) (v : α) : (Res.ok v s).Fixed := h

theorem stall {α : Type} (h : s.FixedFields) : (Res.stall s : Res α).Fixed := h

theorem next (h : s.FixedFields) : Out.Fixed (.next s) := h

/-! ## The write buffer and the bus -/

theorem flushed (h : s.FixedFields) : s.flushed.Fixed := by
  rcases s.flushed_cases with hf | ⟨-, -, hf⟩ <;> rw [hf]
  · exact ok (h.of_eq rfl) ()
  · exact stall (h.of_eq rfl)

theorem flushedFor (h : s.FixedFields) (unit : Nat) (pa : PAddr) : (s.flushedFor unit pa).Fixed := by
  unfold State.flushedFor
  split
  · exact h.flushed
  · exact h

theorem bufferWrite (h : s.FixedFields) (pa : PAddr) (data : List Byte) : (s.bufferWrite pa data).Fixed := by
  unfold State.bufferWrite
  split
  · exact ok (h.of_eq rfl) ()
  · split
    · exact ok (h.drainOne.of_eq rfl) ()
    · exact stall (h.of_eq rfl)

theorem busIdle (h : s.FixedFields) (k : AccessKind) : (s.busIdle k).Fixed := by
  rcases s.busIdle_cases k with ⟨-, hb⟩ | ⟨-, -, hb⟩ | ⟨-, -, ⟨-, hb⟩ | ⟨-, hb⟩⟩ <;> rw [hb]
  · exact h
  · exact ok (h.of_eq rfl) ()
  · exact h.settleLate.flagMasked _
  · exact h.settleLate

theorem uncachedRead (h : s.FixedFields) (k : AccessKind) (pa : PAddr) (n : Nat) : (s.uncachedRead k pa n).Fixed := by
  refine Res.all_bind (h.busIdle k) fun _ t ht => Res.all_bind ?_ fun _ u hu => ?_
  · split
    · exact ht.flushedFor _ _
    · exact ht.flushed
  · split
    · exact hu
    · exact hu
    · exact stall (hu.of_eq rfl)

theorem chipWrite (h : s.FixedFields) (pa : PAddr) (n : Nat) (v : DWord) : (s.chipWrite pa n v).Fixed := by
  unfold State.chipWrite
  split
  · split
    · exact ok (h.of_eq rfl) ()
    · trivial
  · trivial

/-! ## The caches -/

theorem castOut (h : s.FixedFields) (c : CacheId) (set : BitVec 8) (way : BitVec 2) : (s.castOut c set way).Fixed := by
  unfold State.castOut
  dsimp only
  split
  · exact Res.all_bind h.flushed fun _ t ht => ok (ht.of_eq rfl) ()
  · exact h

theorem readLine (h : s.FixedFields) (k : AccessKind) (castsOut : Bool) (pa : PAddr) : (s.readLine k castsOut pa).Fixed := by
  unfold State.readLine
  split
  · trivial
  · refine Res.all_bind (h.busIdle k) fun _ t ht => Res.all_bind ?_ fun _ u hu => ?_
    · split
      · exact ht.flushed
      · exact ht.flushedFor _ _
    · dsimp only
      split
      · exact hu
      · exact hu
      · exact stall (hu.of_eq rfl)

theorem fillWay (h : s.FixedFields) (k : AccessKind) (c : CacheId) (set : BitVec 8) (way : BitVec 2) (pa : PAddr) :
    (s.fillWay k c set way pa).Fixed := by
  refine Res.all_bind (h.readLine k _ pa) fun line t ht => Res.all_bind (ht.castOut c set way) fun _ u hu => ?_
  split
  · exact hu.placeLine ..
  · exact hu.dropLine ..

theorem lookup (h : s.FixedFields) (k : AccessKind) (c : CacheId) (va : DWord) (pa : PAddr) : (s.lookup k c va pa).Fixed := by
  unfold State.lookup
  split
  · exact h
  · exact Res.all_bind (h.fillWay ..) fun _ t ht => ht
  · trivial

theorem readBytes (h : s.FixedFields) (k : AccessKind) (c : CacheId) (off : Bool) (va : DWord) (p : Physical) (n : Nat) :
    (s.readBytes k c off va p n).Fixed := by
  unfold State.readBytes
  split
  · exact h.uncachedRead ..
  · exact Res.all_bind (h.lookup ..) fun _ t ht => ht

theorem writeBytes (h : s.FixedFields) (va : DWord) (p : Physical) (bytes : List Byte) : (s.writeBytes va p bytes).Fixed := by
  unfold State.writeBytes
  split
  · exact h.bufferWrite ..
  · split
    · exact h.bufferWrite ..
    · refine Res.all_bind (h.lookup ..) fun w t ht => ?_
      split
      · exact ok (ht.of_eq rfl) ()
      · exact Res.all_bind (ht.bufferWrite ..) fun _ u hu => ok (hu.of_eq rfl) ()

/-! ## Loads and stores -/

/-- A translation leaves the state. -/
theorem translateWith (h : s.FixedFields) (k : AccessKind) (checkDirty : Bool) (va : DWord) :
    (s.translateWith k checkDirty va).Fixed := by
  have ht := s.translateWith_all k checkDirty va
  cases hr : s.translateWith k checkDirty va <;> simp only [hr, Res.all] at ht ⊢ <;> exact ht ▸ h

theorem loadFrom (h : s.FixedFields) (va start : DWord) (n : Nat) : (s.loadFrom va start n).Fixed := by
  refine Res.all_bind (h.translateWith .load true va) fun p t ht => ?_
  dsimp only
  split
  · exact Res.all_bind (State.chipRead_all t _ _ _ ht) fun _ u hu => hu
  · exact Res.all_bind (ht.readBytes ..) fun _ u hu => hu

theorem load (h : s.FixedFields) (va : DWord) (n : Nat) : (s.load va n).Fixed := by
  unfold State.load
  split
  · exact h.loadFrom ..
  · exact h

theorem storePhysical (h : s.FixedFields) (va : DWord) (p : Physical) (n : Nat) (v : DWord) :
    (s.storePhysical va p n v).Fixed := by
  unfold State.storePhysical
  split
  · split
    · exact h.chipWrite ..
    · trivial
  · exact h.writeBytes ..

theorem storeTo (h : s.FixedFields) (checkDirty : Bool) (va start : DWord) (n : Nat) (v : DWord) :
    (s.storeTo checkDirty va start n v).Fixed :=
  Res.all_bind (h.translateWith ..) fun _ _ ht => ht.storePhysical ..

theorem store (h : s.FixedFields) (checkDirty : Bool) (va : DWord) (n : Nat) (v : DWord) :
    (s.store checkDirty va n v).Fixed := by
  unfold State.store
  split
  · exact h.storeTo ..
  · exact h

theorem fetchWord (h : s.FixedFields) : s.fetchWord.Fixed := by
  have hf := s.fetchWord_sameButFetch
  have key {t : State} (ht : s.sameButFetch t) : t.FixedFields := by rw [ht]; exact h.of_eq rfl
  cases hr : s.fetchWord <;> simp only [hr, Res.all] at hf ⊢ <;> exact key hf

/-! ## Completions, checks and branches -/

theorem raise (h : s.FixedFields) (x : Exc) : (raise x s).Fixed := by
  unfold Machine.raise
  split
  · trivial
  · exact h.takeException x

theorem setReg (h : s.FixedFields) (r : RegNum) (v : DWord) : (setReg r v s).Fixed := (h.setGpr r v).advance

theorem wide (h : s.FixedFields) {k : Out} (hk : k.Fixed) : (wide s k).Fixed := by
  unfold Machine.wide
  split
  · exact hk
  · exact h.raise _

theorem needs (h : s.FixedFields) (z : BitVec 2) {k : Out} (hk : k.Fixed) : (needs z s k).Fixed := by
  unfold Machine.needs
  split
  · exact hk
  · exact h.raise _

theorem branch (h : s.FixedFields) (taken : Bool) (offset : BitVec 16) : (branch taken offset s).Fixed := by
  refine noSlot_fixed s ?_
  split
  · exact h.branchTo _
  · exact h.advance

theorem branchLikely (h : s.FixedFields) (taken : Bool) (offset : BitVec 16) : (branchLikely taken offset s).Fixed := by
  refine noSlot_fixed s ?_
  split
  · exact h.branchTo _
  · exact h.skipSlot

theorem trapIf (h : s.FixedFields) (c : Bool) : (trapIf c s).Fixed := by
  unfold Machine.trapIf
  split
  · exact h.raise _
  · exact h.advance

theorem copAbsent (h : s.FixedFields) (z : BitVec 2) : (copAbsent z s).Fixed := h.needs z trivial

end State.FixedFields

/-- An instruction that goes on with the value of a memory operation keeps the fields where each part does. -/
theorem Res.elim_fixed {α : Type} {r : Res α} {k : α → State → Out} (hr : r.Fixed)
    (hk : ∀ v t, t.FixedFields → (k v t).Fixed) : (r.elim k).Fixed := by
  cases r with
  | ok v t => exact hk v t hr
  | exc x t => exact State.FixedFields.raise hr x
  | stall t => exact State.FixedFields.of_eq hr rfl
  | fault f => trivial
  | refuse f => trivial

end Sys2Proof.Machine
end

section
/-! SUPPORT. Every instruction keeps `State.FixedFields`: the shapes of the loads and stores, of the CACHE and TLB instructions and
of the floating-point operations, then one line for each group of instructions of one shape. -/

namespace Sys2Proof.Machine

namespace State.FixedFields

variable {s : State}

/-! ## Sums, products and quotients -/

/-- A sum or a difference that raises Integer Overflow or goes to a register (41_computational.md R301). -/
theorem overflowOr (h : s.FixedFields) (c : Prop) [Decidable c] (r : RegNum) (v : DWord) :
    Out.Fixed (if c then Machine.raise .overflow s else Machine.setReg r v s) := by
  split
  · exact h.raise _
  · exact h.setReg r v

theorem setQuotient (h : s.FixedFields) (q r : DWord) : (setQuotient q r s).Fixed := (h.setHiLo r q).advance

theorem quotientOr (h : s.FixedFields) (c : Prop) [Decidable c] (q r : DWord) :
    Out.Fixed (if c then divideByZero s else Machine.setQuotient q r s) := by
  split <;> exact h.setQuotient ..

/-! ## Loads -/

theorem loadFailed {t : State} (ht : t.FixedFields) (s : State) (dest : LoadDest) {also : State → State}
    (ha : ∀ u, u.FixedFields → (also u).FixedFields) : (loadFailed s t dest also).Fixed := by
  unfold Machine.loadFailed
  split
  · exact ht.raise _
  · split
    · exact next ((((ha t ht).spoilDest dest _).advance).of_eq rfl)
    · exact (ht.spoilDest ..).raise _

theorem loadThen {r : Res (PAddr × DWord)} (hr : r.Fixed) (s : State) (dest : LoadDest) {also : State → State}
    {k : PAddr × DWord → State → Out} (ha : ∀ u, u.FixedFields → (also u).FixedFields)
    (hk : ∀ v t, t.FixedFields → (k v t).Fixed) : (loadThen r s dest also k).Fixed := by
  unfold Machine.loadThen
  split
  · next x t =>
    have ht : t.FixedFields := hr
    split
    · exact ((ha _ (ht.flagMasked x)).spoilDest ..).advance
    · split
      · exact ht.loadFailed s dest ha
      · exact ht.raise x
  · exact Res.elim_fixed hr hk

theorem loadGpr {r : Res (PAddr × DWord)} (hr : r.Fixed) (s : State) (rt : RegNum) (f : DWord → DWord) :
    (loadGpr rt r s f).Fixed :=
  loadThen hr s _ (fun _ hu => hu) fun _ _ ht => ht.setReg ..

theorem loadFpr {r : Res (PAddr × DWord)} (hr : r.Fixed) (s : State) (dest : LoadDest) {write : DWord → State → State}
    (hw : ∀ v t, t.FixedFields → (write v t).FixedFields) : (loadFpr dest write r s).Fixed :=
  loadThen hr s _ (fun _ hu => hu) fun _ _ ht => (hw _ _ ht).advance

theorem execLwl (h : s.FixedFields) (rt : RegNum) (offset : BitVec 16) (base : RegNum) :
    (Machine.execLwl rt offset base s).Fixed := by
  unfold Machine.execLwl
  exact loadGpr (h.loadFrom ..) ..

theorem execLwr (h : s.FixedFields) (rt : RegNum) (offset : BitVec 16) (base : RegNum) :
    (Machine.execLwr rt offset base s).Fixed := by
  unfold Machine.execLwr
  exact loadGpr (h.loadFrom ..) ..

theorem linkFailed {t : State} (ht : t.FixedFields) (s : State) (va : DWord) : (s.linkFailed va t).FixedFields := by
  unfold State.linkFailed
  split <;> exact ht.link _

theorem loadLinked (h : s.FixedFields) (rt : RegNum) (offset : BitVec 16) (base : RegNum) (n : Nat) :
    (loadLinked rt offset base n s).Fixed :=
  loadThen (h.load ..) s _ (fun _ hu => hu.linkFailed ..) fun _ _ ht => (ht.link _).setReg ..

/-! ## Stores -/

theorem storeMasked (h : s.FixedFields) (x : Exc) (va start : DWord) (n : Nat) (v : DWord) :
    (s.storeMasked x va start n v).Fixed :=
  Res.all_bind (h.translateWith ..) fun _ _ ht => ht.storePhysical ..

theorem storeOrNot (h : s.FixedFields) (tries : Nat) (x : Exc) (va start : DWord) (n : Nat) (v : DWord) {k : State → Out}
    (hk : ∀ t, t.FixedFields → (k t).Fixed) : (storeOrNot tries x s va start n v k).Fixed := by
  induction tries generalizing x s with
  | zero => exact hk s h
  | succ tries ih =>
    unfold Machine.storeOrNot
    split
    · have hs := h.storeMasked x va start n v
      split
      · next y t hr => exact ih (Res.all_exc hs hr |>.flagMasked y) y
      · exact Res.elim_fixed hs fun _ t ht => hk t ht
    · exact hk s h

theorem storeThen {r : Res Unit} (hr : r.Fixed) (s : State) (va start : DWord) (n : Nat) (v : DWord) {k : State → Out}
    (hk : ∀ t, t.FixedFields → (k t).Fixed) : (storeThen r s va start n v k).Fixed := by
  unfold Machine.storeThen
  split
  · next x t =>
    have ht : t.FixedFields := hr
    split
    · exact (ht.flagMasked x).storeOrNot _ _ _ _ _ _ hk
    · exact ht.raise x
  · exact Res.elim_fixed hr fun _ t ht => hk t ht

theorem storeAligned (h : s.FixedFields) (va : DWord) (n : Nat) (v : DWord) {k : State → Out}
    (hk : ∀ t, t.FixedFields → (k t).Fixed) : (storeAligned va n v s k).Fixed :=
  storeThen (h.store ..) s _ _ _ _ hk

theorem storeGpr (h : s.FixedFields) (rt : RegNum) (offset : BitVec 16) (base : RegNum) (n : Nat) :
    (storeGpr rt offset base n s).Fixed := h.storeAligned _ _ _ fun _ ht => ht.advance

theorem storeUnaligned (h : s.FixedFields) (va start : DWord) (n : Nat) (v : DWord) :
    (storeUnaligned va start n v s).Fixed := storeThen (h.storeTo ..) s _ _ _ _ fun _ ht => ht.advance

theorem storeConditional (h : s.FixedFields) (rt : RegNum) (offset : BitVec 16) (base : RegNum) (n : Nat) :
    (storeConditional rt offset base n s).Fixed := by
  unfold Machine.storeConditional
  dsimp only
  split
  · exact h.storeAligned _ _ _ fun _ ht => ht.setReg ..
  · generalize hr : (if aligned (s.effAddr base offset) n then _ else _) = r
    have hres : r.Fixed := by
      rw [← hr]
      split
      · exact Res.all_bind (h.translateWith ..) fun _ _ ht => ht
      · exact h
    split
    · next x t =>
      have ht : t.FixedFields := hres
      split
      · exact (ht.flagMasked x).setReg ..
      · exact ht.raise x
    · exact Res.elim_fixed hres fun _ _ ht => ht.setReg ..

/-! ## CACHE -/

theorem indexCheck (h : s.FixedFields) (va : DWord) : (s.indexCheck va).Fixed := by
  unfold State.indexCheck
  split
  · trivial
  · exact h
  · exact h

theorem indexInvalidate (h : s.FixedFields) (c : CacheId) (va : DWord) : (s.indexInvalidate c va).Fixed :=
  Res.all_bind (h.castOut ..) fun _ _ ht => (ht.dropLine ..).moveFifo ..

theorem indexStoreTag (h : s.FixedFields) (c : CacheId) (va : DWord) : (s.indexStoreTag c va).Fixed := by
  unfold State.indexStoreTag
  dsimp only
  split
  · trivial
  · exact h.setCache ..

theorem hitOp (h : s.FixedFields) (c : CacheId) (va : DWord) {onHit : BitVec 2 → State → Res Unit}
    (hk : ∀ w t, t.FixedFields → (onHit w t).Fixed) : (s.hitOp c va onHit).Fixed := by
  refine Res.all_bind (h.translateWith .load true va) fun p t ht => ?_
  split
  · exact (ht.setCh _).moveFifo ..
  · exact Res.all_bind (hk _ t ht) fun _ u hu => (hu.setCh _).moveFifo ..
  · trivial

theorem createDirty (h : s.FixedFields) (va : DWord) : (s.createDirty va).Fixed := by
  refine Res.all_bind (h.translateWith .load true va) fun p t ht => ?_
  split
  · exact moveFifo (s := { t with dcache := _ }) (ht.of_eq (by rfl)) ..
  · exact Res.all_bind (ht.castOut ..) fun _ u hu => hu.placeLine ..
  · trivial

theorem fill (h : s.FixedFields) (k : AccessKind) (c : CacheId) (va : DWord) : (s.fill k c va).Fixed := by
  refine Res.all_bind (h.translateWith .load true va) fun p t ht => ?_
  dsimp only
  split
  · trivial
  · exact ht.fillWay ..

theorem cacheOp (h : s.FixedFields) (op : CacheOp) (va : DWord) : (s.cacheOp op va).Fixed := by
  cases op with
  | indexInvalidateI | indexWriteBackInvalidateD => exact Res.all_bind (h.indexCheck va) fun _ _ ht => ht.indexInvalidate ..
  | indexLoadTagI | indexLoadTagD => exact Res.all_bind (h.indexCheck va) fun _ _ ht => ht.indexLoadTag ..
  | indexStoreTagI | indexStoreTagD => exact Res.all_bind (h.indexCheck va) fun _ _ ht => ht.indexStoreTag ..
  | createDirtyExclusiveD => exact h.createDirty va
  | hitInvalidateI | hitInvalidateD => exact h.hitOp _ va fun _ _ ht => ht.dropLine ..
  | fillI | fillD => exact h.fill ..
  | hitWriteBackInvalidateD =>
    exact h.hitOp _ va fun _ _ ht => Res.all_bind (ht.castOut ..) fun _ _ hu => hu.dropLine ..
  | hitWriteBackD => exact h.hitOp _ va fun _ _ ht => Res.all_bind (ht.castOut ..) fun _ _ hu => hu.cleanLine ..
  | undefined _ => exact h.indexCheck va

theorem cacheThen {r : Res Unit} (hr : r.Fixed) (s : State) : (cacheThen r s).Fixed := by
  unfold Machine.cacheThen
  split
  · next x t =>
    have ht : t.FixedFields := hr
    split
    · exact (ht.flagMasked x).advance
    · exact ht.raise x
  · exact Res.elim_fixed hr fun _ _ ht => ht.advance

/-! ## The TLB -/

theorem writeTlb (h : s.FixedFields) (i : BitVec 6) : (writeTlb i s).Fixed := by
  unfold Machine.writeTlb
  split
  · split
    · exact next (h.of_eq rfl)
    · trivial
  · exact h.advance

theorem execTlbr (h : s.FixedFields) : (Machine.execTlbr s).Fixed := by
  refine h.needs _ (advance ?_)
  split
  · exact h.of_cp0 rfl (h.cp0_fixed.loadTlb _)
  · exact h.of_cp0 rfl h.loadNoTlb

/-- Index takes P and a number of six bits (46_cp0_instructions.md R498). -/
theorem execTlbp (h : s.FixedFields) : (Machine.execTlbp s).Fixed := by
  have hmissed (v : BitVec 6) : (1#1 ++ 0#25 ++ v) &&& (0#1 ++ 0x1FFFFFF#25 ++ 0#6) = 0#1 ++ 0#25 ++ 0#6 := by
    simp only [append_and_append, BitVec.and_zero, BitVec.zero_and]
  have hfound : ∀ i : Fin 48, indexFound i &&& 0x7FFFFFC0#32 = 0#32 := by decide
  refine h.needs _ ?_
  split
  · exact next (h.of_cp0 rfl { h.cp0_fixed with index := hmissed _ })
  · exact next (h.of_cp0 rfl { h.cp0_fixed with index := hfound _ })
  · trivial

/-! ## Floating point -/

/-- The Cause field of FCR31 is bits 17:12 (10_state.md R42). -/
theorem fpTrap (h : s.FixedFields) (cause : BitVec 6) : (fpTrap cause s).Fixed :=
  (h.of_fcr31 (t := { s with fcr31 := _ }) (by rfl) ((putBits_and_of_disjoint _ _ _ (by decide)).trans h.fcr31_fixed)).raise _

theorem fpUnimplemented (h : s.FixedFields) : (fpUnimplemented s).Fixed := h.fpTrap _

/-- An operation writes Cause and Flags of FCR31 (48_fpu.md R546). -/
theorem fcr31After (h : s.FixedFields) (flags : FpFlags) : fcr31After s.fcr31 flags &&& 0xFE7C0000#32 = 0#32 := by
  have hflags : ∀ b : BitVec 5, (b.setWidth 32 <<< 2) &&& 0xFE7C0000#32 = 0#32 := by decide
  rw [Machine.fcr31After, BitVec.and_or_distrib_right, putBits_and_of_disjoint _ _ _ (by decide), h.fcr31_fixed, hflags]
  rfl

theorem fpFinish (h : s.FixedFields) (out : FpOut) {store : Nat → State → State}
    (hs : ∀ v t, t.FixedFields → (store v t).FixedFields) : (fpFinish out s store).Fixed := by
  unfold Machine.fpFinish
  split
  · exact h.fpUnimplemented
  · split
    · exact h.fpTrap _
    · exact (hs _ { s with fcr31 := _ } (h.of_fcr31 (by rfl) (h.fcr31After _))).advance

theorem fpStore (h : s.FixedFields) (fmt : Fmt) (f : FpRegNum) (v : Nat) : (s.fpStore fmt f v).FixedFields := by
  unfold State.fpStore
  split
  · exact h.setFpr32 ..
  · exact h.setFpr32 ..
  · exact h.setFpr64 ..

theorem fpBinary (h : s.FixedFields) (op : FpFormat → FpRound → FpVal → FpVal → FpOut) (fmt : Fmt) (fd fs ft : FpRegNum) :
    (fpBinary op fmt fd fs ft s).Fixed := by
  refine h.needs _ ?_
  split
  · exact h.fpUnimplemented
  · exact h.fpFinish _ fun _ _ ht => ht.fpStore ..

theorem fpUnary (h : s.FixedFields) (op : FpFormat → FpRound → Nat → FpVal → FpOut) (fmt : Fmt) (fd fs : FpRegNum) :
    (fpUnary op fmt fd fs s).Fixed := by
  refine h.needs _ ?_
  split
  · exact h.fpUnimplemented
  · exact h.fpFinish _ fun _ _ ht => ht.fpStore ..

theorem fpToWord (h : s.FixedFields) (mode : Rounding) (fmt : Fmt) (fd fs : FpRegNum) :
    (fpToWord mode fmt fd fs s).Fixed := by
  refine h.needs _ ?_
  split
  · exact h.fpUnimplemented
  · exact h.fpFinish _ fun _ _ ht => ht.fpStore ..

theorem fpToLong (h : s.FixedFields) (mode : Rounding) (fmt : Fmt) (fd fs : FpRegNum) :
    (fpToLong mode fmt fd fs s).Fixed := by
  refine h.needs _ ?_
  split
  · exact h.fpUnimplemented
  · split
    · exact h.fpFinish _ fun _ _ ht => ht.fpStore ..
    · exact h.fpUnimplemented

/-- A comparison writes C of FCR31, bit 23 (10_state.md R44). -/
theorem fpCompare (h : s.FixedFields) (cond : BitVec 4) (fmt : Fmt) (fs ft : FpRegNum) :
    (fpCompare cond fmt fs ft s).Fixed := by
  refine h.needs _ ?_
  split
  · exact h.fpUnimplemented
  · exact h.fpFinish _ fun _ t ht => ht.of_fcr31 rfl ((putBit_and_of_disjoint _ _ _ (by decide)).trans ht.fcr31_fixed)

theorem execMovFmt (h : s.FixedFields) (fmt : Fmt) (fd fs : FpRegNum) : (Machine.execMovFmt fmt fd fs s).Fixed := by
  refine h.needs _ ?_
  split
  · exact h.fpUnimplemented
  · exact (h.fpStore ..).advance

/-- A conversion to a floating-point format, which is not defined from that format. -/
theorem convertOr (h : s.FixedFields) (c : Prop) [Decidable c] (out : FpOut) (fmt : Fmt) (fd : FpRegNum) :
    Out.Fixed (if c then Machine.fpUnimplemented s else Machine.fpFinish out s fun v t => t.fpStore fmt fd v) := by
  split
  · exact h.fpUnimplemented
  · exact h.fpFinish _ fun _ _ ht => ht.fpStore ..

theorem execCtc1 (h : s.FixedFields) (rt : RegNum) (fs : FpRegNum) : (Machine.execCtc1 rt fs s).Fixed := by
  refine h.needs _ ?_
  split
  · have hw : State.FixedFields { s with fcr31 := fcr31Legal (s.rget32 rt) } :=
      h.of_fcr31 rfl (and_and_of_disjoint _ (by decide))
    unfold writeFcr31
    split
    · exact hw.raise _
    · exact hw.advance
  · exact h.advance

/-! ## Debug -/

theorem execSdbbp (h : s.FixedFields) (code : BitVec 20) : (Machine.execSdbbp code s).Fixed := by
  unfold Machine.execSdbbp
  split
  · trivial
  · exact h.takeDebug (by decide)

theorem execDeret (h : s.FixedFields) : (Machine.execDeret s).Fixed := by
  refine h.needs _ ?_
  split
  · exact noSlot_fixed s h.deret
  · trivial

end State.FixedFields

/-! ## Every instruction -/

/-- An instruction keeps the reserved and fixed fields, by its shape. -/
theorem exec_fixed {s : State} (h : s.FixedFields) (i : Instr) : Out.Fixed (exec i s) := by
  cases i with
  | lb | lbu | lh | lhu | lw => exact State.FixedFields.loadGpr (h.load ..) ..
  | lwu | ld => exact h.wide (State.FixedFields.loadGpr (h.load ..) ..)
  | lwl => exact h.execLwl ..
  | lwr => exact h.execLwr ..
  | ldl | ldr => exact h.wide (State.FixedFields.loadGpr (h.loadFrom ..) ..)
  | sb | sh | sw => exact h.storeGpr ..
  | sd => exact h.wide (h.storeGpr ..)
  | swl | swr => exact h.storeUnaligned ..
  | sdl | sdr => exact h.wide (h.storeUnaligned ..)
  | ll => exact h.loadLinked ..
  | lld => exact h.wide (h.loadLinked ..)
  | sc => exact h.storeConditional ..
  | scd => exact h.wide (h.storeConditional ..)
  | addi | add | sub => exact h.overflowOr ..
  | daddi | dadd | dsub => exact h.wide (h.overflowOr ..)
  | addiu | slti | sltiu | andi | ori | xori | lui | addu | subu | slt | sltu | and | or | xor | nor
  | sll | srl | sra | sllv | srlv | srav | mfhi | mflo => exact h.setReg ..
  | daddiu | daddu | dsubu | dsll | dsrl | dsra | dsll32 | dsrl32 | dsra32 | dsllv | dsrlv | dsrav =>
    exact h.wide (h.setReg ..)
  | mult | multu | madd | maddu => exact (h.setHiLo ..).setReg ..
  | dmult | dmultu => exact h.wide ((h.setHiLo ..).setReg ..)
  | div | divu => exact h.quotientOr ..
  | ddiv | ddivu => exact h.wide (h.quotientOr ..)
  | mthi | mtlo => exact (h.setHiLo ..).advance
  | j | jr => exact noSlot_fixed s (h.branchTo _)
  | jal | jalr => exact noSlot_fixed s ((h.setGpr ..).branchTo _)
  | beq | bne | blez | bgtz | bltz | bgez => exact h.branch ..
  | beql | bnel | blezl | bgtzl | bltzl | bgezl => exact h.branchLikely ..
  | bltzal | bgezal => exact (h.setGpr ..).branch ..
  | bltzall | bgezall => exact (h.setGpr ..).branchLikely ..
  | bc0f | bc0t | bc1f | bc1t => exact h.needs _ (h.branch ..)
  | bc0fl | bc0tl | bc1fl | bc1tl => exact h.needs _ (h.branchLikely ..)
  | syscall | brk => exact h.raise _
  | sdbbp code => exact h.execSdbbp code
  | sync => exact Res.elim_fixed h.flushed fun _ _ ht => ht.advance
  | tge | tgeu | tlt | tltu | teq | tne | tgei | tgeiu | tlti | tltiu | teqi | tnei => exact h.trapIf ..
  | lwc1 => exact h.needs _ (State.FixedFields.loadFpr (h.load ..) s _ fun _ _ ht => ht.loadFgr ..)
  | ldc1 => exact h.needs _ (State.FixedFields.loadFpr (h.load ..) s _ fun _ _ ht => ht.setFpr64 ..)
  | swc1 | sdc1 => exact h.needs _ (h.storeAligned _ _ _ fun _ ht => ht.advance)
  | mfc0 | cfc0 | mfc1 | cfc1 => exact h.needs _ (h.setReg ..)
  | dmfc0 | dmfc1 => exact h.wide (h.needs _ (h.setReg ..))
  | mtc0 => exact h.needs _ (h.writeCp0 ..).advance
  | dmtc0 => exact h.wide (h.needs _ (h.writeCp0 ..).advance)
  | ctc0 => exact h.needs _ h.advance
  | mtc1 => exact h.needs _ (h.loadFgr ..).advance
  | dmtc1 => exact h.wide (h.needs _ (h.setFpr64 ..).advance)
  | ctc1 => exact h.execCtc1 ..
  | lwc2 | swc2 | ldc2 | sdc2 | mfc2 | cfc2 | mtc2 | ctc2 | cop2 | bc2f | bc2t | bc2fl | bc2tl
  | bc3f | bc3t | bc3fl | bc3tl => exact h.copAbsent _
  | dmfc2 | dmtc2 => exact h.wide (h.copAbsent _)
  | tlbr => exact h.execTlbr
  | tlbwi | tlbwr => exact h.needs _ (h.writeTlb _)
  | tlbp => exact h.execTlbp
  | eret => exact h.needs _ (noSlot_fixed s h.eret)
  | deret => exact h.execDeret
  | wait => exact h.needs _ (Res.elim_fixed h.flushed fun _ _ ht => ht.of_eq rfl)
  | cache => exact h.needs _ (State.FixedFields.cacheThen (h.cacheOp ..) s)
  | pref => exact h.advance
  | addFmt | subFmt | mulFmt | divFmt => exact h.fpBinary ..
  | sqrtFmt => exact h.fpUnary (fun f c _ a => f.sqrt c a) ..
  | absFmt => exact h.fpUnary (fun f _ x _ => .exact (f.abs x)) ..
  | negFmt => exact h.fpUnary (fun f _ x _ => .exact (f.neg x)) ..
  | movFmt => exact h.execMovFmt ..
  | roundLFmt | truncLFmt | ceilLFmt | floorLFmt | cvtLFmt => exact h.fpToLong ..
  | roundWFmt | truncWFmt | ceilWFmt | floorWFmt | cvtWFmt => exact h.fpToWord ..
  | cvtSFmt | cvtDFmt => exact h.needs _ (h.convertOr ..)
  | cFFmt | cUnFmt | cEqFmt | cUeqFmt | cOltFmt | cUltFmt | cOleFmt | cUleFmt | cSfFmt | cNgleFmt | cSeqFmt | cNglFmt
  | cLtFmt | cNgeFmt | cLeFmt | cNgtFmt => exact h.fpCompare ..

end Sys2Proof.Machine
end

section
/-! SUPPORT. Each part of a step keeps `State.FixedFields`: the word that runs, what goes on beside the instructions, the events
from outside; and the step itself. -/

namespace Sys2Proof.Machine

/-- The break bits and the single-step bit are no reserved bits of Debug (11_cp0_registers.md R102). -/
theorem State.debugDue_and (s : State) : s.debugDue &&& 0x3FFF8240#32 = 0#32 := by
  have key : ∀ (b : BitVec 4) (d : Bool),
      (0#26 ++ b ++ 0#1 ++ BitVec.ofBool d : BitVec 32) &&& 0x3FFF8240#32 = 0#32 := by decide
  exact key ..

/-- A ColdReset samples the mode pins, and Config takes the fields they fix (60_exceptions.md R640). -/
theorem coldReset_fixed (pins : Straps) (s : State) : (coldReset pins s).FixedFields :=
  (State.fixedFields_iff _).2 ⟨by simp [coldReset, State.reset], resetCp0_fixed pins, by simp [coldReset, State.reset]⟩

namespace State.FixedFields

variable {s : State}

/-! ## The word that runs -/

theorem execReject (h : s.FixedFields) (r : Reject) : (execReject r s).Fixed := by
  cases r with
  | reserved | short => exact h.raise _
  | copReserved z => exact h.needs _ (h.raise _)
  | cop0Nop => exact h.needs _ h.advance
  | fpuUnimplemented => exact h.needs _ h.fpUnimplemented

theorem execWord (h : s.FixedFields) (w : Word) : (execWord w s).Fixed := by
  unfold Machine.execWord
  split
  · exact exec_fixed h _
  · exact h.execReject _

theorem prepared (h : s.FixedFields) : s.prepared.FixedFields := h.of_cp0 rfl { h.cp0_fixed with }

theorem unstalled (h : s.FixedFields) : s.unstalled.FixedFields := h.of_eq rfl

end State.FixedFields

theorem hold_fixed (w : Word) {o : Out} (h : o.Fixed) : (hold w o).Fixed := by
  unfold hold
  split
  · next t =>
    have ht : t.FixedFields := h
    dsimp only [Out.Fixed, Out.all]
    split
    · exact ht.of_eq rfl
    · exact ht
  · exact h

namespace State.FixedFields

variable {s : State}

theorem runInterrupted (h : s.FixedFields) (w : Word) : (runInterrupted w s).Fixed := by
  unfold Machine.runInterrupted
  split
  · exact h.takeDebugWith (by decide) _
  · split
    · next t ht =>
      split
      · exact Out.all_next (h.prepared.execWord w) ht
      · exact h.takeException _
    · exact h.takeException _

theorem runInstr (h : s.FixedFields) (w : Word) : (runInstr w s).Fixed := by
  unfold Machine.runInstr
  split
  · exact h.runInterrupted w
  · exact hold_fixed w (h.prepared.execWord w)

theorem lateErrorAt {t : State} (h : s.FixedFields) {w : Word} (ht : lateErrorAt w s = some t) : t.FixedFields := by
  obtain ⟨e, -, ⟨-, rfl⟩ | rfl⟩ := lateErrorAt_some ht
  · exact h.settleLate.backToLoad e
  · exact h.settleLate

theorem afterLateError (h : s.FixedFields) (w : Word) {k : State → Out} (hk : ∀ t, t.FixedFields → (k t).Fixed) :
    (afterLateError w s k).Fixed := by
  rcases afterLateError_cases w s k with ⟨-, he⟩ | ⟨t, ht, ⟨-, he⟩ | ⟨-, -, he⟩ | ⟨-, -, he⟩⟩ <;> rw [he]
  · exact hk s h
  · exact hk _ (h.settleLate.flagMasked _)
  · exact h.settleLate.takeDebugWith (by decide) _
  · exact (h.lateErrorAt ht).takeException _

theorem enterDebug (h : s.FixedFields) {bits : BitVec 32} (hb : bits &&& 0x3FFF8240#32 = 0#32) :
    (enterDebug bits s).FixedFields := by
  unfold Machine.enterDebug
  split
  · exact h.settleLate.takeDebugWith hb _
  · split
    · exact h.takeDebugWith hb _
    · exact h.takeDebug hb

theorem runWord (h : s.FixedFields) (w : Word) : (runWord w s).Fixed := by
  unfold Machine.runWord
  split
  · exact h.enterDebug s.debugDue_and
  · exact h.afterLateError w fun _ ht => ht.runInstr w

theorem resume (h : s.FixedFields) (w : Word) : (resume w s).Fixed :=
  h.afterLateError w fun _ ht => hold_fixed w (ht.execWord w)

theorem afterDebug (h : s.FixedFields) {o : Out} (ho : o.Fixed) : (afterDebug s o).Fixed := by
  unfold Machine.afterDebug
  split
  · exact h.enterDebug s.debugDue_and
  · exact ho

theorem runPc (h : s.FixedFields) : (runPc s).Fixed := by
  have hf := h.fetchWord
  unfold Machine.runPc
  split
  · next w t ht => exact (Res.all_ok hf ht).runWord w
  · next x t ht =>
    have ht := Res.all_exc hf ht
    split
    · exact ht.runWord _
    · split
      · exact ht.takeDebugWith t.debugDue_and x
      · exact ht.raise x
  · next t ht => exact next ((Res.all_stall hf ht).of_eq rfl)
  · exact h.afterDebug trivial
  · exact h.afterDebug trivial

theorem runNmi (h : s.FixedFields) : (runNmi s).FixedFields := by
  unfold Machine.runNmi
  split
  · exact h.takeDebugWithNmi s.debugDue_and
  · split
    · exact h.takeDebugWithNmi (by decide)
    · exact h.takeNmi

theorem runStalledNmi (h : s.FixedFields) : (runStalledNmi s).Fixed := by
  have hf := h.fetchWord
  unfold Machine.runStalledNmi
  split
  · next ht => exact (Res.all_ok hf ht).runNmi
  · next ht => exact (Res.all_exc hf ht).runNmi
  · next t ht => exact next ((Res.all_stall hf ht).of_eq rfl)
  · exact h.runNmi
  · exact h.runNmi

theorem runProcessor (h : s.FixedFields) : (runProcessor s).Fixed := by
  unfold Machine.runProcessor
  split
  · dsimp only [Out.Fixed, Out.all]
    split
    · exact h.of_eq rfl
    · exact h
  · split
    · exact h.unstalled.resume _
    · split
      · split
        · exact h.unstalled.runStalledNmi
        · exact h.unstalled.runNmi
      · exact h.unstalled.runPc

/-! ## The step -/

theorem tick (h : s.FixedFields) : (tick s).FixedFields := by
  rw [tick_eq]
  exact h.of_cp0 rfl { h.cp0_fixed with }

theorem processorStep (h : s.FixedFields) : (processorStep s).Fixed := by
  have hr := h.tick.runProcessor
  unfold Machine.processorStep ended
  split
  · next ht => exact next ((Out.all_next hr ht).of_eq rfl)
  · exact hr

theorem applyEvent (h : s.FixedFields) (e : ExtEvent) : (applyEvent e s).FixedFields := by
  cases e with
  | run => exact h
  | softReset spoiled => exact h.resetEntry.of_eq rfl
  | coldReset pins => exact coldReset_fixed pins s
  | debugBreak k =>
    dsimp only [Machine.applyEvent, debugBreak]
    split
    · exact h.of_eq rfl
    · exact h
  | setIntPins | setNmiPin | extWrite | setWriteHold | setErrors | setUnanswered | dmaWrite | setLateErrors | busErrorArrives
  | setStoreErrors | setReadAhead => exact h.of_eq rfl

end State.FixedFields

/-- Every step keeps the reserved and fixed fields and r0. -/
theorem step_fixed {s : State} (h : s.FixedFields) : (step s).Fixed := by
  unfold step cycle
  split
  · exact h.processorStep
  · exact State.FixedFields.processorStep (s := { s with env := _ }) (h.of_eq (by rfl))
  · exact State.FixedFields.applyEvent (s := { s with env := _ }) (h.of_eq (by rfl)) _

/-- Settles O5: each part of a step keeps the fields, the writes of the control registers because they meet no reserved bit. -/
theorem stepKeepsFixedFields : Obligations.StepKeepsFixedFields :=
  fun _ _ h hst => Out.all_next (step_fixed h) hst

end Sys2Proof.Machine
end

section
/-! SUPPORT. What a step of the processor comes to when it is one of `runPc` or of an instruction in progress; and that a step
runs the word fetched, goes on with the word in progress, or takes the exception its fetch raises (10_state.md R26,
60_exceptions.md R625, R663). -/

namespace Sys2Proof.Machine

/-! ## What the tick leaves -/

@[simp] theorem tick_power (s : State) : (tick s).plat.power = s.plat.power := by rw [tick_eq]
@[simp] theorem tick_fetched (s : State) : (tick s).plat.fetched = s.plat.fetched := by rw [tick_eq]
@[simp] theorem tick_nmiPending (s : State) : (tick s).plat.nmiPending = s.plat.nmiPending := by rw [tick_eq]
@[simp] theorem tick_debugMode (s : State) : (tick s).debugMode = s.debugMode := by rw [tick_eq]; rfl

/-! ## Debug mode -/

@[simp] theorem State.unstalled_debugMode (s : State) : s.unstalled.debugMode = s.debugMode := rfl

theorem State.sameButFetch.debugMode_eq {s t : State} (h : s.sameButFetch t) : t.debugMode = s.debugMode := by rw [h]; rfl

/-- In debug mode no interrupt is pending (61_interrupts_platform.md R708). -/
theorem State.interruptPending_of_debugMode {s : State} (h : s.debugMode = true) : s.interruptPending = false := by
  simp [State.interruptPending, h]

theorem raise_of_debugMode (x : Exc) {s : State} (h : s.debugMode = true) : raise x s = .refused .exceptionInDebug := if_pos h

/-! ## Late bus errors -/

/-- No late bus error is due at a word when none is left to report, or when it has not arrived and the word does not wait for it. -/
theorem lateErrorAt_eq_none {w : Word} {s : State} :
    lateErrorAt w s = none ↔
      ∀ e, s.lateError = some e → e.arrived = false ∧ ∀ i, decode w = .ok i → waitsFor i s.fr e.dest = false := by
  unfold lateErrorAt
  cases s.lateError with
  | none => simp
  | some e =>
    cases decode w with
    | error r => simp
    | ok i =>
      cases hw : waitsFor i s.fr e.dest with
      | false => simp [hw]
      | true => cases hf : e.fresh <;> simp [hw, hf]

/-- The marks of the step before have no part in whether a late bus error is due. -/
theorem lateErrorAt_unstalled_eq_none {w : Word} {s : State} :
    lateErrorAt w s.unstalled = none ↔ lateErrorAt w s = none := by
  rw [lateErrorAt_eq_none, lateErrorAt_eq_none]; rfl

/-! ## The step of a processor that runs -/

/-- With no instruction in progress and no NMI to take, the step is the fetch at the pc and what follows from it. -/
theorem step_eq_runPc {s : State} (he : s.env.inputs = []) (hp : s.plat.power = .normal) (hf : s.plat.fetched = none)
    (hn : s.plat.nmiPending = false ∨ s.debugMode = true) : step s = ended (tick s) (runPc (tick s).unstalled) := by
  have hn : ¬(s.plat.nmiPending && !s.debugMode) = true := by rcases hn with h | h <;> simp [h]
  rw [step_of_noEvent he, processorStep, runProcessor]
  simp [hp, hf, hn]

/-- A step with an instruction in progress goes on with it. -/
theorem step_eq_resume {s : State} {w : Word} (he : s.env.inputs = []) (hp : s.plat.power = .normal)
    (hf : s.plat.fetched = some w) : step s = ended (tick s) (resume w (tick s).unstalled) := by
  rw [step_of_noEvent he, processorStep, runProcessor]
  simp [hp, hf]

theorem resume_eq_hold {w : Word} {s : State} (h : lateErrorAt w s = none) : resume w s = hold w (execWord w s) := by
  rw [resume, afterLateError_of _ h]

/-- A word with nothing due before it runs in the prepared state. -/
theorem runWord_eq_hold {w : Word} {s : State} (hd : s.debugDue = 0#32) (hl : lateErrorAt w s = none)
    (hi : s.interruptPending = false) : runWord w s = hold w (execWord w s.prepared) := by
  rw [runWord_of hd hl, if_neg (by simp [hi])]

/-! ## A fetch that raises -/

section FetchRaises

variable {s u : State} {x : Exc}

theorem State.debugMode_of_fetchWord_exc (h : s.fetchWord = .exc x u) : u.debugMode = s.debugMode :=
  (Res.all_exc s.fetchWord_sameButFetch h).debugMode_eq

/-- With no debug exception due the exception is raised, but for a bus error that debug mode masks. -/
theorem runPc_eq_raise (h : s.fetchWord = .exc x u) (hd : u.debugDue = 0#32) (hx : s.debugMode = false ∨ x ≠ .busErrorFetch) :
    runPc s = raise x u := by
  have hm : ¬(u.debugMode && decide (x = .busErrorFetch)) = true := by
    rw [State.debugMode_of_fetchWord_exc h]
    rcases hx with hx | hx <;> simp [hx]
  simp [runPc, h, hm, hd]

theorem runPc_eq_takeException (h : s.fetchWord = .exc x u) (hd : u.debugDue = 0#32) (hm : s.debugMode = false) :
    runPc s = .next (takeException x u) := by
  rw [runPc_eq_raise h hd (.inl hm), raise_of ((State.debugMode_of_fetchWord_exc h).trans hm)]

theorem runPc_eq_refused (h : s.fetchWord = .exc x u) (hd : u.debugDue = 0#32) (hm : s.debugMode = true)
    (hx : x ≠ .busErrorFetch) : runPc s = .refused .exceptionInDebug := by
  rw [runPc_eq_raise h hd (.inr hx), raise_of_debugMode x ((State.debugMode_of_fetchWord_exc h).trans hm)]

/-- In debug mode a bus error of the fetch is masked: the word that runs is free (60_exceptions.md R663, log entry 56). -/
theorem runPc_of_maskedBusError (h : s.fetchWord = .exc .busErrorFetch u) (hd : u.debugDue = 0#32) (hm : s.debugMode = true)
    (hl : u.lateError = none) :
    runPc s = hold (low32 (u.fresh .fetchWord)) (execWord (low32 (u.fresh .fetchWord)) u.prepared) := by
  have hu : u.debugMode = true := (State.debugMode_of_fetchWord_exc h).trans hm
  rw [← runWord_eq_hold hd (lateErrorAt_of _ hl) (State.interruptPending_of_debugMode hu)]
  simp [runPc, h, hu]

end FetchRaises

/-! ## The obligation -/

/-- The meaning of a word that decodes is that of its instruction. -/
theorem execWord_of_decode {w : Word} {i : Instr} (s : State) (h : decode w = .ok i) : execWord w s = exec i s := by
  simp only [execWord, h]

/-- Settles O9: the step is the fetch and what follows from it, or the word in progress; with nothing due before it the word runs,
and an exception of the fetch is raised unless debug mode masks it. -/
theorem stepRunsDecodedInstruction : Obligations.StepRunsDecodedInstruction := by
  refine ⟨fun s u w he hp => ⟨fun hf hn hw hd hl hi => ?runs, fun hf hl => ?goesOn⟩,
    fun s u x he hp hf hn hx hd => ?raises, fun w i s => execWord_of_decode s⟩
  case runs => rw [step_eq_runPc he hp hf hn, runPc_of hw, runWord_eq_hold hd hl hi]
  case goesOn => rw [step_eq_resume he hp hf, resume_eq_hold (lateErrorAt_unstalled_eq_none.2 hl)]
  case raises =>
    rw [step_eq_runPc he hp hf hn]
    have hdm : (tick s).unstalled.debugMode = s.debugMode := by simp
    refine ⟨fun hm => ?_, fun hm hb => ?_, fun hm hb hl => ?_⟩
    · rw [runPc_eq_takeException hx hd (hdm.trans hm)]; rfl
    · rw [runPc_eq_refused hx hd (hdm.trans hm) hb]; rfl
    · subst hb
      exact ⟨_, congrArg (ended _) (runPc_of_maskedBusError hx hd (hdm.trans hm) hl)⟩

end Sys2Proof.Machine
end

section
/-! SUPPORT. The bits of a written field, of a conjunction and of the low word of a register. -/

namespace Sys2Proof.Machine

/-- Bit `i` of a word with a field written: the field's, if it lies there. -/
theorem getLsbD_putBits {n m i : Nat} (x : BitVec n) (lo : Nat) (v : BitVec m) (h : i < n) :
    (putBits x lo v).getLsbD i = if lo ≤ i ∧ i < lo + m then v.getLsbD (i - lo) else x.getLsbD i := by
  have hv : v.getLsbD (i - lo) = true → i - lo < m := BitVec.lt_of_getLsbD
  simp only [putBits, BitVec.getLsbD_or, BitVec.getLsbD_and, BitVec.getLsbD_not, BitVec.getLsbD_shiftLeft,
    BitVec.getLsbD_setWidth, BitVec.getLsbD_allOnes]
  grind

theorem getLsbD_putBit_same {n i : Nat} (x : BitVec n) (b : Bool) (h : i < n) : (putBit x i b).getLsbD i = b := by
  rw [putBit, getLsbD_putBits _ _ _ h]
  simp

theorem getLsbD_putBit_other {n i j : Nat} (x : BitVec n) (b : Bool) (hj : j < n) (h : j ≠ i) :
    (putBit x i b).getLsbD j = x.getLsbD j := by
  rw [putBit, getLsbD_putBits _ _ _ hj, if_neg (by omega)]

/-- Two words meet exactly when they have a bit in common. -/
theorem and_ne_zero_iff {n : Nat} (x y : BitVec n) :
    x &&& y ≠ 0#n ↔ ∃ k, k < n ∧ x.getLsbD k = true ∧ y.getLsbD k = true := by
  constructor
  · intro h
    by_contra hn
    push Not at hn
    refine h (BitVec.eq_of_getLsbD_eq fun k hk => ?_)
    have := hn k hk
    simp_all
  · rintro ⟨k, -, hx, hy⟩ h
    have hk : (x &&& y).getLsbD k = true := by rw [BitVec.getLsbD_and, hx, hy]; rfl
    simp [h] at hk

theorem low32_sext32 (w : Word) : low32 (sext32 w) = w := by
  apply BitVec.eq_of_getLsbD_eq
  intro i hi
  simp [low32, sext32, hi, BitVec.getLsbD_signExtend]
  omega

/-- A bit of the low word of a GPR. -/
theorem getLsbD_rget32 (s : State) (r : RegNum) {i : Nat} (h : i < 32) : (s.rget32 r).getLsbD i = (s.rget r).getLsbD i := by
  simp [State.rget32, low32, h]

end Sys2Proof.Machine
end

section
/-! SUPPORT. A property of the TLB and the control registers goes through every instruction, said once for all such properties:
`Upheld p q` names the few operations that touch those registers; the walk through the memory operations and the instructions
then serves each invariant that is proved by giving an `Upheld`. -/

namespace Sys2Proof.Machine

/-- `p`, a property of the TLB and the CP0 registers but Count and LLAddr, holds while an instruction runs, and `q` of what it
answers: the instruction has completed and `p` holds still, or it has entered an exception. -/
structure Upheld (p q : State → Prop) : Prop where
  /-- `p` speaks of nothing else. -/
  of_control {s t : State} : p s → t.tlb = s.tlb →
    t.cp0 = { s.cp0 with count := t.cp0.count, llAddr := t.cp0.llAddr } → p t
  /-- Debug mode masks a condition (60_exceptions.md R663). -/
  masked {s t : State} (x : Exc) : p s → s.debugMode = true → p t → p (t.flagMasked x)
  /-- An instruction that completes. -/
  answer {s : State} : p s → q s
  /-- A general exception. -/
  exception {s : State} (x : Exc) : p s → q (takeException x s)
  /-- A debug exception. -/
  debug {s : State} (bits : BitVec 32) : p s → q (takeDebug bits s)
  /-- `q` speaks of the TLB, the CP0 registers and the pc alone. -/
  answer_of_eq {s t : State} : q s → (t.cp0, t.tlb, t.pc) = (s.cp0, s.tlb, s.pc) → q t

/-- A control transfer answers as its body, or stops. -/
theorem noSlot_all {q : State → Prop} (s : State) {k : Out} (hk : Out.all k q) : Out.all (noSlot s k) q := by
  unfold noSlot
  split
  · trivial
  · exact hk

/-- A translation leaves the state. -/
theorem Res.all_translateWith {p : State → Prop} {s : State} (h : p s) (k : AccessKind) (checkDirty : Bool) (va : DWord) :
    (s.translateWith k checkDirty va).all p := by
  have ht := s.translateWith_all k checkDirty va
  cases hr : s.translateWith k checkDirty va <;> simp only [hr, Res.all] at ht ⊢ <;> exact ht ▸ h

/-- A result stored in a floating-point register leaves the control registers. -/
theorem State.fpStore_control (fmt : Fmt) (f : FpRegNum) (v : Nat) (s : State) :
    ((s.fpStore fmt f v).cp0, (s.fpStore fmt f v).tlb) = (s.cp0, s.tlb) := by
  unfold State.fpStore
  split <;> simp

namespace Upheld

variable {p q : State → Prop} {s t : State}

theorem of_eq (F : Upheld p q) (h : p s) (he : (t.cp0, t.tlb) = (s.cp0, s.tlb)) : p t := by
  obtain ⟨hc, ht⟩ : t.cp0 = s.cp0 ∧ t.tlb = s.tlb := by simpa using he
  exact F.of_control h ht (by rw [hc])

theorem answer_eq (F : Upheld p q) (h : p s) (he : (t.cp0, t.tlb) = (s.cp0, s.tlb)) : q t := F.answer (F.of_eq h he)

/-! ## The registers and the bus -/

theorem setGpr (F : Upheld p q) (h : p s) (r : RegNum) (v : DWord) : p (s.setGpr r v) := F.of_eq h (by simp)

theorem setHiLo (F : Upheld p q) (h : p s) (hi lo : DWord) : p (s.setHiLo hi lo) := F.of_eq h rfl

theorem settleLate (F : Upheld p q) (h : p s) : p s.settleLate := F.of_eq h (by simp)

theorem placeLine (F : Upheld p q) (h : p s) (c : CacheId) (set : BitVec 8) (way : BitVec 2) (tag : BitVec 24)
    (data : Vector Byte 32) (dirty : Bool) : p (s.placeLine c set way tag data dirty) := F.of_eq h (by simp)

theorem dropLine (F : Upheld p q) (h : p s) (c : CacheId) (set : BitVec 8) (way : BitVec 2) : p (s.dropLine c set way) :=
  F.of_eq h (by simp)

theorem flushed (F : Upheld p q) (h : p s) : s.flushed.all p := by
  rcases s.flushed_cases with hf | ⟨-, -, hf⟩ <;> rw [hf] <;> exact F.of_eq h rfl

theorem flushedFor (F : Upheld p q) (h : p s) (unit : Nat) (pa : PAddr) : (s.flushedFor unit pa).all p := by
  unfold State.flushedFor
  split
  · exact F.flushed h
  · exact h

theorem bufferWrite (F : Upheld p q) (h : p s) (pa : PAddr) (data : List Byte) : (s.bufferWrite pa data).all p := by
  unfold State.bufferWrite
  split
  · exact F.of_eq h rfl
  · split
    · exact F.of_eq h (by simp)
    · exact F.of_eq h rfl

theorem busIdle (F : Upheld p q) (h : p s) (k : AccessKind) : (s.busIdle k).all p := by
  rcases s.busIdle_cases k with ⟨-, hb⟩ | ⟨-, -, hb⟩ | ⟨-, -, ⟨hd, hb⟩ | ⟨-, hb⟩⟩ <;> rw [hb]
  · exact h
  · exact F.of_eq h rfl
  · exact F.masked _ h hd (F.settleLate h)
  · exact F.settleLate h

theorem uncachedRead (F : Upheld p q) (h : p s) (k : AccessKind) (pa : PAddr) (n : Nat) : (s.uncachedRead k pa n).all p := by
  refine Res.all_bind (F.busIdle h k) fun _ t ht => Res.all_bind ?_ fun _ u hu => ?_
  · split
    · exact F.flushedFor ht ..
    · exact F.flushed ht
  · split
    · exact hu
    · exact hu
    · exact F.of_eq hu rfl

theorem chipWrite (F : Upheld p q) (h : p s) (pa : PAddr) (n : Nat) (v : DWord) : (s.chipWrite pa n v).all p := by
  unfold State.chipWrite
  split
  · split
    · exact F.of_eq h rfl
    · trivial
  · trivial

/-! ## The caches -/

theorem castOut (F : Upheld p q) (h : p s) (c : CacheId) (set : BitVec 8) (way : BitVec 2) : (s.castOut c set way).all p := by
  unfold State.castOut
  dsimp only
  split
  · exact Res.all_bind (F.flushed h) fun _ t ht => F.of_eq ht rfl
  · exact h

theorem readLine (F : Upheld p q) (h : p s) (k : AccessKind) (castsOut : Bool) (pa : PAddr) :
    (s.readLine k castsOut pa).all p := by
  unfold State.readLine
  split
  · trivial
  · refine Res.all_bind (F.busIdle h k) fun _ t ht => Res.all_bind ?_ fun _ u hu => ?_
    · split
      · exact F.flushed ht
      · exact F.flushedFor ht ..
    · dsimp only
      split
      · exact hu
      · exact hu
      · exact F.of_eq hu rfl

theorem fillWay (F : Upheld p q) (h : p s) (k : AccessKind) (c : CacheId) (set : BitVec 8) (way : BitVec 2) (pa : PAddr) :
    (s.fillWay k c set way pa).all p := by
  refine Res.all_bind (F.readLine h k _ pa) fun line t ht => Res.all_bind (F.castOut ht c set way) fun _ u hu => ?_
  split
  · exact F.placeLine hu ..
  · exact F.dropLine hu ..

theorem lookup (F : Upheld p q) (h : p s) (k : AccessKind) (c : CacheId) (va : DWord) (pa : PAddr) :
    (s.lookup k c va pa).all p := by
  unfold State.lookup
  split
  · exact h
  · exact Res.all_bind (F.fillWay h ..) fun _ t ht => ht
  · trivial

theorem readBytes (F : Upheld p q) (h : p s) (k : AccessKind) (c : CacheId) (off : Bool) (va : DWord) (a : Physical) (n : Nat) :
    (s.readBytes k c off va a n).all p := by
  unfold State.readBytes
  split
  · exact F.uncachedRead h ..
  · exact Res.all_bind (F.lookup h ..) fun _ t ht => ht

theorem writeBytes (F : Upheld p q) (h : p s) (va : DWord) (a : Physical) (bytes : List Byte) :
    (s.writeBytes va a bytes).all p := by
  unfold State.writeBytes
  split
  · exact F.bufferWrite h ..
  · split
    · exact F.bufferWrite h ..
    · refine Res.all_bind (F.lookup h ..) fun w t ht => ?_
      split
      · exact F.of_eq ht rfl
      · exact Res.all_bind (F.bufferWrite ht ..) fun _ u hu => F.of_eq hu rfl

/-! ## Loads and stores -/

theorem loadFrom (F : Upheld p q) (h : p s) (va start : DWord) (n : Nat) : (s.loadFrom va start n).all p := by
  refine Res.all_bind (Res.all_translateWith h .load true va) fun a t ht => ?_
  dsimp only
  split
  · exact Res.all_bind (State.chipRead_all t _ _ _ ht) fun _ u hu => hu
  · exact Res.all_bind (F.readBytes ht ..) fun _ u hu => hu

theorem load (F : Upheld p q) (h : p s) (va : DWord) (n : Nat) : (s.load va n).all p := by
  unfold State.load
  split
  · exact F.loadFrom h ..
  · exact h

theorem storePhysical (F : Upheld p q) (h : p s) (va : DWord) (a : Physical) (n : Nat) (v : DWord) :
    (s.storePhysical va a n v).all p := by
  unfold State.storePhysical
  split
  · split
    · exact F.chipWrite h ..
    · trivial
  · exact F.writeBytes h ..

theorem storeTo (F : Upheld p q) (h : p s) (checkDirty : Bool) (va start : DWord) (n : Nat) (v : DWord) :
    (s.storeTo checkDirty va start n v).all p :=
  Res.all_bind (Res.all_translateWith h ..) fun _ _ ht => F.storePhysical ht ..

theorem store (F : Upheld p q) (h : p s) (checkDirty : Bool) (va : DWord) (n : Nat) (v : DWord) :
    (s.store checkDirty va n v).all p := by
  unfold State.store
  split
  · exact F.storeTo h ..
  · exact h

theorem storeMasked (F : Upheld p q) (h : p s) (x : Exc) (va start : DWord) (n : Nat) (v : DWord) :
    (s.storeMasked x va start n v).all p :=
  Res.all_bind (Res.all_translateWith h ..) fun _ _ ht => F.storePhysical ht ..

theorem fetchWord (F : Upheld p q) (h : p s) : s.fetchWord.all p := by
  have hf := s.fetchWord_sameButFetch
  have key {t : State} (ht : s.sameButFetch t) : p t := F.of_eq h (by rw [ht])
  cases hr : s.fetchWord <;> simp only [hr, Res.all] at hf ⊢ <;> exact key hf

/-! ## Completions, checks and branches -/

theorem advance (F : Upheld p q) (h : p s) : q s.advance := F.answer_eq h rfl

theorem setReg (F : Upheld p q) (h : p s) (r : RegNum) (v : DWord) : Out.all (setReg r v s) q := F.answer_eq h (by simp)

theorem raise (F : Upheld p q) (h : p s) (x : Exc) : Out.all (raise x s) q := by
  unfold Machine.raise
  split
  · trivial
  · exact F.exception x h

theorem wide (F : Upheld p q) (h : p s) {k : Out} (hk : Out.all k q) : Out.all (wide s k) q := by
  unfold Machine.wide
  split
  · exact hk
  · exact F.raise h _

theorem needs (F : Upheld p q) (h : p s) (z : BitVec 2) {k : Out} (hk : Out.all k q) : Out.all (needs z s k) q := by
  unfold Machine.needs
  split
  · exact hk
  · exact F.raise h _

theorem branch (F : Upheld p q) (h : p s) (taken : Bool) (offset : BitVec 16) : Out.all (branch taken offset s) q := by
  refine noSlot_all s ?_
  split <;> exact F.answer_eq h rfl

theorem branchLikely (F : Upheld p q) (h : p s) (taken : Bool) (offset : BitVec 16) :
    Out.all (branchLikely taken offset s) q := by
  refine noSlot_all s ?_
  split <;> exact F.answer_eq h rfl

theorem trapIf (F : Upheld p q) (h : p s) (c : Bool) : Out.all (trapIf c s) q := by
  unfold Machine.trapIf
  split
  · exact F.raise h _
  · exact F.advance h

theorem copAbsent (F : Upheld p q) (h : p s) (z : BitVec 2) : Out.all (copAbsent z s) q := F.needs h z trivial

/-- An instruction that goes on with the value of a memory operation. -/
theorem elim {α : Type} (F : Upheld p q) {r : Res α} {k : α → State → Out} (hr : r.all p)
    (hk : ∀ v t, p t → Out.all (k v t) q) : Out.all (r.elim k) q := by
  cases r with
  | ok v t => exact hk v t hr
  | exc x t => exact F.raise hr x
  | stall t => exact F.answer_eq hr rfl
  | fault f => trivial
  | refuse f => trivial

theorem overflowOr (F : Upheld p q) (h : p s) (c : Prop) [Decidable c] (r : RegNum) (v : DWord) :
    Out.all (if c then Machine.raise .overflow s else Machine.setReg r v s) q := by
  split
  · exact F.raise h _
  · exact F.setReg h r v

theorem quotientOr (F : Upheld p q) (h : p s) (c : Prop) [Decidable c] (a b : DWord) :
    Out.all (if c then divideByZero s else setQuotient a b s) q := by
  split <;> exact F.answer_eq h rfl

/-! ## Instructions that load -/

theorem loadFailed (F : Upheld p q) (ht : p t) (s : State) (dest : LoadDest) {also : State → State}
    (ha : ∀ u, p u → p (also u)) : Out.all (loadFailed s t dest also) q := by
  unfold Machine.loadFailed
  split
  · exact F.raise ht _
  · split
    · exact F.answer_eq (ha t ht) (by simp [goesOn])
    · exact F.raise (F.of_eq ht (by simp)) _

theorem loadThen (F : Upheld p q) {r : Res (PAddr × DWord)} (hr : r.all p) (h : p s) (dest : LoadDest) {also : State → State}
    {k : PAddr × DWord → State → Out} (ha : ∀ u, p u → p (also u)) (hk : ∀ v t, p t → Out.all (k v t) q) :
    Out.all (loadThen r s dest also k) q := by
  unfold Machine.loadThen
  split
  · next x t =>
    have ht : p t := hr
    split
    · next hm => exact F.answer_eq (ha _ (F.masked x h (Bool.and_eq_true_iff.1 hm).1 ht)) (by simp)
    · split
      · exact F.loadFailed ht s dest ha
      · exact F.raise ht x
  · exact F.elim hr hk

theorem loadGpr (F : Upheld p q) {r : Res (PAddr × DWord)} (hr : r.all p) (h : p s) (rt : RegNum) (f : DWord → DWord) :
    Out.all (loadGpr rt r s f) q :=
  F.loadThen hr h _ (fun _ hu => hu) fun _ _ ht => F.setReg ht ..

theorem execLwl (F : Upheld p q) (h : p s) (rt : RegNum) (offset : BitVec 16) (base : RegNum) :
    Out.all (execLwl rt offset base s) q := by
  unfold Machine.execLwl
  exact F.loadGpr (F.loadFrom h ..) h ..

theorem execLwr (F : Upheld p q) (h : p s) (rt : RegNum) (offset : BitVec 16) (base : RegNum) :
    Out.all (execLwr rt offset base s) q := by
  unfold Machine.execLwr
  exact F.loadGpr (F.loadFrom h ..) h ..

theorem loadFpr (F : Upheld p q) {r : Res (PAddr × DWord)} (hr : r.all p) (h : p s) (dest : LoadDest)
    {write : DWord → State → State} (hw : ∀ v t, ((write v t).cp0, (write v t).tlb) = (t.cp0, t.tlb)) :
    Out.all (loadFpr dest write r s) q :=
  F.loadThen hr h _ (fun _ hu => hu) fun v t ht => F.answer_eq ht (hw v.2 t)

theorem link (F : Upheld p q) (h : p s) (pa : PAddr) : p (s.link pa) := F.of_control h rfl rfl

theorem loadLinked (F : Upheld p q) (h : p s) (rt : RegNum) (offset : BitVec 16) (base : RegNum) (n : Nat) :
    Out.all (loadLinked rt offset base n s) q := by
  refine F.loadThen (F.load h ..) h _ (fun u hu => ?_) fun _ _ ht => F.setReg (F.link ht _) ..
  unfold State.linkFailed
  split <;> exact F.link hu _

/-! ## Instructions that store -/

/-- Each further condition of a store that debug mode masks is masked in turn. -/
theorem storeOrNot (F : Upheld p q) (tries : Nat) (x : Exc) (va start : DWord) (n : Nat) (v : DWord) {k : State → Out}
    (hm : ∀ x t, p t → p (t.flagMasked x)) (hk : ∀ t, p t → Out.all (k t) q) (h : p s) :
    Out.all (storeOrNot tries x s va start n v k) q := by
  induction tries generalizing x s with
  | zero => exact hk s h
  | succ tries ih =>
    unfold Machine.storeOrNot
    split
    · have hs := F.storeMasked h x va start n v
      split
      · next y t hr => exact ih y (hm y t (Res.all_exc hs hr))
      · exact F.elim hs fun _ t ht => hk t ht
    · exact hk s h

theorem storeThen (F : Upheld p q) {r : Res Unit} (hr : r.all p) (h : p s) (va start : DWord) (n : Nat) (v : DWord)
    {k : State → Out} (hk : ∀ t, p t → Out.all (k t) q) : Out.all (storeThen r s va start n v k) q := by
  unfold Machine.storeThen
  split
  · next x t =>
    have ht : p t := hr
    split
    · next hm =>
      have hmask (x : Exc) (t : State) : p t → p (t.flagMasked x) := F.masked x h (Bool.and_eq_true_iff.1 hm).1
      exact F.storeOrNot _ _ _ _ _ _ hmask hk (hmask x t ht)
    · exact F.raise ht x
  · exact F.elim hr fun _ t ht => hk t ht

theorem storeAligned (F : Upheld p q) (h : p s) (va : DWord) (n : Nat) (v : DWord) {k : State → Out}
    (hk : ∀ t, p t → Out.all (k t) q) : Out.all (storeAligned va n v s k) q :=
  F.storeThen (F.store h ..) h _ _ _ _ hk

theorem storeGpr (F : Upheld p q) (h : p s) (rt : RegNum) (offset : BitVec 16) (base : RegNum) (n : Nat) :
    Out.all (storeGpr rt offset base n s) q := F.storeAligned h _ _ _ fun _ ht => F.advance ht

theorem storeUnaligned (F : Upheld p q) (h : p s) (va start : DWord) (n : Nat) (v : DWord) :
    Out.all (storeUnaligned va start n v s) q := F.storeThen (F.storeTo h ..) h _ _ _ _ fun _ ht => F.advance ht

theorem storeConditional (F : Upheld p q) (h : p s) (rt : RegNum) (offset : BitVec 16) (base : RegNum) (n : Nat) :
    Out.all (storeConditional rt offset base n s) q := by
  unfold Machine.storeConditional
  dsimp only
  split
  · exact F.storeAligned h _ _ _ fun _ ht => F.setReg ht ..
  · generalize hr : (if aligned (s.effAddr base offset) n then _ else _) = r
    have hres : r.all p := by
      rw [← hr]
      split
      · exact Res.all_bind (Res.all_translateWith h ..) fun _ _ ht => ht
      · exact h
    split
    · next x t =>
      have ht : p t := hres
      split
      · next hm => exact F.setReg (F.masked x h (Bool.and_eq_true_iff.1 hm).1 ht) ..
      · exact F.raise ht x
    · exact F.elim hres fun _ _ ht => F.setReg ht ..

/-! ## Floating point -/

theorem fpTrap (F : Upheld p q) (h : p s) (cause : BitVec 6) : Out.all (fpTrap cause s) q :=
  F.raise (s := { s with fcr31 := _ }) (F.of_eq h (by rfl)) _

theorem fpUnimplemented (F : Upheld p q) (h : p s) : Out.all (fpUnimplemented s) q := F.fpTrap h _

theorem fpFinish (F : Upheld p q) (h : p s) (out : FpOut) {store : Nat → State → State}
    (hs : ∀ v t, ((store v t).cp0, (store v t).tlb) = (t.cp0, t.tlb)) : Out.all (fpFinish out s store) q := by
  unfold Machine.fpFinish
  split
  · exact F.fpUnimplemented h
  · split
    · exact F.fpTrap h _
    · exact F.answer_eq h (hs _ _)

/-- A result stored in a floating-point register, or Unimplemented Operation. -/
theorem fpResultOr (F : Upheld p q) (h : p s) (c : Prop) [Decidable c] (out : FpOut) (fmt : Fmt) (fd : FpRegNum) :
    Out.all (if c then Machine.fpUnimplemented s else Machine.fpFinish out s fun v t => t.fpStore fmt fd v) q := by
  split
  · exact F.fpUnimplemented h
  · exact F.fpFinish h _ fun v t => State.fpStore_control fmt fd v t

theorem fpBinary (F : Upheld p q) (h : p s) (op : FpFormat → FpRound → FpVal → FpVal → FpOut) (fmt : Fmt)
    (fd fs ft : FpRegNum) : Out.all (fpBinary op fmt fd fs ft s) q := by
  refine F.needs h _ ?_
  split
  · exact F.fpUnimplemented h
  · exact F.fpFinish h _ fun v t => State.fpStore_control fmt fd v t

theorem fpUnary (F : Upheld p q) (h : p s) (op : FpFormat → FpRound → Nat → FpVal → FpOut) (fmt : Fmt) (fd fs : FpRegNum) :
    Out.all (fpUnary op fmt fd fs s) q := by
  refine F.needs h _ ?_
  split
  · exact F.fpUnimplemented h
  · exact F.fpFinish h _ fun v t => State.fpStore_control fmt fd v t

theorem fpToWord (F : Upheld p q) (h : p s) (mode : Rounding) (fmt : Fmt) (fd fs : FpRegNum) :
    Out.all (fpToWord mode fmt fd fs s) q := by
  refine F.needs h _ ?_
  split
  · exact F.fpUnimplemented h
  · exact F.fpFinish h _ fun v t => State.fpStore_control .w fd v t

theorem fpToLong (F : Upheld p q) (h : p s) (mode : Rounding) (fmt : Fmt) (fd fs : FpRegNum) :
    Out.all (fpToLong mode fmt fd fs s) q := by
  refine F.needs h _ ?_
  split
  · exact F.fpUnimplemented h
  · split
    · exact F.fpFinish h _ fun v t => State.fpStore_control .l fd v t
    · exact F.fpUnimplemented h

theorem fpCompare (F : Upheld p q) (h : p s) (cond : BitVec 4) (fmt : Fmt) (fs ft : FpRegNum) :
    Out.all (fpCompare cond fmt fs ft s) q := by
  refine F.needs h _ ?_
  split
  · exact F.fpUnimplemented h
  · exact F.fpFinish h _ fun _ _ => rfl

theorem execMovFmt (F : Upheld p q) (h : p s) (fmt : Fmt) (fd fs : FpRegNum) : Out.all (execMovFmt fmt fd fs s) q := by
  refine F.needs h _ ?_
  split
  · exact F.fpUnimplemented h
  · exact F.answer_eq h (State.fpStore_control ..)

theorem execCtc1 (F : Upheld p q) (h : p s) (rt : RegNum) (fs : FpRegNum) : Out.all (execCtc1 rt fs s) q := by
  refine F.needs h _ ?_
  split
  · unfold writeFcr31
    split
    · exact F.raise (s := { s with fcr31 := _ }) (F.of_eq h (by rfl)) _
    · exact F.answer_eq h rfl
  · exact F.advance h

theorem execSdbbp (F : Upheld p q) (h : p s) (code : BitVec 20) : Out.all (execSdbbp code s) q := by
  unfold Machine.execSdbbp
  split
  · trivial
  · exact F.debug _ h

/-! ## Every instruction -/

/-- Every instruction upholds the property if those of coprocessor 0 do. -/
theorem exec (F : Upheld p q) (hc : ∀ i s, coprocessorOf i = some 0#2 → p s → Out.all (exec i s) q) (h : p s) (i : Instr) :
    Out.all (exec i s) q := by
  cases i with
  | lb | lbu | lh | lhu | lw => exact F.loadGpr (F.load h ..) h ..
  | lwu | ld => exact F.wide h (F.loadGpr (F.load h ..) h ..)
  | lwl => exact F.execLwl h ..
  | lwr => exact F.execLwr h ..
  | ldl | ldr => exact F.wide h (F.loadGpr (F.loadFrom h ..) h ..)
  | sb | sh | sw => exact F.storeGpr h ..
  | sd => exact F.wide h (F.storeGpr h ..)
  | swl | swr => exact F.storeUnaligned h ..
  | sdl | sdr => exact F.wide h (F.storeUnaligned h ..)
  | ll => exact F.loadLinked h ..
  | lld => exact F.wide h (F.loadLinked h ..)
  | sc => exact F.storeConditional h ..
  | scd => exact F.wide h (F.storeConditional h ..)
  | addi | add | sub => exact F.overflowOr h ..
  | daddi | dadd | dsub => exact F.wide h (F.overflowOr h ..)
  | addiu | slti | sltiu | andi | ori | xori | lui | addu | subu | slt | sltu | and | or | xor | nor
  | sll | srl | sra | sllv | srlv | srav | mfhi | mflo => exact F.setReg h ..
  | daddiu | daddu | dsubu | dsll | dsrl | dsra | dsll32 | dsrl32 | dsra32 | dsllv | dsrlv | dsrav =>
    exact F.wide h (F.setReg h ..)
  | mult | multu | madd | maddu => exact F.setReg (F.setHiLo h ..) ..
  | dmult | dmultu => exact F.wide h (F.setReg (F.setHiLo h ..) ..)
  | div | divu => exact F.quotientOr h ..
  | ddiv | ddivu => exact F.wide h (F.quotientOr h ..)
  | mthi | mtlo => exact F.answer_eq h rfl
  | j | jr => exact noSlot_all s (F.answer_eq h rfl)
  | jal | jalr => exact noSlot_all s (F.answer_eq (F.setGpr h ..) rfl)
  | beq | bne | blez | bgtz | bltz | bgez => exact F.branch h ..
  | beql | bnel | blezl | bgtzl | bltzl | bgezl => exact F.branchLikely h ..
  | bltzal | bgezal => exact F.branch (F.setGpr h ..) ..
  | bltzall | bgezall => exact F.branchLikely (F.setGpr h ..) ..
  | bc1f | bc1t => exact F.needs h _ (F.branch h ..)
  | bc1fl | bc1tl => exact F.needs h _ (F.branchLikely h ..)
  | syscall | brk => exact F.raise h _
  | sdbbp code => exact F.execSdbbp h code
  | sync => exact F.elim (F.flushed h) fun _ _ ht => F.advance ht
  | tge | tgeu | tlt | tltu | teq | tne | tgei | tgeiu | tlti | tltiu | teqi | tnei => exact F.trapIf h ..
  | lwc1 => exact F.needs h _ (F.loadFpr (F.load h ..) h _ fun _ _ => by simp)
  | ldc1 => exact F.needs h _ (F.loadFpr (F.load h ..) h _ fun _ _ => by simp)
  | swc1 | sdc1 => exact F.needs h _ (F.storeAligned h _ _ _ fun _ ht => F.advance ht)
  | mfc1 | cfc1 => exact F.needs h _ (F.setReg h ..)
  | dmfc1 => exact F.wide h (F.needs h _ (F.setReg h ..))
  | mtc1 => exact F.needs h _ (F.answer_eq h (by simp))
  | dmtc1 => exact F.wide h (F.needs h _ (F.answer_eq h (by simp)))
  | ctc1 => exact F.execCtc1 h ..
  | lwc2 | swc2 | ldc2 | sdc2 | mfc2 | cfc2 | mtc2 | ctc2 | cop2 | bc2f | bc2t | bc2fl | bc2tl
  | bc3f | bc3t | bc3fl | bc3tl => exact F.copAbsent h _
  | dmfc2 | dmtc2 => exact F.wide h (F.copAbsent h _)
  | pref => exact F.advance h
  | mfc0 | dmfc0 | cfc0 | mtc0 | dmtc0 | ctc0 | bc0f | bc0t | bc0fl | bc0tl | cache | tlbr | tlbwi | tlbwr | tlbp | eret
  | deret | wait => exact hc _ s rfl h
  | addFmt | subFmt | mulFmt | divFmt => exact F.fpBinary h ..
  | sqrtFmt => exact F.fpUnary h (fun f c _ a => f.sqrt c a) ..
  | absFmt => exact F.fpUnary h (fun f _ x _ => .exact (f.abs x)) ..
  | negFmt => exact F.fpUnary h (fun f _ x _ => .exact (f.neg x)) ..
  | movFmt => exact F.execMovFmt h ..
  | roundLFmt | truncLFmt | ceilLFmt | floorLFmt | cvtLFmt => exact F.fpToLong h ..
  | roundWFmt | truncWFmt | ceilWFmt | floorWFmt | cvtWFmt => exact F.fpToWord h ..
  | cvtSFmt | cvtDFmt => exact F.needs h _ (F.fpResultOr h ..)
  | cFFmt | cUnFmt | cEqFmt | cUeqFmt | cOltFmt | cUltFmt | cOleFmt | cUleFmt | cSfFmt | cNgleFmt | cSeqFmt | cNglFmt
  | cLtFmt | cNgeFmt | cLeFmt | cNgtFmt => exact F.fpCompare h ..

end Upheld

end Sys2Proof.Machine
end

section
/-! SUPPORT. A property of the TLB and the control registers goes through every step: `StepUpheld p q` adds to `Upheld p q` what a
step does to those registers beside the instructions. -/

namespace Sys2Proof.Machine

/-- A step from a state with `p` answers one with `q`: what `Upheld` says, the instructions of coprocessor 0, Random counted, the
debug exceptions that coincide with another one, NMI and the resets. -/
structure StepUpheld (p q : State → Prop) : Prop extends Upheld p q where
  cop0 (i : Instr) (s : State) : coprocessorOf i = some 0#2 → p s → Out.all (exec i s) q
  prepared {s : State} : p s → p s.prepared
  debugWith {s : State} (bits : BitVec 32) (x : Exc) : p s → q (takeDebugWith bits x s)
  debugWithNmi {s : State} (bits : BitVec 32) : p s → q (takeDebugWithNmi bits s)
  nmi {s : State} : p s → q (takeNmi s)
  softReset {s : State} (spoiled : List (PAddr × Byte)) : p s → q (softReset spoiled s)
  coldReset {s : State} (pins : Straps) : p s → q (coldReset pins s)

namespace StepUpheld

variable {p q : State → Prop} {s : State}

/-! ## The word that runs -/

theorem execReject (F : StepUpheld p q) (h : p s) (r : Reject) : Out.all (execReject r s) q := by
  cases r with
  | reserved | short => exact F.raise h _
  | copReserved z => exact F.needs h _ (F.raise h _)
  | cop0Nop => exact F.needs h _ (F.advance h)
  | fpuUnimplemented => exact F.needs h _ (F.fpUnimplemented h)

theorem execWord (F : StepUpheld p q) (h : p s) (w : Word) : Out.all (execWord w s) q := by
  unfold Machine.execWord
  split
  · exact F.exec F.cop0 h _
  · exact F.execReject h _

theorem hold (F : StepUpheld p q) (w : Word) {o : Out} (h : Out.all o q) : Out.all (hold w o) q := by
  unfold Machine.hold
  split
  · next t =>
    have ht : q t := h
    dsimp only [Out.all]
    split
    · exact F.answer_of_eq ht rfl
    · exact ht
  · exact h

theorem runInterrupted (F : StepUpheld p q) (h : p s) (w : Word) : Out.all (runInterrupted w s) q := by
  unfold Machine.runInterrupted
  split
  · exact F.debugWith _ _ h
  · split
    · next t ht =>
      split
      · exact Out.all_next (F.execWord (F.prepared h) w) ht
      · exact F.exception _ h
    · exact F.exception _ h

theorem runInstr (F : StepUpheld p q) (h : p s) (w : Word) : Out.all (runInstr w s) q := by
  unfold Machine.runInstr
  split
  · exact F.runInterrupted h w
  · exact F.hold w (F.execWord (F.prepared h) w)

theorem lateErrorAt (F : StepUpheld p q) (h : p s) {w : Word} {t : State} (ht : lateErrorAt w s = some t) : p t := by
  obtain ⟨e, -, ⟨-, rfl⟩ | rfl⟩ := lateErrorAt_some ht
  · exact F.of_control (F.settleLate h) rfl rfl
  · exact F.settleLate h

theorem afterLateError (F : StepUpheld p q) (h : p s) (w : Word) {k : State → Out} (hk : ∀ t, p t → Out.all (k t) q) :
    Out.all (afterLateError w s k) q := by
  rcases afterLateError_cases w s k with ⟨-, he⟩ | ⟨t, ht, ⟨hd, he⟩ | ⟨-, -, he⟩ | ⟨-, -, he⟩⟩ <;> rw [he]
  · exact hk s h
  · exact hk _ (F.masked _ h hd (F.settleLate h))
  · exact F.debugWith _ _ (F.settleLate h)
  · exact F.exception _ (F.lateErrorAt h ht)

theorem enterDebug (F : StepUpheld p q) (h : p s) (bits : BitVec 32) : q (enterDebug bits s) := by
  unfold Machine.enterDebug
  split
  · exact F.debugWith _ _ (F.settleLate h)
  · split
    · exact F.debugWith _ _ h
    · exact F.debug _ h

theorem runWord (F : StepUpheld p q) (h : p s) (w : Word) : Out.all (runWord w s) q := by
  unfold Machine.runWord
  split
  · exact F.enterDebug h _
  · exact F.afterLateError h w fun _ ht => F.runInstr ht w

theorem resume (F : StepUpheld p q) (h : p s) (w : Word) : Out.all (resume w s) q :=
  F.afterLateError h w fun _ ht => F.hold w (F.execWord ht w)

theorem afterDebug (F : StepUpheld p q) (h : p s) {o : Out} (ho : Out.all o q) : Out.all (afterDebug s o) q := by
  unfold Machine.afterDebug
  split
  · exact F.enterDebug h _
  · exact ho

theorem runPc (F : StepUpheld p q) (h : p s) : Out.all (runPc s) q := by
  have hf := F.fetchWord h
  unfold Machine.runPc
  split
  · next w t ht => exact F.runWord (Res.all_ok hf ht) w
  · next x t ht =>
    have ht := Res.all_exc hf ht
    split
    · exact F.runWord ht _
    · split
      · exact F.debugWith _ _ ht
      · exact F.raise ht x
  · next t ht => exact F.answer_eq (Res.all_stall hf ht) rfl
  · exact F.afterDebug h trivial
  · exact F.afterDebug h trivial

theorem runNmi (F : StepUpheld p q) (h : p s) : q (runNmi s) := by
  unfold Machine.runNmi
  split
  · exact F.debugWithNmi _ h
  · split
    · exact F.debugWithNmi _ h
    · exact F.nmi h

theorem runStalledNmi (F : StepUpheld p q) (h : p s) : Out.all (runStalledNmi s) q := by
  have hf := F.fetchWord h
  unfold Machine.runStalledNmi
  split
  · next ht => exact F.runNmi (Res.all_ok hf ht)
  · next ht => exact F.runNmi (Res.all_exc hf ht)
  · next t ht => exact F.answer_eq (Res.all_stall hf ht) rfl
  · exact F.runNmi h
  · exact F.runNmi h

theorem runProcessor (F : StepUpheld p q) (h : p s) : Out.all (runProcessor s) q := by
  have hu : p s.unstalled := F.of_eq h rfl
  unfold Machine.runProcessor
  split
  · dsimp only [Out.all]
    split <;> exact F.answer_eq h rfl
  · split
    · exact F.resume hu _
    · split
      · split
        · exact F.runStalledNmi hu
        · exact F.runNmi hu
      · exact F.runPc hu

/-! ## The step -/

theorem tick (F : StepUpheld p q) (h : p s) : p (tick s) := F.of_control h (by rw [tick_eq]) (by rw [tick_eq])

theorem processorStep (F : StepUpheld p q) (h : p s) : Out.all (processorStep s) q := by
  have hr := F.runProcessor (F.tick h)
  unfold Machine.processorStep ended
  split
  · next ht => exact F.answer_of_eq (Out.all_next hr ht) rfl
  · exact hr

theorem applyEvent (F : StepUpheld p q) (h : p s) (e : ExtEvent) : q (applyEvent e s) := by
  cases e with
  | run => exact F.answer h
  | softReset spoiled => exact F.softReset _ h
  | coldReset pins => exact F.coldReset _ h
  | debugBreak k =>
    dsimp only [Machine.applyEvent, debugBreak]
    split <;> exact F.answer_eq h rfl
  | setIntPins | setNmiPin | extWrite | setWriteHold | setErrors | setUnanswered | dmaWrite | setLateErrors | busErrorArrives
  | setStoreErrors | setReadAhead => exact F.answer_eq h rfl

/-- Whatever a step answers from a state with `p` has `q`. -/
theorem step (F : StepUpheld p q) (h : p s) : Out.all (step s) q := by
  unfold Machine.step cycle
  split
  · exact F.processorStep h
  · exact F.processorStep (s := { s with env := _ }) (F.of_eq h (by rfl))
  · exact F.applyEvent (s := { s with env := _ }) (F.of_eq h (by rfl)) _

end StepUpheld

end Sys2Proof.Machine
end

section
/-! SUPPORT. User mode is contained (O60): without CU0 every instruction of coprocessor 0 raises, every entry goes to Kernel
mode at a vector, and nothing else touches the TLB or a control register but Random, Count and LLAddr (11_cp0_registers.md R83,
R84, R93; 60_exceptions.md R622, R624, R630, R656). -/

namespace Sys2Proof.Machine

/-- The TLB and the control registers but Random, Count and LLAddr are as they were. -/
def State.sameControl (s t : State) : Prop :=
  t.tlb = s.tlb ∧ t.cp0 = { s.cp0 with random := t.cp0.random, count := t.cp0.count, llAddr := t.cp0.llAddr }

/-- Kernel mode, where a handler begins. -/
def State.atVector (s : State) : Prop := s.mode = .kernel ∧ s.pc ∈ vectors

/-! ## The mode -/

theorem State.mode_of_debugMode {s : State} (h : s.debugMode = true) : s.mode = .kernel := by simp [State.mode, h]

theorem State.mode_of_exl {s : State} (h : s.exl = true) : s.mode = .kernel := by simp [State.mode, h]

theorem State.mode_of_erl {s : State} (h : s.erl = true) : s.mode = .kernel := by simp [State.mode, h]

namespace State.sameControl

variable {s t : State}

theorem mode_eq (h : s.sameControl t) : t.mode = s.mode := by
  unfold State.mode State.debugMode State.exl State.erl State.ksu
  rw [h.2]

theorem cu_eq (h : s.sameControl t) (z : BitVec 2) : t.cu z = s.cu z := by
  unfold State.cu
  rw [h.2]

theorem trans {u : State} (h : s.sameControl t) (hu : t.sameControl u) : s.sameControl u := by
  obtain ⟨htlb, hcp0⟩ := h
  obtain ⟨utlb, ucp0⟩ := hu
  exact ⟨utlb.trans htlb, ucp0.trans (by rw [hcp0])⟩

/-- Coprocessor 0 stays unusable. -/
theorem not_usable (h : s.sameControl t) (hm : s.mode = .user) (hu : s.cu 0#2 = false) : t.usable 0#2 = false := by
  simp [State.usable, h.mode_eq, h.cu_eq, hm, hu]

end State.sameControl

/-! ## The entries -/

/-- The base and the offset of an exception give one of the vectors (60_exceptions.md R622, R630). -/
theorem State.exceptionVector_mem (s : State) (x : Exc) : s.vectorBase + s.vectorOffset x ∈ vectors := by
  have hb : s.vectorBase ∈ [0xFFFFFFFFBFC00200#64, 0xFFFFFFFF80000000#64] := by
    unfold State.vectorBase
    split <;> decide
  have ho : s.vectorOffset x ∈ [0x180#64, 0x080#64, 0x000#64] := by
    unfold State.vectorOffset
    split
    · split
      · decide
      · split <;> decide
    · decide
  have key : ∀ b ∈ [0xFFFFFFFFBFC00200#64, 0xFFFFFFFF80000000#64], ∀ o ∈ [0x180#64, 0x080#64, 0x000#64],
      b + o ∈ vectors := by simp [vectors]
  exact key _ hb _ ho

/-- The mode and the pc decide. -/
theorem State.atVector.of_eq {s t : State} (h : s.atVector) (he : (t.cp0, t.pc) = (s.cp0, s.pc)) : t.atVector := by
  obtain ⟨hc, hp⟩ : t.cp0 = s.cp0 ∧ t.pc = s.pc := by simpa using he
  unfold State.atVector State.mode State.debugMode State.exl State.erl State.ksu at *
  rwa [hc, hp]

theorem takeException_atVector (x : Exc) (s : State) : (takeException x s).atVector :=
  ⟨State.mode_of_exl (getLsbD_putBit_same _ _ (by decide)), s.exceptionVector_mem x⟩

theorem takeDebug_atVector (bits : BitVec 32) (s : State) : (takeDebug bits s).atVector := by
  refine ⟨State.mode_of_debugMode ?_, ?_⟩
  · exact (getLsbD_putBit_other _ _ (by decide) (by decide)).trans (by simp)
  · change s.debugVector ∈ vectors
    unfold State.debugVector
    split <;> decide

theorem resetEntry_atVector (s : State) : s.resetEntry.atVector := by
  refine ⟨State.mode_of_erl ?_, List.mem_cons_self⟩
  exact (getLsbD_putBit_other _ _ (by decide) (by decide)).trans
    ((getLsbD_putBit_other _ _ (by decide) (by decide)).trans (getLsbD_putBit_same _ _ (by decide)))

/-- SoftReset enters as NMI does (60_exceptions.md R641). -/
theorem softReset_atVector (spoiled : List (PAddr × Byte)) (s : State) : (softReset spoiled s).atVector :=
  (resetEntry_atVector s).of_eq rfl

theorem takeNmi_atVector (s : State) : (takeNmi s).atVector := (resetEntry_atVector s).of_eq rfl

theorem coldReset_atVector (pins : Straps) (s : State) : (coldReset pins s).atVector :=
  ⟨State.mode_of_erl (show (0x00400004#32).getLsbD 2 = true by decide), List.mem_cons_self⟩

/-! ## The instructions of coprocessor 0 -/

/-- Where coprocessor 0 is not usable each of its instructions raises Coprocessor Unusable, or Reserved Instruction where 64-bit
operations are not enabled (60_exceptions.md R656, R657). -/
theorem exec_eq_raise_of_cop0 {i : Instr} {s : State} (hi : coprocessorOf i = some 0#2) (hu : s.usable 0#2 = false) :
    ∃ x, exec i s = raise x s := by
  have hn (k : Out) : needs 0#2 s k = raise (.copUnusable 0#2) s := needs_of_not hu
  have hw (k : Out) : ∃ x, wide s (needs 0#2 s k) = raise x s := by
    cases h64 : s.is64bitOps
    · exact ⟨_, wide_of_not h64⟩
    · exact ⟨_, (wide_of h64).trans (hn k)⟩
  cases i with
  | mfc0 | mtc0 | cfc0 | ctc0 | bc0f | bc0t | bc0fl | bc0tl | cache | tlbr | tlbwi | tlbwr | tlbp | eret | deret | wait =>
    exact ⟨_, hn _⟩
  | dmfc0 | dmtc0 => exact hw _
  | _ => cases hi

/-! ## The obligation -/

/-- What a step from a user state answers: the control registers and the TLB as they were, or Kernel mode at a vector. -/
def State.containedIn (s t : State) : Prop := s.sameControl t ∨ t.atVector

theorem State.containedIn.of_eq {s t u : State} (h : s.containedIn t) (he : (u.cp0, u.tlb, u.pc) = (t.cp0, t.tlb, t.pc)) :
    s.containedIn u := by
  obtain ⟨hc, ht, hp⟩ : u.cp0 = t.cp0 ∧ u.tlb = t.tlb ∧ u.pc = t.pc := by simpa using he
  rcases h with h | h
  · exact .inl (h.trans ⟨ht, by rw [hc]⟩)
  · exact .inr (h.of_eq (by rw [hc, hp]))

/-- A user state without CU0 contains every step from it. -/
theorem State.upheld_of_user {s : State} (hm : s.mode = .user) (hu : s.cu 0#2 = false) :
    StepUpheld s.sameControl s.containedIn where
  of_control h ht hc := h.trans ⟨ht, by rw [hc]⟩
  masked _ h hd _ := absurd ((State.mode_of_debugMode hd).symm.trans (h.mode_eq.trans hm)) (by decide)
  answer h := .inl h
  exception x _ := .inr (takeException_atVector x _)
  debug bits _ := .inr (takeDebug_atVector bits _)
  answer_of_eq h he := h.of_eq he
  cop0 i t hi h := by
    obtain ⟨x, hx⟩ := exec_eq_raise_of_cop0 hi (h.not_usable hm hu)
    rw [hx, raise]
    split
    · trivial
    · exact .inr (takeException_atVector x t)
  prepared h := h.trans ⟨rfl, rfl⟩
  debugWith _ _ _ := .inr (takeDebug_atVector ..)
  debugWithNmi _ _ := .inr (takeDebug_atVector ..)
  nmi _ := .inr (takeNmi_atVector _)
  softReset spoiled _ := .inr (softReset_atVector spoiled _)
  coldReset pins _ := .inr (coldReset_atVector pins _)

/-- Settles O60: what a step does to the control registers and the TLB of a user state is an entry, or Random, Count and LLAddr. -/
theorem userModeIsContained : Obligations.UserModeIsContained := by
  intro s t hm hu hst
  have hs : s.sameControl s := ⟨rfl, rfl⟩
  rcases Out.all_next ((State.upheld_of_user hm hu).step hs) hst with h | h
  · exact .inl ⟨h.mode_eq.trans hm, h⟩
  · exact .inr h

end Sys2Proof.Machine
end

section
/-! SUPPORT. Random stays between Wired and 47 (O6): what writes neither Random nor Wired keeps it; Random counted, Wired written and
ColdReset meet it (11_cp0_registers.md R64, R69). -/

namespace Sys2Proof.Machine

/-- Random counts down to Wired and starts again from 47; 47 with a Wired above it (11_cp0_registers.md R64, U10). -/
theorem nextRandom_inRange (random wired : BitVec 6) :
    (nextRandom random wired).toNat ≤ 47 ∧ (wired.toNat ≤ 47 → wired.toNat ≤ (nextRandom random wired).toNat) := by
  unfold nextRandom
  split
  · exact ⟨by decide, fun h => h⟩
  · next h =>
    simp only [Bool.or_eq_true, decide_eq_true_eq, BitVec.le_def, BitVec.lt_def, not_or] at h
    bv_omega

/-- A write of Status changes no other CP0 register. -/
theorem State.writeStatus_cp0 (s : State) (v : Word) :
    (s.writeStatus v).cp0 = { s.cp0 with status := writeMasked maskStatus s.cp0.status v } := by
  unfold State.writeStatus
  dsimp only
  split <;> simp

namespace State.RandomInRange

variable {s t : State}

/-- A change of neither Random nor Wired. -/
theorem of_eq (h : s.RandomInRange) (he : (t.cp0.random, t.cp0.wired) = (s.cp0.random, s.cp0.wired)) : t.RandomInRange := by
  obtain ⟨hr, hw⟩ : t.cp0.random = s.cp0.random ∧ t.cp0.wired = s.cp0.wired := by simpa using he
  unfold State.RandomInRange
  rwa [hr, hw]

theorem of_random_eq (h : t.cp0.random = 47#6) : t.RandomInRange := by
  unfold State.RandomInRange
  rw [h]
  exact ⟨by decide, fun h => h⟩

/-- An exception records a bad address in other registers. -/
theorem takeException (h : s.RandomInRange) (x : Exc) : (takeException x s).RandomInRange := by
  refine h.of_eq ?_
  dsimp only [Machine.takeException, State.cp0After, State.recordBadAddr]
  split
  · rfl
  · split <;> rfl

theorem upheld : Upheld State.RandomInRange State.RandomInRange where
  of_control h _ hc := h.of_eq (by rw [hc])
  masked _ _ _ h := h.of_eq rfl
  answer h := h
  exception x h := h.takeException x
  debug _ h := h.of_eq rfl
  answer_of_eq h he := h.of_eq (by rw [(Prod.mk.inj he).1])

/-! ## The instructions of coprocessor 0 -/

/-- A write of Wired sets Random to 47 (11_cp0_registers.md R69). -/
theorem writeCp0 (h : s.RandomInRange) (r : Cop0RegNum) (v : DWord) : (s.writeCp0 r v).RandomInRange := by
  unfold State.writeCp0
  dsimp only
  split
  case h_6 => exact of_random_eq rfl
  case h_10 => exact h.of_eq (by rw [State.writeStatus_cp0])
  all_goals exact h.of_eq rfl

theorem writeTlb (h : s.RandomInRange) (i : BitVec 6) : Out.all (writeTlb i s) State.RandomInRange := by
  unfold Machine.writeTlb
  split
  · split
    · exact h.of_eq rfl
    · trivial
  · exact upheld.advance h

theorem execTlbr (h : s.RandomInRange) : Out.all (execTlbr s) State.RandomInRange := by
  refine upheld.needs h _ (upheld.advance (?_ : State.RandomInRange _))
  split <;> exact h.of_eq rfl

theorem execTlbp (h : s.RandomInRange) : Out.all (execTlbp s) State.RandomInRange := by
  refine upheld.needs h _ ?_
  split
  · exact h.of_eq rfl
  · exact h.of_eq rfl
  · trivial

theorem eret (h : s.RandomInRange) : s.eret.RandomInRange := by
  unfold State.eret
  split <;> exact h.of_eq rfl

theorem execDeret (h : s.RandomInRange) : Out.all (execDeret s) State.RandomInRange := by
  refine upheld.needs h _ ?_
  split
  · exact noSlot_all s (h.of_eq rfl)
  · trivial

/-! ## CACHE -/

theorem indexCheck (h : s.RandomInRange) (va : DWord) : (s.indexCheck va).all State.RandomInRange := by
  unfold State.indexCheck
  split
  · trivial
  · exact h
  · exact h

theorem moveFifo (h : s.RandomInRange) (c : CacheId) (set : BitVec 8) : (s.moveFifo c set).RandomInRange := h.of_eq (by simp)

theorem indexInvalidate (h : s.RandomInRange) (c : CacheId) (va : DWord) : (s.indexInvalidate c va).all State.RandomInRange :=
  Res.all_bind (upheld.castOut h ..) fun _ _ ht => (upheld.dropLine ht ..).moveFifo ..

theorem indexLoadTag (h : s.RandomInRange) (c : CacheId) (va : DWord) : (s.indexLoadTag c va).RandomInRange := by
  unfold State.indexLoadTag
  exact moveFifo (s := { s with cp0 := _ }) (h.of_eq (by rfl)) ..

theorem indexStoreTag (h : s.RandomInRange) (c : CacheId) (va : DWord) : (s.indexStoreTag c va).all State.RandomInRange := by
  unfold State.indexStoreTag
  dsimp only
  split
  · trivial
  · exact h.of_eq (by simp)

theorem hitOp (h : s.RandomInRange) (c : CacheId) (va : DWord) {onHit : BitVec 2 → State → Res Unit}
    (hk : ∀ w t, t.RandomInRange → (onHit w t).all State.RandomInRange) : (s.hitOp c va onHit).all State.RandomInRange := by
  have setCh {t : State} (ht : t.RandomInRange) (hit : Bool) : (t.setCh hit).RandomInRange := ht.of_eq rfl
  refine Res.all_bind (Res.all_translateWith h .load true va) fun p t ht => ?_
  split
  · exact (setCh ht _).moveFifo ..
  · exact Res.all_bind (hk _ t ht) fun _ u hu => (setCh hu _).moveFifo ..
  · trivial

theorem createDirty (h : s.RandomInRange) (va : DWord) : (s.createDirty va).all State.RandomInRange := by
  refine Res.all_bind (Res.all_translateWith h .load true va) fun p t ht => ?_
  split
  · exact moveFifo (s := { t with dcache := _ }) (ht.of_eq (by rfl)) ..
  · exact Res.all_bind (upheld.castOut ht ..) fun _ u hu => upheld.placeLine hu ..
  · trivial

theorem fill (h : s.RandomInRange) (k : AccessKind) (c : CacheId) (va : DWord) : (s.fill k c va).all State.RandomInRange := by
  refine Res.all_bind (Res.all_translateWith h .load true va) fun p t ht => ?_
  dsimp only
  split
  · trivial
  · exact upheld.fillWay ht ..

theorem cacheOp (h : s.RandomInRange) (op : CacheOp) (va : DWord) : (s.cacheOp op va).all State.RandomInRange := by
  cases op with
  | indexInvalidateI | indexWriteBackInvalidateD => exact Res.all_bind (h.indexCheck va) fun _ _ ht => ht.indexInvalidate ..
  | indexLoadTagI | indexLoadTagD => exact Res.all_bind (h.indexCheck va) fun _ _ ht => ht.indexLoadTag ..
  | indexStoreTagI | indexStoreTagD => exact Res.all_bind (h.indexCheck va) fun _ _ ht => ht.indexStoreTag ..
  | createDirtyExclusiveD => exact h.createDirty va
  | hitInvalidateI | hitInvalidateD => exact h.hitOp _ va fun _ _ ht => upheld.dropLine ht ..
  | fillI | fillD => exact h.fill ..
  | hitWriteBackInvalidateD =>
    exact h.hitOp _ va fun _ _ ht => Res.all_bind (upheld.castOut ht ..) fun _ _ hu => upheld.dropLine hu ..
  | hitWriteBackD =>
    exact h.hitOp _ va fun _ _ ht => Res.all_bind (upheld.castOut ht ..) fun _ _ hu => hu.of_eq (by simp)
  | undefined _ => exact h.indexCheck va

theorem cacheThen {r : Res Unit} (hr : r.all State.RandomInRange) (s : State) :
    Out.all (cacheThen r s) State.RandomInRange := by
  unfold Machine.cacheThen
  split
  · next x t =>
    have ht : t.RandomInRange := hr
    split
    · exact ht.of_eq rfl
    · exact upheld.raise ht x
  · exact upheld.elim hr fun _ _ ht => upheld.advance ht

/-! ## The step -/

theorem exec_cop0 (i : Instr) (s : State) (hi : coprocessorOf i = some 0#2) (h : s.RandomInRange) :
    Out.all (exec i s) State.RandomInRange := by
  cases i with
  | mfc0 | cfc0 => exact upheld.needs h _ (upheld.setReg h ..)
  | dmfc0 => exact upheld.wide h (upheld.needs h _ (upheld.setReg h ..))
  | mtc0 => exact upheld.needs h _ (upheld.advance (h.writeCp0 ..))
  | dmtc0 => exact upheld.wide h (upheld.needs h _ (upheld.advance (h.writeCp0 ..)))
  | ctc0 => exact upheld.needs h _ (upheld.advance h)
  | bc0f | bc0t => exact upheld.needs h _ (upheld.branch h ..)
  | bc0fl | bc0tl => exact upheld.needs h _ (upheld.branchLikely h ..)
  | cache => exact upheld.needs h _ (cacheThen (h.cacheOp ..) s)
  | tlbr => exact h.execTlbr
  | tlbwi | tlbwr => exact upheld.needs h _ (h.writeTlb _)
  | tlbp => exact h.execTlbp
  | eret => exact upheld.needs h _ (noSlot_all s h.eret)
  | deret => exact h.execDeret
  | wait => exact upheld.needs h _ (upheld.elim (upheld.flushed h) fun _ _ ht => ht.of_eq rfl)
  | _ => cases hi

theorem stepUpheld : StepUpheld State.RandomInRange State.RandomInRange where
  toUpheld := upheld
  cop0 := exec_cop0
  prepared _ := nextRandom_inRange _ _
  debugWith _ x h := (h.takeException x).of_eq rfl
  debugWithNmi _ h := h.of_eq rfl
  nmi h := h.of_eq rfl
  softReset _ h := h.of_eq rfl
  coldReset _ _ := of_random_eq rfl

end State.RandomInRange

/-- Settles O6: only the count of Random, a write of Wired and ColdReset touch Random or Wired. -/
theorem stepKeepsRandomInRange : Obligations.StepKeepsRandomInRange :=
  fun _ _ h hst => Out.all_next (State.RandomInRange.stepUpheld.step h) hst

end Sys2Proof.Machine
end

section
/-! SUPPORT. The writes of MTC0 and DMTC0 with effects of their own (O39): both write a doubleword whose low word is the one of GPR
rt, and each register takes it by its own rule (46_cp0_instructions.md R491, R493; 11_cp0_registers.md R69, R73, R74, R80, R102). -/

namespace Sys2Proof.Machine

/-- MTC0, and DMTC0 with 64-bit operations enabled, write a doubleword with the low word of GPR rt. -/
theorem exec_write_cp0 {s : State} {rt : RegNum} {r : Cop0RegNum} {i : Instr} (hu : s.usable 0#2 = true)
    (hi : i = .mtc0 rt r ∨ (i = .dmtc0 rt r ∧ s.is64bitOps = true)) :
    ∃ v, low32 v = s.rget32 rt ∧ exec i s = .next (s.writeCp0 r v).advance := by
  rcases hi with rfl | ⟨rfl, h64⟩
  · exact ⟨_, low32_sext32 _, needs_of hu⟩
  · exact ⟨_, rfl, (wide_of h64).trans (needs_of hu)⟩

/-! ## Status -/

theorem State.writeStatus_eq (s : State) (v : Word) :
    s.writeStatus v = { s with cp0 := (s.writeStatus v).cp0, fgr := (s.writeStatus v).fgr } := by
  unfold State.writeStatus
  dsimp only
  split <;> rfl

/-- The FPRs are as they were unless FR changes. -/
theorem State.writeStatus_fgr {s : State} {v : Word} (h : s.fr = v.getLsbD 26) : (s.writeStatus v).fgr = s.fgr := by
  have hbit : (writeMasked maskStatus s.cp0.status v).getLsbD 26 = s.fr := by
    simp [writeMasked, maskStatus, h]
  unfold State.writeStatus
  dsimp only
  rw [if_pos hbit]

/-! ## Debug -/

/-- A bit of Debug after a write, by what the field table lets a write do to it (11_cp0_registers.md R102). -/
theorem getLsbD_debugWritten (old v : BitVec 32) {i : Nat} (h : i < 32) :
    (debugWritten old v).getLsbD i =
      if i = 7 ∨ i = 8 then v.getLsbD i
      else if i = 10 ∨ i = 11 then old.getLsbD i && v.getLsbD i
      else old.getLsbD i := by
  have hset : ∀ i < 32, maskDebug.getLsbD i = decide (i = 7 ∨ i = 8) := by decide
  have hclear : ∀ i < 32, maskDebugClear.getLsbD i = decide (i = 10 ∨ i = 11) := by decide
  simp only [debugWritten, writeMasked, BitVec.getLsbD_and, BitVec.getLsbD_or, BitVec.getLsbD_not, hset i h, hclear i h, h]
  grind

theorem debugWritten_kept (old v : BitVec 32) : debugWritten old v &&& 0xFFFFF27F#32 = old &&& 0xFFFFF27F#32 := by
  have hmask : ∀ i < 32, (0xFFFFF27F#32).getLsbD i = !decide (i = 7 ∨ i = 8 ∨ i = 10 ∨ i = 11) := by decide
  apply BitVec.eq_of_getLsbD_eq
  intro i hi
  simp only [BitVec.getLsbD_and, getLsbD_debugWritten old v hi, hmask i hi]
  grind

/-! ## The obligation -/

/-- Settles O39: each register by its own rule of the write. -/
theorem cop0WriteEffects : Obligations.Cop0WriteEffects := by
  intro s rt hu
  refine ⟨fun i hi => ?wired, fun i hi => ?count, fun i hi => ?compare, fun i hi => ?status, fun i hi => ?debug⟩
  all_goals obtain ⟨v, hv, he⟩ := exec_write_cp0 hu hi
  case wired =>
    have hw : (low32 v).extractLsb' 0 6 = (s.rget rt).extractLsb' 0 6 := by
      rw [hv]
      apply BitVec.eq_of_getLsbD_eq
      intro k hk
      rw [BitVec.getLsbD_extractLsb', BitVec.getLsbD_extractLsb', getLsbD_rget32 _ _ (by omega)]
    exact ⟨_, he, ⟨rfl, rfl⟩, by rw [← hw]; rfl, rfl⟩
  case count =>
    rw [← hv]
    exact ⟨_, he, ⟨rfl, rfl⟩, rfl, by simp [State.writeCp0, State.writeCount], rfl⟩
  case compare =>
    rw [← hv]
    exact ⟨_, he, ⟨rfl, rfl⟩, rfl, rfl, rfl⟩
  case status =>
    have hfr : (low32 v).getLsbD 26 = (s.rget rt).getLsbD 26 := by rw [hv, getLsbD_rget32 _ _ (by decide)]
    rw [← hv]
    have hs : exec i s = .next (State.advance { s with
        cp0 := (s.writeStatus (low32 v)).cp0, fgr := (s.writeStatus (low32 v)).fgr }) := by
      rw [← s.writeStatus_eq]
      exact he
    exact ⟨_, hs, ⟨rfl, rfl⟩, s.writeStatus_cp0 _, fun h => State.writeStatus_fgr (h.trans hfr.symm), rfl⟩
  case debug =>
    refine ⟨_, he, ⟨rfl, rfl⟩, rfl, debugWritten_kept .., ?_, ?_, ?_, ?_, rfl⟩
    all_goals
      rw [← getLsbD_rget32 _ _ (by decide), ← hv]
      exact getLsbD_debugWritten _ _ (by decide)

end Sys2Proof.Machine
end

section
/-! SUPPORT. The IP bits of Cause and the condition of a pending interrupt, bit by bit (11_cp0_registers.md R82;
61_interrupts_platform.md R704 to R708). -/

namespace Sys2Proof.Machine

/-- The sources drive bits 15 to 10 of Cause; every other bit is the stored one. -/
theorem State.getLsbD_causeWord (s : State) {k : Nat} (h : k < 32) :
    s.causeWord.getLsbD k = if 10 ≤ k ∧ k < 16 then s.hardIp.getLsbD (k - 10) else s.cp0.cause.getLsbD k :=
  getLsbD_putBits _ _ _ h

/-- IP6 to IP2: a bit of the Interrupt register or a pin. -/
theorem State.getLsbD_hardIp {s : State} {k : Nat} (h : k < 5) :
    s.hardIp.getLsbD k = (s.plat.intReg.getLsbD k || s.env.intPins.getLsbD k) := by
  have hk : k < 6 := by omega
  unfold State.hardIp
  dsimp only
  split
  · simp [hk]
  · rw [getLsbD_putBit_other _ _ hk (by omega)]
    simp [hk]

/-- IP7: the same of the sixth source with TINTDIS, else the timer. -/
theorem State.getLsbD_hardIp_five (s : State) :
    s.hardIp.getLsbD 5 =
      if s.straps.tIntDis then s.plat.intReg.getLsbD 5 || s.env.intPins.getLsbD 5 else s.plat.timerInt := by
  unfold State.hardIp
  dsimp only
  split
  · simp
  · exact getLsbD_putBit_same _ _ (by decide)

theorem State.interruptPending_iff (s : State) :
    s.interruptPending = true ↔
      (∃ k, k < 8 ∧ s.causeWord.getLsbD (8 + k) = true ∧ s.cp0.status.getLsbD (8 + k) = true) ∧
        s.ie = true ∧ s.exl = false ∧ s.erl = false ∧ s.debugMode = false := by
  have hip : s.causeWord.extractLsb' 8 8 &&& s.im ≠ 0#8 ↔
      ∃ k, k < 8 ∧ s.causeWord.getLsbD (8 + k) = true ∧ s.cp0.status.getLsbD (8 + k) = true := by
    rw [and_ne_zero_iff]
    refine exists_congr fun k => and_congr_right fun hk => ?_
    simp [State.im, hk]
  simp only [State.interruptPending, Bool.and_eq_true, bne_iff_ne, hip, Bool.not_eq_true', and_assoc]

/-- Settles O11: the condition of `interruptPending` and the bits of Cause, each by its source. -/
theorem interruptPendingWhen : Obligations.InterruptPendingWhen := by
  refine fun s => ⟨s.interruptPending_iff, fun k hk => ?_, ?_, fun k hk => ?_⟩
  · rw [s.getLsbD_causeWord (by omega), if_pos (by omega), Nat.add_sub_cancel_left, State.getLsbD_hardIp hk]
  · rw [s.getLsbD_causeWord (by decide), if_pos (by decide), s.getLsbD_hardIp_five]
  · by_cases h32 : k < 32
    · rw [s.getLsbD_causeWord h32, if_neg (by omega)]
    · rw [BitVec.getLsbD_of_ge _ _ (by omega), BitVec.getLsbD_of_ge _ _ (by omega)]

end Sys2Proof.Machine
end

section
/-! SUPPORT. Memory, the caches and the write buffer keep their canonical form (`State.MemoryForm`) under each memory operation:
the sparse lists of a cache, the bytes of a line, the buffer and the bus, the refills, the loads and the stores (20_memory.md R160;
21_cache.md R183, R185). -/

namespace Sys2Proof.Machine

/-! ## Caches -/

theorem lineKey_lt (set : BitVec 8) (way : BitVec 2) : lineKey set way < 1024 := by
  have hset := set.isLt
  have hway := way.isLt
  unfold lineKey
  omega

/-- A write at a key below a bound keeps the canonical form and the bound. -/
theorem sparsePut_wf_lt {β : Type} [DecidableEq β] {d : β} {l : List (Nat × β)} {n k : Nat} (v : β)
    (h : SparseWf d l ∧ ∀ p ∈ l, p.1 < n) (hk : k < n) : SparseWf d (sparsePut d l k v) ∧ ∀ p ∈ sparsePut d l k v, p.1 < n := by
  refine ⟨sparsePut_wf k v h.1, fun p hp => ?_⟩
  rcases mem_sparsePut hp with hp | ⟨rfl, -⟩
  · exact h.2 p hp
  · exact hk

theorem Cache.setLine_wf {c : Cache} (h : c.wf) (set : BitVec 8) (way : BitVec 2) (l : CacheLine) : (c.setLine set way l).wf := by
  obtain ⟨hlines, hkeys, hfifo⟩ := h
  have hput := sparsePut_wf_lt l ⟨hlines, hkeys⟩ (lineKey_lt set way)
  exact ⟨hput.1, hput.2, hfifo⟩

theorem Cache.setFifo_wf {c : Cache} (h : c.wf) (set : BitVec 8) (f : BitVec 2) : (c.setFifo set f).wf := by
  obtain ⟨hlines, hkeys, hfifo⟩ := h
  exact ⟨hlines, hkeys, sparsePut_wf_lt f hfifo set.isLt⟩

theorem Cache.wf_empty : Cache.wf { lines := [], fifo := [] } := by simp [Cache.wf, SparseWf]

/-- Writes at keys below a bound, one after the other, keep the canonical form and the bound. -/
theorem foldl_sparsePut_wf {β : Type} [DecidableEq β] {d : β} {n : Nat} (f : Nat → β) (ks : List Nat) (hk : ∀ k ∈ ks, k < n)
    {l : List (Nat × β)} (h : SparseWf d l ∧ ∀ p ∈ l, p.1 < n) :
    SparseWf d (ks.foldl (fun l k => sparsePut d l k (f k)) l) ∧
      ∀ p ∈ ks.foldl (fun l k => sparsePut d l k (f k)) l, p.1 < n := by
  induction ks generalizing l with
  | nil => exact h
  | cons k ks ih =>
    exact ih (fun j hj => hk j (List.mem_cons_of_mem k hj)) (sparsePut_wf_lt (f k) h (hk k List.mem_cons_self))

/-- Whatever a SoftReset leaves in a cache is in canonical form (60_exceptions.md R641). -/
theorem freeCacheState_wf (n : Nat) (data : Bool) : (freeCacheState n data).wf := by
  have hlines := foldl_sparsePut_wf (d := CacheLine.empty) (l := []) (fun k => freeLine n k data) (List.range 1024)
    (fun _ => List.mem_range.1) (by simp [SparseWf])
  have hfifo := foldl_sparsePut_wf (d := 0#2) (l := []) (fun k => (Config.freeCache n (8 * k + 5)).extractLsb' 0 2)
    (List.range 256) (fun _ => List.mem_range.1) (by simp [SparseWf])
  dsimp only [Cache.wf, freeCacheState]
  exact ⟨hlines.1, hlines.2, hfifo⟩

theorem lineBytes_length (data : Vector Byte 32) (offset : BitVec 5) (n : Nat) : (lineBytes data offset n).length = n := by
  induction n generalizing offset with
  | zero => rfl
  | succ n ih => simp [lineBytes, ih]

/-! ## The form in parts -/

/-- The state a memory operation leaves has the canonical form. -/
abbrev Res.Formed {α : Type} (r : Res α) : Prop := r.all State.MemoryForm

/-- The state an instruction or a step answers has the canonical form. -/
abbrev Out.Formed (o : Out) : Prop := Out.all o State.MemoryForm

namespace State.MemoryForm

variable {s t : State}

theorem cache_wf (h : s.MemoryForm) (c : CacheId) : (s.cache c).wf := by
  obtain ⟨-, hi, hd, -⟩ := h
  cases c
  · exact hi
  · exact hd

/-- A change of memory and the write buffer alone, of what the form speaks of. -/
theorem of_buffer (h : s.MemoryForm) (he : (t.icache, t.dcache) = (s.icache, s.dcache)) (hm : Memory.wf t.mem)
    (hl : t.wbuf.length ≤ 4) (hb : ∀ e ∈ t.wbuf, e.data.length ≤ 8) : t.MemoryForm := by
  obtain ⟨-, hi, hd, -⟩ := h
  obtain ⟨ei, ed⟩ : t.icache = s.icache ∧ t.dcache = s.dcache := by simpa using he
  exact ⟨hm, ei ▸ hi, ed ▸ hd, hl, hb⟩

/-- A change of nothing the form speaks of. -/
theorem of_eq (h : s.MemoryForm) (he : (t.mem, t.icache, t.dcache, t.wbuf) = (s.mem, s.icache, s.dcache, s.wbuf)) :
    t.MemoryForm := by
  obtain ⟨em, ei, ed, ew⟩ : t.mem = s.mem ∧ t.icache = s.icache ∧ t.dcache = s.dcache ∧ t.wbuf = s.wbuf := by simpa using he
  unfold State.MemoryForm
  rwa [em, ei, ed, ew]

theorem setCache (h : s.MemoryForm) (c : CacheId) {v : Cache} (hv : v.wf) : (s.setCache c v).MemoryForm := by
  obtain ⟨hm, hi, hd, hw⟩ := h
  cases c
  · exact ⟨hm, hv, hd, hw⟩
  · exact ⟨hm, hi, hv, hw⟩

/-! ## The write buffer and the bus -/

theorem drainOne (h : s.MemoryForm) : s.drainOne.MemoryForm := by
  unfold State.drainOne
  split
  · exact h
  · next e es hw =>
    obtain ⟨hm, hi, hd, hl, hb⟩ := h
    rw [hw] at hl hb
    exact ⟨Memory.setBytes_wf _ _ hm, hi, hd, (Nat.le_succ _).trans hl, fun e' he' => hb e' (List.mem_cons_of_mem e he')⟩

theorem drainAll (h : s.MemoryForm) : s.drainAll.MemoryForm :=
  h.of_buffer rfl (drainInto_wf s.wbuf h.1) (Nat.zero_le 4) (fun _ he => absurd he List.not_mem_nil)

theorem flushed (h : s.MemoryForm) : s.flushed.Formed := by
  rcases s.flushed_cases with hf | ⟨-, -, hf⟩ <;> rw [hf]
  · exact h.drainAll
  · exact h.of_eq rfl

theorem flushedFor (h : s.MemoryForm) (unit : Nat) (pa : PAddr) : (s.flushedFor unit pa).Formed := by
  unfold State.flushedFor
  split
  · exact h.flushed
  · exact h

/-- One more entry, where the buffer has room. -/
theorem addEntry (h : s.MemoryForm) (hl : s.wbuf.length < 4) {e : WbEntry} (he : e.data.length ≤ 8) :
    State.MemoryForm { s with wbuf := s.wbuf ++ [e] } := by
  obtain ⟨hm, hi, hd, -, hb⟩ := h
  refine ⟨hm, hi, hd, by simpa using hl, fun e' he' => ?_⟩
  rcases List.mem_append.1 he' with he' | he'
  · exact hb e' he'
  · exact List.mem_singleton.1 he' ▸ he

/-- A full buffer has room once it has given up its oldest entry. -/
theorem drainOne_length (h : s.MemoryForm) : s.drainOne.wbuf.length < 4 := by
  obtain ⟨-, -, -, hl, -⟩ := h
  unfold State.drainOne
  split
  · next hw => simp [hw]
  · next hw => simpa [hw] using hl

theorem bufferWrite (h : s.MemoryForm) (pa : PAddr) {data : List Byte} (hn : data.length ≤ 8) : (s.bufferWrite pa data).Formed := by
  unfold State.bufferWrite
  split
  · next hl => exact h.addEntry hl hn
  · split
    · exact h.drainOne.addEntry h.drainOne_length hn
    · exact h.of_eq rfl

theorem settleLate (h : s.MemoryForm) : s.settleLate.MemoryForm := h.of_eq (by simp)

theorem busIdle (h : s.MemoryForm) (k : AccessKind) : (s.busIdle k).Formed := by
  rcases s.busIdle_cases k with ⟨-, hb⟩ | ⟨-, -, hb⟩ | ⟨-, -, ⟨-, hb⟩ | ⟨-, hb⟩⟩ <;> rw [hb]
  · exact h
  · exact h.of_eq rfl
  · exact h.settleLate.of_eq rfl
  · exact h.settleLate

theorem uncachedRead (h : s.MemoryForm) (k : AccessKind) (pa : PAddr) (n : Nat) : (s.uncachedRead k pa n).Formed := by
  refine Res.all_bind (h.busIdle k) fun _ t ht => Res.all_bind ?_ fun _ u hu => ?_
  · split
    · exact ht.flushedFor ..
    · exact ht.flushed
  · split
    · exact hu
    · exact hu
    · exact hu.of_eq rfl

theorem chipWrite (h : s.MemoryForm) (pa : PAddr) (n : Nat) (v : DWord) : (s.chipWrite pa n v).Formed := by
  unfold State.chipWrite
  split
  · split
    · exact h.of_eq rfl
    · trivial
  · trivial

/-! ## Lines -/

theorem setLine (h : s.MemoryForm) (c : CacheId) (set : BitVec 8) (way : BitVec 2) (l : CacheLine) :
    (s.setCache c ((s.cache c).setLine set way l)).MemoryForm := h.setCache c (Cache.setLine_wf (h.cache_wf c) ..)

theorem placeLine (h : s.MemoryForm) (c : CacheId) (set : BitVec 8) (way : BitVec 2) (tag : BitVec 24) (data : Vector Byte 32)
    (dirty : Bool) : (s.placeLine c set way tag data dirty).MemoryForm :=
  (h.setCache c (Cache.setFifo_wf (Cache.setLine_wf (h.cache_wf c) ..) ..)).of_eq rfl

theorem dropLine (h : s.MemoryForm) (c : CacheId) (set : BitVec 8) (way : BitVec 2) : (s.dropLine c set way).MemoryForm :=
  h.setLine ..

theorem cleanLine (h : s.MemoryForm) (c : CacheId) (set : BitVec 8) (way : BitVec 2) : (s.cleanLine c set way).MemoryForm :=
  h.setLine ..

theorem writeLine (h : s.MemoryForm) (set : BitVec 8) (way : BitVec 2) (offset : BitVec 5) (bytes : List Byte) (dirty : Bool) :
    (s.writeLine set way offset bytes dirty).MemoryForm := h.setLine .data ..

theorem moveFifo (h : s.MemoryForm) (c : CacheId) (set : BitVec 8) : (s.moveFifo c set).MemoryForm :=
  (h.setCache c (Cache.setFifo_wf (h.cache_wf c) ..)).of_eq rfl

/-- A block write is four entries of eight bytes (20_memory.md R160). -/
theorem writeBackLine (h : s.MemoryForm) (pa : PAddr) (data : Vector Byte 32) : (s.writeBackLine pa data).Formed := by
  refine Res.all_bind h.flushed fun _ t ht => ?_
  obtain ⟨hm, hi, hd, -⟩ := ht
  refine ⟨hm, hi, hd, Nat.le_refl 4, fun e he => ?_⟩
  simp only [List.mem_cons, List.not_mem_nil, or_false] at he
  rcases he with rfl | rfl | rfl | rfl <;> exact (lineBytes_length ..).le

theorem castOut (h : s.MemoryForm) (c : CacheId) (set : BitVec 8) (way : BitVec 2) : (s.castOut c set way).Formed := by
  unfold State.castOut
  dsimp only
  split
  · exact h.writeBackLine ..
  · exact h

theorem readLine (h : s.MemoryForm) (k : AccessKind) (castsOut : Bool) (pa : PAddr) : (s.readLine k castsOut pa).Formed := by
  unfold State.readLine
  split
  · trivial
  · refine Res.all_bind (h.busIdle k) fun _ t ht => Res.all_bind ?_ fun _ u hu => ?_
    · split
      · exact ht.flushed
      · exact ht.flushedFor ..
    · dsimp only
      split
      · exact hu
      · exact hu
      · exact hu.of_eq rfl

theorem fillWay (h : s.MemoryForm) (k : AccessKind) (c : CacheId) (set : BitVec 8) (way : BitVec 2) (pa : PAddr) :
    (s.fillWay k c set way pa).Formed := by
  refine Res.all_bind (h.readLine k _ pa) fun line t ht => Res.all_bind (ht.castOut c set way) fun _ u hu => ?_
  split
  · exact hu.placeLine ..
  · exact hu.dropLine ..

theorem lookup (h : s.MemoryForm) (k : AccessKind) (c : CacheId) (va : DWord) (pa : PAddr) : (s.lookup k c va pa).Formed := by
  unfold State.lookup
  split
  · exact h
  · exact Res.all_bind (h.fillWay ..) fun _ t ht => ht
  · trivial

/-! ## Loads, stores and fetches -/

theorem readBytes (h : s.MemoryForm) (k : AccessKind) (c : CacheId) (off : Bool) (va : DWord) (p : Physical) (n : Nat) :
    (s.readBytes k c off va p n).Formed := by
  unfold State.readBytes
  split
  · exact h.uncachedRead ..
  · exact Res.all_bind (h.lookup ..) fun _ t ht => ht

theorem writeBytes (h : s.MemoryForm) (va : DWord) (p : Physical) {bytes : List Byte} (hn : bytes.length ≤ 8) :
    (s.writeBytes va p bytes).Formed := by
  unfold State.writeBytes
  split
  · exact h.bufferWrite _ hn
  · split
    · exact h.bufferWrite _ hn
    · refine Res.all_bind (h.lookup ..) fun w t ht => ?_
      split
      · exact ht.writeLine ..
      · exact Res.all_bind (ht.bufferWrite _ hn) fun _ u hu => hu.writeLine ..

theorem loadFrom (h : s.MemoryForm) (va start : DWord) (n : Nat) : (s.loadFrom va start n).Formed := by
  refine Res.all_bind (Res.all_translateWith h .load true va) fun p t ht => ?_
  dsimp only
  split
  · exact Res.all_bind (State.chipRead_all t _ _ _ ht) fun _ u hu => hu
  · exact Res.all_bind (ht.readBytes ..) fun _ u hu => hu

theorem load (h : s.MemoryForm) (va : DWord) (n : Nat) : (s.load va n).Formed := by
  unfold State.load
  split
  · exact h.loadFrom ..
  · exact h

theorem storePhysical (h : s.MemoryForm) (va : DWord) (p : Physical) {n : Nat} (hn : n ≤ 8) (v : DWord) :
    (s.storePhysical va p n v).Formed := by
  unfold State.storePhysical
  split
  · split
    · exact h.chipWrite ..
    · trivial
  · exact h.writeBytes va p ((disassemble_length ..).trans_le hn)

theorem storeTo (h : s.MemoryForm) (checkDirty : Bool) (va start : DWord) {n : Nat} (hn : n ≤ 8) (v : DWord) :
    (s.storeTo checkDirty va start n v).Formed :=
  Res.all_bind (Res.all_translateWith h ..) fun _ _ ht => ht.storePhysical va _ hn v

theorem store (h : s.MemoryForm) (checkDirty : Bool) (va : DWord) {n : Nat} (hn : n ≤ 8) (v : DWord) :
    (s.store checkDirty va n v).Formed := by
  unfold State.store
  split
  · exact h.storeTo _ va va hn v
  · exact h

theorem storeMasked (h : s.MemoryForm) (x : Exc) (va start : DWord) {n : Nat} (hn : n ≤ 8) (v : DWord) :
    (s.storeMasked x va start n v).Formed :=
  Res.all_bind (Res.all_translateWith h ..) fun _ _ ht => ht.storePhysical va _ hn v

theorem fetchUncached (h : s.MemoryForm) (pa : PAddr) : (s.fetchUncached pa).Formed := by
  unfold State.fetchUncached
  split
  · exact h.of_eq rfl
  · exact Res.all_bind (h.uncachedRead ..) fun _ t ht => ht.of_eq rfl

theorem fetchWord (h : s.MemoryForm) : s.fetchWord.Formed := by
  unfold State.fetchWord
  split
  · exact h
  · refine Res.all_bind (Res.all_translateWith h .fetch true s.pc) fun p t ht => ?_
    split
    · split
      · exact Res.all_bind (State.chipRead_all t _ _ _ ht) fun _ u hu => hu
      · exact ht.fetchUncached _
    · exact Res.all_bind (ht.readBytes ..) fun _ u hu => hu

end State.MemoryForm

end Sys2Proof.Machine
end

section
/-! SUPPORT. Every instruction keeps the canonical form of memory, the caches and the write buffer (O4): an instruction that makes
no access leaves all three, a store enters at most eight bytes, and CACHE works on whole lines. -/

namespace Sys2Proof.Machine

/-! ## The bytes a left or a right form stores (40_load_store.md R285) -/

theorem blockByte_lt (be : Bool) {w : Nat} (hw : 0 < w) (va : DWord) : blockByte be w va < w := by
  have hm := Nat.mod_lt va.toNat hw
  unfold blockByte
  dsimp only
  split <;> omega

theorem leftCount_le (be : Bool) {w : Nat} (hw : 0 < w) (va : DWord) : leftCount be w va ≤ w := blockByte_lt be hw va

theorem rightCount_le (be : Bool) (w : Nat) (va : DWord) : rightCount be w va ≤ w := Nat.sub_le ..

/-! ## What leaves memory -/

/-- Memory, the caches and the write buffer. -/
def State.memoryParts (s : State) : List Host.Cell × Cache × Cache × List WbEntry := (s.mem, s.icache, s.dcache, s.wbuf)

theorem State.fpStore_memoryParts (fmt : Fmt) (f : FpRegNum) (v : Nat) (s : State) :
    (s.fpStore fmt f v).memoryParts = s.memoryParts := by
  unfold State.fpStore State.memoryParts
  split <;> simp

theorem State.writeCp0_memoryParts (s : State) (r : Cop0RegNum) (v : DWord) : (s.writeCp0 r v).memoryParts = s.memoryParts := by
  unfold State.writeCp0 State.memoryParts
  dsimp only
  split
  case h_10 => simp
  all_goals rfl

namespace State.MemoryForm

variable {s t : State}

/-- An instruction that completes with memory, the caches and the write buffer as they were. -/
theorem next (h : s.MemoryForm) (he : t.memoryParts = s.memoryParts) : Out.Formed (.next t) := h.of_eq he

theorem advance (h : s.MemoryForm) : s.advance.MemoryForm := h.of_eq rfl

theorem setReg (h : s.MemoryForm) (r : RegNum) (v : DWord) : (setReg r v s).Formed := h.of_eq (by simp)

/-! ## Checks, exceptions and branches -/

theorem raise (h : s.MemoryForm) (x : Exc) : (raise x s).Formed := by
  unfold Machine.raise
  split
  · trivial
  · exact h.of_eq rfl

theorem wide (h : s.MemoryForm) {k : Out} (hk : k.Formed) : (wide s k).Formed := by
  unfold Machine.wide
  split
  · exact hk
  · exact h.raise _

theorem needs (h : s.MemoryForm) (z : BitVec 2) {k : Out} (hk : k.Formed) : (needs z s k).Formed := by
  unfold Machine.needs
  split
  · exact hk
  · exact h.raise _

theorem branch (h : s.MemoryForm) (taken : Bool) (offset : BitVec 16) : (branch taken offset s).Formed := by
  refine noSlot_all s ?_
  split <;> exact h.of_eq rfl

theorem branchLikely (h : s.MemoryForm) (taken : Bool) (offset : BitVec 16) : (branchLikely taken offset s).Formed := by
  refine noSlot_all s ?_
  split <;> exact h.of_eq rfl

theorem trapIf (h : s.MemoryForm) (c : Bool) : (trapIf c s).Formed := by
  unfold Machine.trapIf
  split
  · exact h.raise _
  · exact h.advance

theorem copAbsent (h : s.MemoryForm) (z : BitVec 2) : (copAbsent z s).Formed := h.needs z trivial

/-- A sum or a difference that raises Integer Overflow or goes to a register. -/
theorem overflowOr (h : s.MemoryForm) (c : Prop) [Decidable c] (r : RegNum) (v : DWord) :
    Out.Formed (if c then Machine.raise .overflow s else Machine.setReg r v s) := by
  split
  · exact h.raise _
  · exact h.setReg r v

theorem quotientOr (h : s.MemoryForm) (c : Prop) [Decidable c] (q r : DWord) :
    Out.Formed (if c then divideByZero s else setQuotient q r s) := by
  split <;> exact h.of_eq rfl

/-- An instruction that goes on with the value of a memory operation. -/
theorem elim {α : Type} {r : Res α} {k : α → State → Out} (hr : r.Formed) (hk : ∀ v t, t.MemoryForm → (k v t).Formed) :
    (r.elim k).Formed := by
  cases r with
  | ok v t => exact hk v t hr
  | exc x t => exact raise hr x
  | stall t => exact of_eq hr rfl
  | fault f => trivial
  | refuse f => trivial

/-! ## Loads -/

theorem link (h : s.MemoryForm) (pa : PAddr) : (s.link pa).MemoryForm := h.of_eq rfl

theorem linkFailed (ht : t.MemoryForm) (s : State) (va : DWord) : (s.linkFailed va t).MemoryForm := by
  unfold State.linkFailed
  split <;> exact ht.link _

theorem loadFailed (ht : t.MemoryForm) (s : State) (dest : LoadDest) {also : State → State}
    (ha : ∀ u, u.MemoryForm → (also u).MemoryForm) : (loadFailed s t dest also).Formed := by
  unfold Machine.loadFailed
  split
  · exact ht.raise _
  · split
    · exact (ha t ht).of_eq (by simp [goesOn])
    · exact raise (ht.of_eq (by simp)) _

theorem loadThen {r : Res (PAddr × DWord)} (hr : r.Formed) (s : State) (dest : LoadDest) {also : State → State}
    {k : PAddr × DWord → State → Out} (ha : ∀ u, u.MemoryForm → (also u).MemoryForm)
    (hk : ∀ v t, t.MemoryForm → (k v t).Formed) : (loadThen r s dest also k).Formed := by
  unfold Machine.loadThen
  split
  · next x t =>
    have ht : t.MemoryForm := hr
    split
    · exact (ha (t.flagMasked x) (ht.of_eq rfl)).of_eq (by simp)
    · split
      · exact ht.loadFailed s dest ha
      · exact ht.raise x
  · exact elim hr hk

theorem loadGpr {r : Res (PAddr × DWord)} (hr : r.Formed) (s : State) (rt : RegNum) (f : DWord → DWord) :
    (loadGpr rt r s f).Formed := loadThen hr s _ (fun _ hu => hu) fun _ _ ht => ht.setReg ..

theorem execLwl (h : s.MemoryForm) (rt : RegNum) (offset : BitVec 16) (base : RegNum) :
    (Machine.execLwl rt offset base s).Formed := by
  unfold Machine.execLwl
  exact loadGpr (h.loadFrom ..) ..

theorem execLwr (h : s.MemoryForm) (rt : RegNum) (offset : BitVec 16) (base : RegNum) :
    (Machine.execLwr rt offset base s).Formed := by
  unfold Machine.execLwr
  exact loadGpr (h.loadFrom ..) ..

theorem loadFpr {r : Res (PAddr × DWord)} (hr : r.Formed) (s : State) (dest : LoadDest) {write : DWord → State → State}
    (hw : ∀ v t, (write v t).memoryParts = t.memoryParts) : (loadFpr dest write r s).Formed :=
  loadThen hr s _ (fun _ hu => hu) fun v t ht => ht.next (hw v.2 t)

theorem loadLinked (h : s.MemoryForm) (rt : RegNum) (offset : BitVec 16) (base : RegNum) (n : Nat) :
    (loadLinked rt offset base n s).Formed :=
  loadThen (h.load ..) s _ (fun _ hu => hu.linkFailed ..) fun _ _ ht => (ht.link _).setReg ..

/-! ## Stores -/

theorem storeOrNot (h : s.MemoryForm) (tries : Nat) (x : Exc) (va start : DWord) {n : Nat} (hn : n ≤ 8) (v : DWord)
    {k : State → Out} (hk : ∀ t, t.MemoryForm → (k t).Formed) : (storeOrNot tries x s va start n v k).Formed := by
  induction tries generalizing x s with
  | zero => exact hk s h
  | succ tries ih =>
    unfold Machine.storeOrNot
    split
    · have hs := h.storeMasked x va start hn v
      split
      · next y t hr => exact ih (s := t.flagMasked y) ((Res.all_exc hs hr).of_eq rfl) y
      · exact elim hs fun _ t ht => hk t ht
    · exact hk s h

theorem storeThen {r : Res Unit} (hr : r.Formed) (s : State) (va start : DWord) {n : Nat} (hn : n ≤ 8) (v : DWord)
    {k : State → Out} (hk : ∀ t, t.MemoryForm → (k t).Formed) : (storeThen r s va start n v k).Formed := by
  unfold Machine.storeThen
  split
  · next x t =>
    have ht : t.MemoryForm := hr
    split
    · exact storeOrNot (s := t.flagMasked x) (ht.of_eq rfl) 2 x va start hn v hk
    · exact ht.raise x
  · exact elim hr fun _ t ht => hk t ht

theorem storeAligned (h : s.MemoryForm) (va : DWord) {n : Nat} (hn : n ≤ 8) (v : DWord) {k : State → Out}
    (hk : ∀ t, t.MemoryForm → (k t).Formed) : (storeAligned va n v s k).Formed :=
  storeThen (h.store true va hn v) s va va hn v hk

theorem storeGpr (h : s.MemoryForm) (rt : RegNum) (offset : BitVec 16) (base : RegNum) {n : Nat} (hn : n ≤ 8) :
    (storeGpr rt offset base n s).Formed := h.storeAligned _ hn _ fun _ ht => ht.advance

theorem storeUnaligned (h : s.MemoryForm) (va start : DWord) {n : Nat} (hn : n ≤ 8) (v : DWord) :
    (storeUnaligned va start n v s).Formed := storeThen (h.storeTo true va start hn v) s va start hn v fun _ ht => ht.advance

theorem storeConditional (h : s.MemoryForm) (rt : RegNum) (offset : BitVec 16) (base : RegNum) {n : Nat} (hn : n ≤ 8) :
    (storeConditional rt offset base n s).Formed := by
  unfold Machine.storeConditional
  dsimp only
  split
  · exact h.storeAligned _ hn _ fun _ ht => ht.setReg ..
  · generalize hr : (if aligned (s.effAddr base offset) n then _ else _) = r
    have hres : r.Formed := by
      rw [← hr]
      split
      · exact Res.all_bind (Res.all_translateWith h ..) fun _ _ ht => ht
      · exact h
    split
    · next x t =>
      have ht : t.MemoryForm := hres
      split
      · exact setReg (s := t.flagMasked x) (ht.of_eq rfl) ..
      · exact ht.raise x
    · exact elim hres fun _ _ ht => ht.setReg ..

/-! ## CACHE -/

theorem indexCheck (h : s.MemoryForm) (va : DWord) : (s.indexCheck va).Formed := by
  unfold State.indexCheck
  split
  · trivial
  · exact h
  · exact h

theorem indexInvalidate (h : s.MemoryForm) (c : CacheId) (va : DWord) : (s.indexInvalidate c va).Formed :=
  Res.all_bind (h.castOut ..) fun _ _ ht => (ht.dropLine ..).moveFifo ..

theorem indexLoadTag (h : s.MemoryForm) (c : CacheId) (va : DWord) : (s.indexLoadTag c va).MemoryForm := by
  unfold State.indexLoadTag
  exact moveFifo (s := { s with cp0 := _ }) (h.of_eq (by rfl)) ..

theorem indexStoreTag (h : s.MemoryForm) (c : CacheId) (va : DWord) : (s.indexStoreTag c va).Formed := by
  unfold State.indexStoreTag
  dsimp only
  split
  · trivial
  · exact h.setCache c (Cache.setFifo_wf (Cache.setLine_wf (h.cache_wf c) ..) ..)

theorem hitOp (h : s.MemoryForm) (c : CacheId) (va : DWord) {onHit : BitVec 2 → State → Res Unit}
    (hk : ∀ w t, t.MemoryForm → (onHit w t).Formed) : (s.hitOp c va onHit).Formed := by
  have setCh {t : State} (ht : t.MemoryForm) (hit : Bool) : (t.setCh hit).MemoryForm := ht.of_eq rfl
  refine Res.all_bind (Res.all_translateWith h .load true va) fun p t ht => ?_
  split
  · exact (setCh ht _).moveFifo ..
  · exact Res.all_bind (hk _ t ht) fun _ u hu => (setCh hu _).moveFifo ..
  · trivial

theorem createDirty (h : s.MemoryForm) (va : DWord) : (s.createDirty va).Formed := by
  refine Res.all_bind (Res.all_translateWith h .load true va) fun p t ht => ?_
  split
  · exact (ht.setLine .data ..).moveFifo ..
  · exact Res.all_bind (ht.castOut ..) fun _ u hu => hu.placeLine ..
  · trivial

theorem fill (h : s.MemoryForm) (k : AccessKind) (c : CacheId) (va : DWord) : (s.fill k c va).Formed := by
  refine Res.all_bind (Res.all_translateWith h .load true va) fun p t ht => ?_
  dsimp only
  split
  · trivial
  · exact ht.fillWay ..

theorem cacheOp (h : s.MemoryForm) (op : CacheOp) (va : DWord) : (s.cacheOp op va).Formed := by
  cases op with
  | indexInvalidateI | indexWriteBackInvalidateD => exact Res.all_bind (h.indexCheck va) fun _ _ ht => ht.indexInvalidate ..
  | indexLoadTagI | indexLoadTagD => exact Res.all_bind (h.indexCheck va) fun _ _ ht => ht.indexLoadTag ..
  | indexStoreTagI | indexStoreTagD => exact Res.all_bind (h.indexCheck va) fun _ _ ht => ht.indexStoreTag ..
  | createDirtyExclusiveD => exact h.createDirty va
  | hitInvalidateI | hitInvalidateD => exact h.hitOp _ va fun _ _ ht => ht.dropLine ..
  | fillI | fillD => exact h.fill ..
  | hitWriteBackInvalidateD =>
    exact h.hitOp _ va fun _ _ ht => Res.all_bind (ht.castOut ..) fun _ _ hu => hu.dropLine ..
  | hitWriteBackD => exact h.hitOp _ va fun _ _ ht => Res.all_bind (ht.castOut ..) fun _ _ hu => hu.cleanLine ..
  | undefined _ => exact h.indexCheck va

theorem cacheThen {r : Res Unit} (hr : r.Formed) (s : State) : (cacheThen r s).Formed := by
  unfold Machine.cacheThen
  split
  · next x t =>
    have ht : t.MemoryForm := hr
    split
    · exact ht.of_eq rfl
    · exact ht.raise x
  · exact elim hr fun _ _ ht => ht.advance

/-! ## Coprocessor 0 and debug -/

theorem writeTlb (h : s.MemoryForm) (i : BitVec 6) : (writeTlb i s).Formed := by
  unfold Machine.writeTlb
  split
  · split
    · exact h.of_eq rfl
    · trivial
  · exact h.advance

theorem execTlbr (h : s.MemoryForm) : (Machine.execTlbr s).Formed := by
  refine h.needs _ (advance ?_)
  split <;> exact h.of_eq rfl

theorem execTlbp (h : s.MemoryForm) : (Machine.execTlbp s).Formed := by
  refine h.needs _ ?_
  split
  · exact h.of_eq rfl
  · exact h.of_eq rfl
  · trivial

theorem eret (h : s.MemoryForm) : s.eret.MemoryForm := by
  unfold State.eret
  split <;> exact h.of_eq rfl

theorem execSdbbp (h : s.MemoryForm) (code : BitVec 20) : (Machine.execSdbbp code s).Formed := by
  unfold Machine.execSdbbp
  split
  · trivial
  · exact h.of_eq rfl

theorem execDeret (h : s.MemoryForm) : (Machine.execDeret s).Formed := by
  refine h.needs _ ?_
  split
  · exact noSlot_all s (h.of_eq rfl)
  · trivial

/-! ## Floating point -/

theorem fpTrap (h : s.MemoryForm) (cause : BitVec 6) : (fpTrap cause s).Formed :=
  raise (s := { s with fcr31 := _ }) (h.of_eq (by rfl)) _

theorem fpUnimplemented (h : s.MemoryForm) : (fpUnimplemented s).Formed := h.fpTrap _

theorem fpFinish (h : s.MemoryForm) (out : FpOut) {store : Nat → State → State}
    (hs : ∀ v t, (store v t).memoryParts = t.memoryParts) : (fpFinish out s store).Formed := by
  unfold Machine.fpFinish
  split
  · exact h.fpUnimplemented
  · split
    · exact h.fpTrap _
    · exact h.next (hs _ _)

/-- A result stored in a floating-point register, or Unimplemented Operation. -/
theorem fpResultOr (h : s.MemoryForm) (c : Prop) [Decidable c] (out : FpOut) (fmt : Fmt) (fd : FpRegNum) :
    Out.Formed (if c then Machine.fpUnimplemented s else Machine.fpFinish out s fun v t => t.fpStore fmt fd v) := by
  split
  · exact h.fpUnimplemented
  · exact h.fpFinish _ fun v t => t.fpStore_memoryParts fmt fd v

theorem fpBinary (h : s.MemoryForm) (op : FpFormat → FpRound → FpVal → FpVal → FpOut) (fmt : Fmt) (fd fs ft : FpRegNum) :
    (fpBinary op fmt fd fs ft s).Formed := by
  refine h.needs _ ?_
  split
  · exact h.fpUnimplemented
  · exact h.fpFinish _ fun v t => t.fpStore_memoryParts fmt fd v

theorem fpUnary (h : s.MemoryForm) (op : FpFormat → FpRound → Nat → FpVal → FpOut) (fmt : Fmt) (fd fs : FpRegNum) :
    (fpUnary op fmt fd fs s).Formed := by
  refine h.needs _ ?_
  split
  · exact h.fpUnimplemented
  · exact h.fpFinish _ fun v t => t.fpStore_memoryParts fmt fd v

theorem fpToWord (h : s.MemoryForm) (mode : Rounding) (fmt : Fmt) (fd fs : FpRegNum) : (fpToWord mode fmt fd fs s).Formed := by
  refine h.needs _ ?_
  split
  · exact h.fpUnimplemented
  · exact h.fpFinish _ fun v t => t.fpStore_memoryParts .w fd v

theorem fpToLong (h : s.MemoryForm) (mode : Rounding) (fmt : Fmt) (fd fs : FpRegNum) : (fpToLong mode fmt fd fs s).Formed := by
  refine h.needs _ ?_
  split
  · exact h.fpUnimplemented
  · split
    · exact h.fpFinish _ fun v t => t.fpStore_memoryParts .l fd v
    · exact h.fpUnimplemented

theorem fpCompare (h : s.MemoryForm) (cond : BitVec 4) (fmt : Fmt) (fs ft : FpRegNum) : (fpCompare cond fmt fs ft s).Formed := by
  refine h.needs _ ?_
  split
  · exact h.fpUnimplemented
  · exact h.fpFinish _ fun _ _ => rfl

theorem execMovFmt (h : s.MemoryForm) (fmt : Fmt) (fd fs : FpRegNum) : (Machine.execMovFmt fmt fd fs s).Formed := by
  refine h.needs _ ?_
  split
  · exact h.fpUnimplemented
  · exact h.next (State.fpStore_memoryParts ..)

theorem execCtc1 (h : s.MemoryForm) (rt : RegNum) (fs : FpRegNum) : (Machine.execCtc1 rt fs s).Formed := by
  refine h.needs _ ?_
  split
  · unfold writeFcr31
    split
    · exact raise (s := { s with fcr31 := _ }) (h.of_eq (by rfl)) _
    · exact h.of_eq rfl
  · exact h.advance

end State.MemoryForm

/-! ## Every instruction -/

/-- An instruction keeps the canonical form, by its shape. -/
theorem exec_formed {s : State} (h : s.MemoryForm) (i : Instr) : Out.Formed (exec i s) := by
  cases i with
  | lb | lbu | lh | lhu | lw => exact State.MemoryForm.loadGpr (h.load ..) ..
  | lwu | ld => exact h.wide (State.MemoryForm.loadGpr (h.load ..) ..)
  | lwl => exact h.execLwl ..
  | lwr => exact h.execLwr ..
  | ldl | ldr => exact h.wide (State.MemoryForm.loadGpr (h.loadFrom ..) ..)
  | sb | sh | sw => exact h.storeGpr _ _ _ (by decide)
  | sd => exact h.wide (h.storeGpr _ _ _ (by decide))
  | swl => exact h.storeUnaligned _ _ ((leftCount_le _ (by decide) _).trans (by decide)) _
  | swr => exact h.storeUnaligned _ _ ((rightCount_le ..).trans (by decide)) _
  | sdl => exact h.wide (h.storeUnaligned _ _ (leftCount_le _ (by decide) _) _)
  | sdr => exact h.wide (h.storeUnaligned _ _ (rightCount_le ..) _)
  | ll => exact h.loadLinked ..
  | lld => exact h.wide (h.loadLinked ..)
  | sc => exact h.storeConditional _ _ _ (by decide)
  | scd => exact h.wide (h.storeConditional _ _ _ (by decide))
  | addi | add | sub => exact h.overflowOr ..
  | daddi | dadd | dsub => exact h.wide (h.overflowOr ..)
  | addiu | slti | sltiu | andi | ori | xori | lui | addu | subu | slt | sltu | and | or | xor | nor
  | sll | srl | sra | sllv | srlv | srav | mfhi | mflo => exact h.setReg ..
  | daddiu | daddu | dsubu | dsll | dsrl | dsra | dsll32 | dsrl32 | dsra32 | dsllv | dsrlv | dsrav =>
    exact h.wide (h.setReg ..)
  | mult | multu | madd | maddu => exact State.MemoryForm.setReg (s := s.setHiLo _ _) (h.of_eq (by rfl)) ..
  | dmult | dmultu => exact h.wide (State.MemoryForm.setReg (s := s.setHiLo _ _) (h.of_eq (by rfl)) ..)
  | div | divu => exact h.quotientOr ..
  | ddiv | ddivu => exact h.wide (h.quotientOr ..)
  | mthi | mtlo => exact h.of_eq rfl
  | j | jr => exact noSlot_all s (h.of_eq rfl)
  | jal | jalr => exact noSlot_all s (h.of_eq (by simp))
  | beq | bne | blez | bgtz | bltz | bgez => exact h.branch ..
  | beql | bnel | blezl | bgtzl | bltzl | bgezl => exact h.branchLikely ..
  | bltzal | bgezal => exact State.MemoryForm.branch (s := s.setGpr _ _) (h.of_eq (by simp)) ..
  | bltzall | bgezall => exact State.MemoryForm.branchLikely (s := s.setGpr _ _) (h.of_eq (by simp)) ..
  | bc0f | bc0t | bc1f | bc1t => exact h.needs _ (h.branch ..)
  | bc0fl | bc0tl | bc1fl | bc1tl => exact h.needs _ (h.branchLikely ..)
  | syscall | brk => exact h.raise _
  | sdbbp code => exact h.execSdbbp code
  | sync => exact State.MemoryForm.elim h.flushed fun _ _ ht => ht.advance
  | tge | tgeu | tlt | tltu | teq | tne | tgei | tgeiu | tlti | tltiu | teqi | tnei => exact h.trapIf ..
  | lwc1 => exact h.needs _ (State.MemoryForm.loadFpr (h.load ..) s _ fun _ _ => by simp [State.memoryParts])
  | ldc1 => exact h.needs _ (State.MemoryForm.loadFpr (h.load ..) s _ fun _ _ => by simp [State.memoryParts])
  | swc1 | sdc1 => exact h.needs _ (h.storeAligned _ (by decide) _ fun _ ht => ht.advance)
  | mfc0 | cfc0 | mfc1 | cfc1 => exact h.needs _ (h.setReg ..)
  | dmfc0 | dmfc1 => exact h.wide (h.needs _ (h.setReg ..))
  | mtc0 => exact h.needs _ (h.next (State.writeCp0_memoryParts ..))
  | dmtc0 => exact h.wide (h.needs _ (h.next (State.writeCp0_memoryParts ..)))
  | ctc0 => exact h.needs _ h.advance
  | mtc1 => exact h.needs _ (h.of_eq (by simp))
  | dmtc1 => exact h.wide (h.needs _ (h.of_eq (by simp)))
  | ctc1 => exact h.execCtc1 ..
  | lwc2 | swc2 | ldc2 | sdc2 | mfc2 | cfc2 | mtc2 | ctc2 | cop2 | bc2f | bc2t | bc2fl | bc2tl
  | bc3f | bc3t | bc3fl | bc3tl => exact h.copAbsent _
  | dmfc2 | dmtc2 => exact h.wide (h.copAbsent _)
  | tlbr => exact h.execTlbr
  | tlbwi | tlbwr => exact h.needs _ (h.writeTlb _)
  | tlbp => exact h.execTlbp
  | eret => exact h.needs _ (noSlot_all s h.eret)
  | deret => exact h.execDeret
  | wait => exact h.needs _ (State.MemoryForm.elim h.flushed fun _ _ ht => ht.of_eq rfl)
  | cache => exact h.needs _ (State.MemoryForm.cacheThen (h.cacheOp ..) s)
  | pref => exact h.advance
  | addFmt | subFmt | mulFmt | divFmt => exact h.fpBinary ..
  | sqrtFmt => exact h.fpUnary (fun f c _ a => f.sqrt c a) ..
  | absFmt => exact h.fpUnary (fun f _ x _ => .exact (f.abs x)) ..
  | negFmt => exact h.fpUnary (fun f _ x _ => .exact (f.neg x)) ..
  | movFmt => exact h.execMovFmt ..
  | roundLFmt | truncLFmt | ceilLFmt | floorLFmt | cvtLFmt => exact h.fpToLong ..
  | roundWFmt | truncWFmt | ceilWFmt | floorWFmt | cvtWFmt => exact h.fpToWord ..
  | cvtSFmt | cvtDFmt => exact h.needs _ (h.fpResultOr ..)
  | cFFmt | cUnFmt | cEqFmt | cUeqFmt | cOltFmt | cUltFmt | cOleFmt | cUleFmt | cSfFmt | cNgleFmt | cSeqFmt | cNglFmt
  | cLtFmt | cNgeFmt | cLeFmt | cNgtFmt => exact h.fpCompare ..

end Sys2Proof.Machine
end

section
/-! SUPPORT. Every step keeps the canonical form of memory, the caches and the write buffer (O4): the word that runs, the tick, a
SoftReset with its free caches, the other events from outside; and the step itself. -/

namespace Sys2Proof.Machine

/-! ## Events from outside -/

/-- A SoftReset keeps some of the pending writes, overwrites bytes of memory and leaves the caches free (70_reset_and_hazards.md
R756). -/
theorem softReset_formed {s : State} (h : s.MemoryForm) (spoiled : List (PAddr × Byte)) : (softReset spoiled s).MemoryForm := by
  obtain ⟨hm, -, -, hl, hb⟩ := h
  refine ⟨spoilBytes_wf spoiled hm, freeCacheState_wf .., freeCacheState_wf .., ?_, fun e he => ?_⟩
  · dsimp only [softReset]
    rw [List.length_map]
    exact (List.length_filter_le ..).trans (by simpa using hl)
  · obtain ⟨p, hp, rfl⟩ := List.mem_map.1 he
    exact hb _ (List.fst_mem_of_mem_zipIdx (List.mem_filter.1 hp).1)

theorem coldReset_formed {s : State} (h : s.MemoryForm) (pins : Straps) : (coldReset pins s).MemoryForm :=
  ⟨h.1, Cache.wf_empty, Cache.wf_empty, Nat.zero_le 4, fun _ he => absurd he List.not_mem_nil⟩

theorem hold_formed (w : Word) {o : Out} (h : o.Formed) : (hold w o).Formed := by
  unfold hold
  split
  · next t =>
    have ht : t.MemoryForm := h
    dsimp only [Out.Formed, Out.all]
    split
    · exact ht.of_eq rfl
    · exact ht
  · exact h

namespace State.MemoryForm

variable {s : State}

theorem applyEvent (h : s.MemoryForm) (e : ExtEvent) : (applyEvent e s).MemoryForm := by
  cases e with
  | run => exact h
  | softReset spoiled => exact softReset_formed h spoiled
  | coldReset pins => exact coldReset_formed h pins
  | dmaWrite pa b =>
    obtain ⟨hm, hrest⟩ := h
    exact ⟨Memory.set_wf pa b hm, hrest⟩
  | debugBreak k =>
    dsimp only [Machine.applyEvent, debugBreak]
    split
    · exact h.of_eq rfl
    · exact h
  | setIntPins | setNmiPin | extWrite | setWriteHold | setErrors | setUnanswered | setLateErrors | busErrorArrives
  | setStoreErrors | setReadAhead => exact h.of_eq rfl

/-! ## The word that runs -/

theorem execReject (h : s.MemoryForm) (r : Reject) : (execReject r s).Formed := by
  cases r with
  | reserved | short => exact h.raise _
  | copReserved z => exact h.needs _ (h.raise _)
  | cop0Nop => exact h.needs _ h.advance
  | fpuUnimplemented => exact h.needs _ h.fpUnimplemented

theorem execWord (h : s.MemoryForm) (w : Word) : (execWord w s).Formed := by
  unfold Machine.execWord
  split
  · exact exec_formed h _
  · exact h.execReject _

theorem runInterrupted (h : s.MemoryForm) (w : Word) : (runInterrupted w s).Formed := by
  have hp : s.prepared.MemoryForm := h.of_eq rfl
  unfold Machine.runInterrupted
  split
  · exact h.of_eq rfl
  · split
    · next t ht =>
      split
      · exact Out.all_next (hp.execWord w) ht
      · exact h.of_eq rfl
    · exact h.of_eq rfl

theorem runInstr (h : s.MemoryForm) (w : Word) : (runInstr w s).Formed := by
  have hp : s.prepared.MemoryForm := h.of_eq rfl
  unfold Machine.runInstr
  split
  · exact h.runInterrupted w
  · exact hold_formed w (hp.execWord w)

theorem lateErrorAt {t : State} (h : s.MemoryForm) {w : Word} (ht : lateErrorAt w s = some t) : t.MemoryForm := by
  obtain ⟨e, -, ⟨-, rfl⟩ | rfl⟩ := lateErrorAt_some ht
  · exact h.settleLate.of_eq rfl
  · exact h.settleLate

theorem afterLateError (h : s.MemoryForm) (w : Word) {k : State → Out} (hk : ∀ t, t.MemoryForm → (k t).Formed) :
    (afterLateError w s k).Formed := by
  rcases afterLateError_cases w s k with ⟨-, he⟩ | ⟨t, ht, ⟨-, he⟩ | ⟨-, -, he⟩ | ⟨-, -, he⟩⟩ <;> rw [he]
  · exact hk s h
  · exact hk (s.settleLate.flagMasked _) (h.settleLate.of_eq rfl)
  · exact h.settleLate.of_eq rfl
  · exact (h.lateErrorAt ht).of_eq rfl

theorem enterDebug (h : s.MemoryForm) (bits : BitVec 32) : (enterDebug bits s).MemoryForm := by
  unfold Machine.enterDebug
  split
  · exact h.settleLate.of_eq rfl
  · split <;> exact h.of_eq rfl

theorem runWord (h : s.MemoryForm) (w : Word) : (runWord w s).Formed := by
  unfold Machine.runWord
  split
  · exact h.enterDebug _
  · exact h.afterLateError w fun _ ht => ht.runInstr w

theorem resume (h : s.MemoryForm) (w : Word) : (resume w s).Formed :=
  h.afterLateError w fun _ ht => hold_formed w (ht.execWord w)

theorem afterDebug (h : s.MemoryForm) {o : Out} (ho : o.Formed) : (afterDebug s o).Formed := by
  unfold Machine.afterDebug
  split
  · exact h.enterDebug _
  · exact ho

theorem runPc (h : s.MemoryForm) : (runPc s).Formed := by
  have hf := h.fetchWord
  unfold Machine.runPc
  split
  · next w t ht => exact (Res.all_ok hf ht).runWord w
  · next x t ht =>
    have ht := Res.all_exc hf ht
    split
    · exact ht.runWord _
    · split
      · exact ht.of_eq rfl
      · exact ht.raise x
  · next t ht => exact (Res.all_stall hf ht).of_eq rfl
  · exact h.afterDebug trivial
  · exact h.afterDebug trivial

theorem runNmi (h : s.MemoryForm) : (runNmi s).MemoryForm := by
  unfold Machine.runNmi
  split
  · exact h.of_eq rfl
  · split <;> exact h.of_eq rfl

theorem runStalledNmi (h : s.MemoryForm) : (runStalledNmi s).Formed := by
  have hf := h.fetchWord
  unfold Machine.runStalledNmi
  split
  · next ht => exact (Res.all_ok hf ht).runNmi
  · next ht => exact (Res.all_exc hf ht).runNmi
  · next t ht => exact (Res.all_stall hf ht).of_eq rfl
  · exact h.runNmi
  · exact h.runNmi

theorem runProcessor (h : s.MemoryForm) : (runProcessor s).Formed := by
  have hu : s.unstalled.MemoryForm := h.of_eq rfl
  unfold Machine.runProcessor
  split
  · dsimp only [Out.Formed, Out.all]
    split
    · exact h.of_eq rfl
    · exact h
  · split
    · exact hu.resume _
    · split
      · split
        · exact hu.runStalledNmi
        · exact hu.runNmi
      · exact hu.runPc

/-! ## The step -/

/-- Beside the instructions the buffer gives its oldest entry. -/
theorem tick (h : s.MemoryForm) : (tick s).MemoryForm := by
  have ht : (tickTimeout (tickCount s.params.countPerInstr s)).MemoryForm := h.of_eq rfl
  unfold Machine.tick
  rcases tickBuffer_cases (tickTimeout (tickCount s.params.countPerInstr s)) with hb | hb <;> rw [hb]
  · exact ht
  · exact ht.drainOne

theorem processorStep (h : s.MemoryForm) : (processorStep s).Formed := by
  have hr := h.tick.runProcessor
  unfold Machine.processorStep ended
  split
  · next t ht => exact of_eq (s := t) (Out.all_next hr ht) rfl
  · exact hr

end State.MemoryForm

theorem step_formed {s : State} (h : s.MemoryForm) : (step s).Formed := by
  unfold step cycle
  split
  · exact h.processorStep
  · exact State.MemoryForm.processorStep (s := { s with env := _ }) (h.of_eq (by rfl))
  · exact State.MemoryForm.applyEvent (s := { s with env := _ }) (h.of_eq (by rfl)) _

/-- Settles O4: each memory operation keeps the canonical form, and nothing else in a step touches memory, the caches or the write
buffer but the tick, which drains the buffer, DMA and the resets. -/
theorem stepKeepsMemoryForm : Obligations.StepKeepsMemoryForm :=
  fun _ _ h hst => Out.all_next (step_formed h) hst

end Sys2Proof.Machine
end

section
/-! SUPPORT. SYNC (O30), and the fetch past the instruction cache (O10): the words it reads and reads ahead are those of memory, in
the byte order of Config.BE (20_memory.md R123, R162, R164, R167; 44_special_trap.md R421). -/

namespace Sys2Proof.Machine

/-! ## SYNC -/

/-- While no writes go out the processor waits with what is in the buffer. -/
theorem State.flushed_of_held {s : State} (hw : s.wbuf ≠ []) (hg : s.writesGo = false) : s.flushed = .stall s.awaitWrites := by
  unfold State.flushed
  split
  · contradiction
  · simp [hg]

/-- Settles O30: SYNC is the emptying of the buffer, which either happens or stalls. -/
theorem syncEmptiesBuffer : Obligations.SyncEmptiesBuffer := by
  have hexec (s : State) : exec .sync s = s.flushed.elim fun _ t => .next t.advance := rfl
  refine fun s => ⟨fun h => ?drains, fun hw hg => ?waits⟩
  case drains =>
    have he : exec .sync s = .next s.drainAll.advance := by rw [hexec, State.flushed_of h]; rfl
    exact ⟨_, he, rfl, fun _ => rfl, ⟨rfl, rfl⟩, rfl⟩
  case waits =>
    have he : exec .sync s = .next s.awaitWrites.stall := by rw [hexec, State.flushed_of_held hw hg]; rfl
    exact ⟨_, he, rfl, rfl, rfl⟩

/-! ## Words and pages -/

theorem low32_toNat (x : DWord) : (low32 x).toNat = x.toNat % 2 ^ 32 := by simp [low32]

/-- Four bytes are a word. -/
theorem low32_assemble_toNat (be : Bool) {l : List Byte} (h : l.length = 4) :
    (low32 (assemble be l)).toNat = bytesNat (if be then l.reverse else l) := by
  have hlt := bytesNat_lt (if be then l.reverse else l)
  have hlen : (if be then l.reverse else l).length = 4 := by split <;> simp [h]
  rw [hlen] at hlt
  rw [low32_toNat, assemble_toNat be l (by omega), Nat.mod_eq_of_lt (by omega)]

/-- The word that a fetch reads. -/
theorem low32_assemble_getBytes (s : State) (pa : PAddr) :
    (low32 (assemble s.be (Memory.getBytes s.mem pa 4))).toNat = memoryWord s pa := by
  rw [low32_assemble_toNat _ (by simp [Memory.getBytes_eq]), Memory.getBytes_eq]
  rfl

theorem tagOf_toNat (pa : PAddr) : (tagOf pa).toNat = pa.toNat / 2 ^ 12 := by
  have := pa.isLt
  simp only [tagOf, BitVec.extractLsb'_toNat, Nat.shiftRight_eq_div_pow]
  omega

/-! ## The fetch past the cache -/

theorem State.fetchWord_of_misaligned {s : State} (h : s.pc.toNat % 4 ≠ 0) :
    s.fetchWord = .exc (.addressError .fetch s.pc) s := by simp [State.fetchWord, aligned, h]

theorem State.fetchWord_of_translate_exc {s : State} {x : Exc} (ha : s.pc.toNat % 4 = 0) (h : s.translate .fetch s.pc = .exc x s) :
    s.fetchWord = .exc x s := by simp [State.fetchWord, aligned, ha, h, Res.bind]

theorem State.fetchWord_of_pastCache {s : State} {pa : PAddr} (h : s.pastCache .fetch s.pc pa) (ha : s.pc.toNat % 4 = 0) :
    s.fetchWord = s.fetchUncached pa := by
  obtain ⟨hc, attr, ht, hu⟩ := h
  have hu : attr = attrUncached ∨ s.icacheOff = true := hu
  simp [State.fetchWord, aligned, ha, ht, hu, hc]

/-- An uncached fetch of a word not read ahead, no write pending, answered with an error: a late bus error has then arrived. -/
theorem State.fetchUncached_error {s : State} {pa : PAddr} (ha : s.ahead.lookup pa = none) (hw : s.wbuf = [])
    (hr : s.readAnswer [pa.toNat / 8] = .error) : s.fetchUncached pa = .exc .busErrorFetch s.errorArrives := by
  have hr' : s.errorArrives.readAnswer [pa.toNat / 8] = .error := hr
  have hw' : s.errorArrives.wbuf = [] := hw
  rw [State.fetchUncached, ha, State.uncachedRead, State.busIdle_fetch]
  simp [State.flushedFor, hw', hr']
  rfl

/-- An uncached fetch that succeeds, no write pending, reads on from the state it began in, or from that with the late bus error
arrived. -/
theorem State.fetchUncached_ok {s t : State} {pa : PAddr} {w : Word} (hw : s.wbuf = []) (h : s.fetchUncached pa = .ok w t) :
    t = s.readOn pa ∨ t = s.errorArrives.readOn pa := by
  unfold State.fetchUncached at h
  split at h
  · cases h
    exact .inl rfl
  · refine .inr ?_
    have hw' : s.errorArrives.wbuf = [] := hw
    simp only [State.uncachedRead, State.busIdle_fetch, Res.ok_bind, if_true, State.flushedFor, hw', List.any_nil, Bool.false_eq_true,
      if_false] at h
    cases hr : s.errorArrives.readAnswer [pa.toNat / 8] <;> rw [hr] at h <;> cases h
    rfl

/-- A word read ahead was so before, or it is now that of memory, in the page of the fetch. -/
theorem State.mem_readOn {s : State} {pa : PAddr} {p : PAddr × Word} (h : p ∈ (s.readOn pa).ahead) :
    p ∈ s.ahead ∨ (p.1.toNat / 2 ^ 12 = pa.toNat / 2 ^ 12 ∧ p.2.toNat = memoryWord s p.1) := by
  rcases List.mem_append.1 h with h | h
  · exact .inl (List.mem_filter.1 h).1
  · obtain ⟨a, ha, rfl⟩ := List.mem_map.1 h
    have hpage : tagOf a = tagOf pa := by
      simp only [List.mem_filter, Bool.and_eq_true, beq_iff_eq] at ha
      obtain ⟨-, ⟨⟨⟨⟨-, htag⟩, -⟩, -⟩, -⟩, -⟩ := ha
      exact htag
    exact .inr ⟨by rw [← tagOf_toNat, ← tagOf_toNat, hpage], low32_assemble_getBytes s a⟩

/-- Settles O10: the fetch is one of `fetchUncached`, by the word read ahead, by memory or by the bus error, and what is added to the
words read ahead is memory's. -/
theorem fetchPastCache : Obligations.FetchPastCache := by
  refine ⟨fun s => State.fetchWord_of_misaligned, fun s x => State.fetchWord_of_translate_exc, fun s pa hp ha => ?_⟩
  rw [State.fetchWord_of_pastCache hp ha]
  refine ⟨fun hl hw hr => ?reads, fun hl hw hr => ?fails, fun w hl => ⟨_, State.fetchUncached_ahead hl⟩, fun w t hw ht => ?leaves⟩
  case reads => exact ⟨_, _, State.fetchUncached_memory hl hw hr, low32_assemble_getBytes s pa⟩
  case fails => exact ⟨_, State.fetchUncached_error hl hw hr, .inr rfl⟩
  case leaves =>
    rcases State.fetchUncached_ok hw ht with rfl | rfl
    · exact ⟨.inl rfl, fun p hp => State.mem_readOn hp⟩
    · exact ⟨.inr rfl, fun p hp => State.mem_readOn (s := s.errorArrives) hp⟩

end Sys2Proof.Machine
end

section
/-! SUPPORT. The translation of a mapped address (O42): the entries that match it, the page sizes, the page of the pair and the
physical address under it (20_memory.md R143 to R145). -/

namespace Sys2Proof.Machine

/-! ## The entries that match -/

/-- Two values agree outside a mask exactly when each bit that the mask does not cover does. -/
theorem and_not_eq_iff {n m : Nat} (mask : BitVec m) (x y : BitVec n) :
    x &&& ~~~(mask.setWidth n) = y &&& ~~~(mask.setWidth n) ↔
      ∀ b, b < n → (b < m → mask.getLsbD b = false) → x.getLsbD b = y.getLsbD b := by
  have hbit (z : BitVec n) {b : Nat} (hb : b < n) :
      (z &&& ~~~(mask.setWidth n)).getLsbD b = (z.getLsbD b && !mask.getLsbD b) := by simp [hb]
  constructor
  · intro h b hb hm
    have hmask : mask.getLsbD b = false := by
      by_cases hbm : b < m
      · exact hm hbm
      · exact BitVec.getLsbD_of_ge _ _ (by omega)
    have := congrArg (·.getLsbD b) h
    simpa only [hbit _ hb, hmask, Bool.not_false, Bool.and_true] using this
  · intro h
    refine BitVec.eq_of_getLsbD_eq fun b hb => ?_
    rw [hbit x hb, hbit y hb]
    cases hm : mask.getLsbD b with
    | true => simp
    | false => rw [h b hb fun _ => hm]

/-- The match of R145 step 3, bit by bit. -/
theorem matchesKey_iff (s : State) (e : TlbEntry) (key : DWord) :
    matchesKey s e key ↔ e.matchesKey (key.extractLsb' 62 2) (key.extractLsb' 13 27) s.asid = true := by
  have hasid : e.asid = s.asid ↔ e.asid.toNat = s.cp0.entryHi.toNat % 2 ^ 8 := by
    rw [← BitVec.toNat_inj]
    simp [State.asid]
  have hvpn : (∀ b, b < 27 → (b < 12 → e.mask.getLsbD b = false) → e.vpn2.getLsbD b = key.getLsbD (13 + b)) ↔
      ∀ b, b < 27 → (b < 12 → e.mask.getLsbD b = false) → (key.extractLsb' 13 27).getLsbD b = e.vpn2.getLsbD b := by
    refine forall₂_congr fun b hb => imp_congr_right fun _ => ?_
    simp only [BitVec.getLsbD_extractLsb', hb, decide_true, Bool.true_and]
    exact eq_comm
  simp only [TlbEntry.matchesKey, Bool.and_eq_true, Bool.or_eq_true, beq_iff_eq, hasid, and_not_eq_iff, ← hvpn, and_assoc, matchesKey]

theorem State.mem_tlbMatches {s : State} {va : DWord} {i : Fin 48} :
    i ∈ s.tlbMatches (va.extractLsb' 62 2) (va.extractLsb' 13 27) ↔ matchesKey s s.tlb[i.val] va := by
  simp [State.tlbMatches, matchesKey_iff]

theorem State.tlbMatches_nodup (s : State) (r : BitVec 2) (vpn2 : BitVec 27) : (s.tlbMatches r vpn2).Nodup :=
  (List.nodup_finRange 48).filter _

/-- A list without repetitions that holds one element alone. -/
theorem eq_singleton_of_nodup {α : Type} {l : List α} {a : α} (hn : l.Nodup) (ha : a ∈ l) (h : ∀ b ∈ l, b = a) : l = [a] :=
  List.perm_singleton.1 ((List.perm_ext_iff_of_nodup hn (List.nodup_singleton a)).2 fun b =>
    ⟨fun hb => List.mem_singleton.2 (h b hb), fun hb => List.mem_singleton.1 hb ▸ ha⟩)

section Translation

variable {s : State} {va : DWord} (k : AccessKind)

theorem State.tlbTranslate_of_none (cd : Bool) (h : ∀ j : Fin 48, ¬matchesKey s s.tlb[j.val] va) :
    s.tlbTranslate k cd va = .exc (.tlbRefill k va) s := by
  have hl : s.tlbMatches (va.extractLsb' 62 2) (va.extractLsb' 13 27) = [] :=
    List.eq_nil_iff_forall_not_mem.2 fun j hj => h j (State.mem_tlbMatches.1 hj)
  simp only [State.tlbTranslate, hl]

theorem State.tlbTranslate_of_several (cd : Bool) {i j : Fin 48} (hij : i ≠ j) (hi : matchesKey s s.tlb[i.val] va)
    (hj : matchesKey s s.tlb[j.val] va) : s.tlbTranslate k cd va = .refuse .tlbMultiMatch := by
  have hi := State.mem_tlbMatches.2 hi
  have hj := State.mem_tlbMatches.2 hj
  unfold State.tlbTranslate
  split
  · next hl => simp [hl] at hi
  · next m hl =>
    rw [hl, List.mem_singleton] at hi hj
    exact absurd (hi.trans hj.symm) hij
  · rfl

/-- With one entry that matches, its page decides (R145 steps 4 to 8). -/
theorem State.tlbTranslate_of_one (cd : Bool) {i : Fin 48} (hi : matchesKey s s.tlb[i.val] va)
    (h : ∀ j : Fin 48, j ≠ i → ¬matchesKey s s.tlb[j.val] va) :
    s.tlbTranslate k cd va =
      if !legalMask s.tlb[i.val].mask then .refuse .tlbBadMask
      else if !(s.tlb[i.val].page va).v then .exc (.tlbInvalid k va) s
      else if k = .store && cd && !(s.tlb[i.val].page va).d then .exc (.tlbModified va) s
      else .ok { pa := s.tlb[i.val].physAddr va, attr := (s.tlb[i.val].page va).c } s := by
  have hl : s.tlbMatches (va.extractLsb' 62 2) (va.extractLsb' 13 27) = [i] :=
    eq_singleton_of_nodup (s.tlbMatches_nodup ..) (State.mem_tlbMatches.2 hi) fun j hj =>
      not_not.1 fun hne => h j hne (State.mem_tlbMatches.1 hj)
  simp only [State.tlbTranslate, hl]

end Translation

/-! ## The page -/

/-- The page sizes: each MASK with its number of offset bits (11_cp0_registers.md R68, 20_memory.md R143). -/
def pageSizes : List (Nat × Nat) :=
  [(0x000, 12), (0x003, 14), (0x00F, 16), (0x03F, 18), (0x0FF, 20), (0x3FF, 22), (0xFFF, 24)]

theorem mem_pageSizes (m : BitVec 12) (n : Nat) : (m.toNat, n) ∈ pageSizes ↔ legalMask m = true ∧ n = pageBits m := by
  constructor
  · intro h
    have key : ∀ p ∈ pageSizes, legalMask (BitVec.ofNat 12 p.1) = true ∧ p.2 = pageBits (BitVec.ofNat 12 p.1) := by decide
    simpa using key _ h
  · rintro ⟨hm, rfl⟩
    simp only [legalMask, Bool.or_eq_true, beq_iff_eq, or_assoc] at hm
    rcases hm with rfl | rfl | rfl | rfl | rfl | rfl | rfl <;> decide

theorem getLsbD_iff_div (x : DWord) (n : Nat) : x.getLsbD n = true ↔ x.toNat / 2 ^ n % 2 = 1 := by
  rw [← BitVec.testBit_toNat, Nat.testBit_eq_decide_div_mod_eq, decide_eq_true_iff]

/-- The page of the pair goes by the address bit above the offset. -/
theorem TlbEntry.page_eq (e : TlbEntry) (a : DWord) :
    e.page a = if a.toNat / 2 ^ pageBits e.mask % 2 = 1 then e.odd else e.even := by
  simp only [TlbEntry.page, getLsbD_iff_div]

/-- The physical address is the page frame over the offset bits of the address (20_memory.md R144). -/
theorem TlbEntry.physAddr_toNat (e : TlbEntry) (a : DWord) :
    (e.physAddr a).toNat =
      (e.page a).pfn.toNat * 2 ^ 12 / 2 ^ pageBits e.mask * 2 ^ pageBits e.mask + a.toNat % 2 ^ pageBits e.mask := by
  have hmask : ∀ n ∈ [12, 14, 16, 18, 20, 22, 24], ∀ i, i < 36 → ((1#36 <<< n) - 1#36).getLsbD i = decide (i < n) := by decide
  have hn := pageBits_mem e.mask
  have hframe : (e.page a).pfn.toNat * 2 ^ 12 = ((e.page a).pfn ++ 0#12).toNat := by
    rw [BitVec.toNat_append, Nat.shiftLeft_eq, BitVec.toNat_ofNat, Nat.zero_mod, Nat.or_zero]
  unfold TlbEntry.physAddr
  generalize pageBits e.mask = n at hn hmask ⊢
  dsimp only
  rw [hframe]
  refine Nat.eq_of_testBit_eq fun i => ?_
  rw [Nat.mul_comm, Nat.testBit_two_pow_mul_add _ (Nat.mod_lt _ (Nat.two_pow_pos n)), Nat.testBit_div_two_pow, Nat.testBit_mod_two_pow,
    BitVec.testBit_toNat, BitVec.testBit_toNat, BitVec.testBit_toNat]
  by_cases hi : i < 36
  · simp only [BitVec.getLsbD_or, BitVec.getLsbD_and, BitVec.getLsbD_not, BitVec.getLsbD_extractLsb', hmask n hn i hi, hi]
    by_cases hin : i < n
    · simp [hin]
    · simp [hin, show i - n + n = i by omega]
  · have hin : ¬i < n := by
      simp only [List.mem_cons, List.not_mem_nil, or_false] at hn
      omega
    rw [BitVec.getLsbD_of_ge _ _ (by omega), if_neg hin, BitVec.getLsbD_of_ge _ _ (by omega)]

/-! ## The translation -/

theorem getLsbD_two_iff : ∀ c : BitVec 3, c.getLsbD 2 = true ↔ 4 ≤ c.toNat := by decide

/-- In a mapped segment the TLB translates, and reserved attributes stop (R145, U8). -/
theorem State.translate_of_mapped {s : State} {va : DWord} (k : AccessKind) (h : s.segment? va = some .mapped) :
    s.translate k va =
      (s.tlbTranslate k true va).bind fun p s => if p.attr.getLsbD 2 then .refuse .reservedCacheAttr else .ok p s := by
  simp only [State.translate, State.translateWith, h]

/-- Settles O42: by how many entries match, and for one by its mask, V, D and C in turn. -/
theorem mappedTranslation : Obligations.MappedTranslation := by
  intro s k va hseg
  rw [State.translate_of_mapped k hseg]
  refine ⟨fun h => ?_, fun i j hij hi hj => ?_, fun i hi h => ?_⟩
  · rw [State.tlbTranslate_of_none k true h]; rfl
  · rw [State.tlbTranslate_of_several k true hij hi hj]; rfl
  · rw [State.tlbTranslate_of_one k true hi h]
    refine ⟨fun hm => ?badMask, fun n hn => ?page⟩
    case badMask =>
      have hm : legalMask s.tlb[i.val].mask = false := by
        by_contra hl
        exact hm _ ((mem_pageSizes _ _).2 ⟨by simpa using hl, rfl⟩)
      simp [hm, Res.bind]
    case page =>
      obtain ⟨hm, rfl⟩ := (mem_pageSizes _ n).1 hn
      have hpa := s.tlb[i.val].physAddr_toNat va
      rw [← TlbEntry.page_eq]
      simp only [hm, Bool.not_true, Bool.false_eq_true, if_false]
      have hdirty (hd : k = .store → (s.tlb[i.val].page va).d = true) :
          ¬(decide (k = .store) && true && !(s.tlb[i.val].page va).d) = true := by
        by_cases hk : k = .store <;> simp [hk, hd]
      refine ⟨fun hv => ?_, fun hv hk hd => ?_, fun hv hd hc => ?_, fun hv hd hc => ⟨_, ?_, hpa⟩⟩
      · simp [hv, Res.bind]
      · simp [hv, hk, hd, Res.bind]
      · rw [if_neg (by simp [hv]), if_neg (hdirty hd), Res.ok_bind, if_pos ((getLsbD_two_iff _).2 hc)]
      · rw [if_neg (by simp [hv]), if_neg (hdirty hd), Res.ok_bind, if_neg fun h => Nat.not_le.2 hc ((getLsbD_two_iff _).1 h)]

end Sys2Proof.Machine
end

section
/-! SUPPORT. The segments of the three modes as ranges of addresses (O43), under 32-bit and 64-bit addressing (20_memory.md R127 to
R134, R139). -/

namespace Sys2Proof.Machine

/-! ## Fields of an address as numbers -/

theorem extractLsb'_eq_iff {n : Nat} (a : BitVec n) (k w : Nat) (c : BitVec w) :
    a.extractLsb' k w = c ↔ a.toNat / 2 ^ k % 2 ^ w = c.toNat := by
  rw [← BitVec.toNat_inj, BitVec.extractLsb'_toNat, Nat.shiftRight_eq_div_pow]

/-- Low bits of an address, widened to a physical address. -/
theorem low_setWidth_eq_ofNat (a : DWord) (w : Nat) : ((a.extractLsb' 0 w).setWidth 36 : PAddr) = BitVec.ofNat 36 (a.toNat % 2 ^ w) := by
  apply BitVec.eq_of_toNat_eq
  simp

theorem low36_eq_ofNat (a : DWord) : a.extractLsb' 0 36 = BitVec.ofNat 36 a.toNat := by
  apply BitVec.eq_of_toNat_eq
  simp

/-- The sign extensions of words are the lowest and the highest 2 GB (R127). -/
theorem signExtended32_iff (a : DWord) : signExtended32 a = true ↔ a.toNat < 2 ^ 31 ∨ 0xFFFFFFFF80000000 ≤ a.toNat := by
  have ha := a.isLt
  rw [signExtended32, beq_iff_eq, ← BitVec.toNat_inj, BitVec.toNat_signExtend, BitVec.msb_eq_decide]
  simp only [BitVec.toNat_setWidth, BitVec.extractLsb'_toNat, Nat.shiftRight_zero, decide_eq_true_eq]
  split <;> omega

/-! ## The ranges of each mode -/

section Ranges

variable (a : DWord)

theorem segUser_wide : segUser true a = if a.toNat < 2 ^ 40 then .mapped else .addressError := by
  have ha := a.isLt
  simp only [segUser, if_true, extractLsb'_eq_iff]
  exact if_congr (by norm_num; omega) rfl rfl

theorem segUser_narrow (h : signExtended32 a = true) :
    segUser false a = if a.toNat < 2 ^ 31 then .mapped else .addressError := by
  have ha := a.isLt
  have h := (signExtended32_iff a).1 h
  simp only [segUser, Bool.false_eq_true, if_false, getLsbD_iff_div]
  split_ifs <;> first | omega | rfl

theorem segSupervisor_wide :
    segSupervisor true a =
      if a.toNat < 2 ^ 40 then .mapped else if a.toNat < 2 ^ 62 then .addressError
      else if a.toNat < 2 ^ 62 + 2 ^ 40 then .mapped else if a.toNat < 0xFFFFFFFFC0000000 then .addressError
      else if a.toNat < 0xFFFFFFFFE0000000 then .mapped else .addressError := by
  have ha := a.isLt
  simp only [segSupervisor, if_true, extractLsb'_eq_iff, Bool.and_eq_true, Bool.or_eq_true, decide_eq_true_eq, BitVec.toNat_ofNat]
  split_ifs <;> first | omega | rfl

theorem segSupervisor_narrow (h : signExtended32 a = true) :
    segSupervisor false a =
      if a.toNat < 2 ^ 31 then .mapped else if a.toNat < 0xFFFFFFFFC0000000 then .addressError
      else if a.toNat < 0xFFFFFFFFE0000000 then .mapped else .addressError := by
  have ha := a.isLt
  have h := (signExtended32_iff a).1 h
  simp only [segSupervisor, Bool.false_eq_true, if_false, extractLsb'_eq_iff, Bool.or_eq_true, Bool.not_eq_true', decide_eq_true_eq,
    ← Bool.not_eq_true, getLsbD_iff_div, BitVec.toNat_ofNat]
  split_ifs <;> first | omega | rfl

/-- kseg0, kseg1, ksseg, kseg3 and the reserved range within it. -/
theorem segCompat_of_top (k0 : BitVec 3) (h : 0xFFFFFFFF80000000 ≤ a.toNat) :
    segCompat k0 a =
      if a.toNat < 0xFFFFFFFFA0000000 then .unmapped (BitVec.ofNat 36 (a.toNat % 2 ^ 29)) k0
      else if a.toNat < 0xFFFFFFFFC0000000 then .unmapped (BitVec.ofNat 36 (a.toNat % 2 ^ 29)) attrUncached
      else if a.toNat < 0xFFFFFFFFFF000000 then .mapped
      else if a.toNat < 0xFFFFFFFFFF400000 then .unmapped (BitVec.ofNat 36 a.toNat) attrUncached
      else .mapped := by
  have ha := a.isLt
  simp only [segCompat, extractLsb'_eq_iff, BitVec.toNat_ofNat, low_setWidth_eq_ofNat, low36_eq_ofNat]
  split_ifs <;> first | omega | rfl

theorem segKernel_narrow (erl : Bool) (k0 : BitVec 3) (h : signExtended32 a = true) :
    segKernel false erl k0 a =
      if a.toNat < 2 ^ 31 then (if erl then .unmapped (BitVec.ofNat 36 (a.toNat % 2 ^ 31)) attrUncached else .mapped) else segCompat k0 a := by
  have ha := a.isLt
  have h := (signExtended32_iff a).1 h
  simp only [segKernel, Bool.false_eq_true, if_false, getLsbD_iff_div, low_setWidth_eq_ofNat]
  split_ifs <;> first | omega | rfl

/-- Bits 63:62 name the quarter of the address space. -/
theorem region_eq (r : BitVec 2) (h : r.toNat * 2 ^ 62 ≤ a.toNat) (h' : a.toNat < (r.toNat + 1) * 2 ^ 62) :
    a.extractLsb' 62 2 = r := by
  have ha := a.isLt
  rw [extractLsb'_eq_iff]
  omega

variable (erl : Bool) (k0 : BitVec 3)

theorem segKernel_xkuseg (h : a.toNat < 2 ^ 62) :
    segKernel true erl k0 a =
      if a.toNat < 2 ^ 40 then
        (if erl = true ∧ a.toNat < 2 ^ 31 then .unmapped (BitVec.ofNat 36 a.toNat) attrUncached else .mapped)
      else .addressError := by
  have h40 : a.extractLsb' 40 22 = 0#22 ↔ a.toNat < 2 ^ 40 := by
    rw [extractLsb'_eq_iff, BitVec.toNat_ofNat]
    omega
  have h31 : a.extractLsb' 31 33 = 0#33 ↔ a.toNat < 2 ^ 31 := by
    rw [extractLsb'_eq_iff, BitVec.toNat_ofNat]
    omega
  simp only [segKernel, if_true, region_eq a 0#2 (by simp) (by simpa using h), ne_eq, ite_not, h40, h31, low36_eq_ofNat,
    Bool.and_eq_true, decide_eq_true_eq]

theorem segKernel_xksseg (h : 2 ^ 62 ≤ a.toNat) (h' : a.toNat < 2 ^ 63) :
    segKernel true erl k0 a = if a.toNat < 2 ^ 62 + 2 ^ 40 then .mapped else .addressError := by
  simp only [segKernel, if_true, BitVec.reduceEq, if_false, region_eq a 1#2 (by simpa using h) (by simpa using h'), extractLsb'_eq_iff, BitVec.toNat_ofNat]
  split_ifs <;> first | omega | rfl

theorem segKernel_xkphys (h : 2 ^ 63 ≤ a.toNat) (h' : a.toNat < 2 ^ 63 + 2 ^ 62) :
    segKernel true erl k0 a =
      if a.toNat % 2 ^ 59 < 2 ^ 36 then .unmapped (BitVec.ofNat 36 a.toNat) (a.extractLsb' 59 3) else .addressError := by
  simp only [segKernel, if_true, BitVec.reduceEq, if_false, region_eq a 2#2 (by simpa using h) (by simpa using h'), extractLsb'_eq_iff, BitVec.toNat_ofNat,
    low36_eq_ofNat]
  split_ifs <;> first | omega | rfl

theorem segKernel_xkseg (h : 2 ^ 63 + 2 ^ 62 ≤ a.toNat) :
    segKernel true erl k0 a =
      if a.toNat < 0xC00000FF80000000 then .mapped
      else if a.toNat < 0xFFFFFFFF80000000 then .addressError
      else segCompat k0 a := by
  have ha := a.isLt
  simp only [segKernel, if_true, BitVec.reduceEq, if_false, region_eq a 3#2 (by simpa using h) (by simpa using ha), extractLsb'_eq_iff, BitVec.toNat_ofNat,
    BitVec.le_def]
  split_ifs <;> first | omega | rfl

end Ranges

/-! ## The segment of an address -/

section SegmentOf

variable {s : State} {a : DWord}

/-- Under 32-bit addressing what is no sign extension of a word is an Address Error (R127). -/
theorem State.segment?_of_not_signExtended (hw : s.is64bitAddr = false) (hm : s.mode ≠ .reserved) (h : signExtended32 a = false) :
    s.segment? a = some .addressError := by simp [State.segment?, hw, h, hm]

/-- Any other address is classified by the map of the mode. -/
theorem State.segment?_of_valid (h : s.is64bitAddr = true ∨ signExtended32 a = true) :
    (s.mode = .user → s.segment? a = some (segUser s.is64bitAddr a)) ∧
    (s.mode = .supervisor → s.segment? a = some (segSupervisor s.is64bitAddr a)) ∧
    (s.mode = .kernel → s.segment? a = some (segKernel s.is64bitAddr s.erl s.k0 a)) := by
  have h : ¬(!s.is64bitAddr && !signExtended32 a) = true := by rcases h with h | h <;> simp [h]
  refine ⟨fun hm => ?_, fun hm => ?_, fun hm => ?_⟩ <;> simp only [State.segment?, if_neg h, hm]

/-- Under 32-bit addressing the middle of the address space is an Address Error in every mode. -/
theorem State.segment?_middle (hw : s.is64bitAddr = false) (hm : s.mode ≠ .reserved) (h : 2 ^ 31 ≤ a.toNat)
    (h' : a.toNat < 0xFFFFFFFF80000000) : s.segment? a = some .addressError :=
  State.segment?_of_not_signExtended hw hm (by
    rw [← Bool.not_eq_true, signExtended32_iff]
    omega)

/-- An address of a hole raises Address Error (R145 step 2). -/
theorem State.translate_of_addressError (k : AccessKind) (h : s.segment? a = some .addressError) :
    s.translate k a = .exc (.addressError k a) s := by simp [State.translate, State.translateWith, h, Res.bind]

/-- An address of an unmapped segment translates, unless the segment gives it reserved attributes (R133, U8). -/
theorem isUnmapped_of_segment (k : AccessKind) {n : Nat} {attr : BitVec 3}
    (h : s.segment? a = some (.unmapped (BitVec.ofNat 36 n) attr)) : isUnmapped s k a n attr := by
  refine ⟨h, fun hlt => ?_, fun hge => ?_⟩ <;> simp only [State.translate, State.translateWith, h, Res.ok_bind]
  · rw [if_neg fun hb => Nat.not_le.2 hlt ((getLsbD_two_iff _).1 hb)]
  · rw [if_pos ((getLsbD_two_iff _).2 hge)]

/-- The map of the top of the address space, whatever the addressing. -/
theorem compatSegments_of (k : AccessKind) (h : 0xFFFFFFFF80000000 ≤ a.toNat → s.segment? a = some (segCompat s.k0 a)) :
    compatSegments s k a := by
  have ofNat_congr {m n : Nat} (h : m % 2 ^ 36 = n % 2 ^ 36) : BitVec.ofNat 36 m = BitVec.ofNat 36 n :=
    BitVec.eq_of_toNat_eq (by simpa using h)
  have hseg (hn : 0xFFFFFFFF80000000 ≤ a.toNat) := (h hn).trans (congrArg some (segCompat_of_top a s.k0 hn))
  refine ⟨fun h1 h2 => isUnmapped_of_segment k ?_, fun h1 h2 => isUnmapped_of_segment k ?_, fun h1 h2 => ?_,
    fun h1 h2 => isUnmapped_of_segment k ?_, fun h1 => ?_⟩ <;> rw [hseg (by omega)]
  · rw [if_pos h2, ofNat_congr (show a.toNat % 2 ^ 29 % 2 ^ 36 = (a.toNat - 0xFFFFFFFF80000000) % 2 ^ 36 by omega)]
    rfl
  · rw [if_neg (by omega), if_pos h2, ofNat_congr (show a.toNat % 2 ^ 29 % 2 ^ 36 = (a.toNat - 0xFFFFFFFFA0000000) % 2 ^ 36 by omega)]
    rfl
  · rw [if_neg (by omega), if_neg (by omega), if_pos h2]
  · rw [if_neg (by omega), if_neg (by omega), if_neg (by omega), if_pos h2, ofNat_congr (Nat.mod_mod ..)]
    rfl
  · rw [if_neg (by omega), if_neg (by omega), if_neg (by omega), if_neg (by omega)]

end SegmentOf

end Sys2Proof.Machine
end

section
/-! SUPPORT. The segments of each mode (O43), range by range: which are mapped, which are unmapped, and the holes
(20_memory.md R127 to R134, R139, R145; D9, D10). -/

namespace Sys2Proof.Machine

section Modes

variable {s : State} {va : DWord} (k : AccessKind)

/-! ## 32-bit addressing -/

theorem userSegments_narrow (hw : s.is64bitAddr = false) (hm : s.mode = .user) :
    (va.toNat < 2 ^ 31 → s.segment? va = some .mapped) ∧
    (2 ^ 31 ≤ va.toNat → s.translate k va = .exc (.addressError k va) s) := by
  have hseg (h : signExtended32 va = true) := ((State.segment?_of_valid (.inr h)).1 hm).trans
    (congrArg some (hw ▸ segUser_narrow va h))
  refine ⟨fun h => ?_, fun h => State.translate_of_addressError k ?_⟩
  · rw [hseg ((signExtended32_iff va).2 (.inl h)), if_pos h]
  · by_cases h' : va.toNat < 0xFFFFFFFF80000000
    · exact State.segment?_middle hw (by simp [hm]) h h'
    · rw [hseg ((signExtended32_iff va).2 (.inr (by omega))), if_neg (by omega)]

theorem supervisorSegments_narrow (hw : s.is64bitAddr = false) (hm : s.mode = .supervisor) :
    (va.toNat < 2 ^ 31 → s.segment? va = some .mapped) ∧
    (2 ^ 31 ≤ va.toNat → va.toNat < 0xFFFFFFFFC0000000 → s.translate k va = .exc (.addressError k va) s) ∧
    (0xFFFFFFFFC0000000 ≤ va.toNat → va.toNat < 0xFFFFFFFFE0000000 → s.segment? va = some .mapped) ∧
    (0xFFFFFFFFE0000000 ≤ va.toNat → s.translate k va = .exc (.addressError k va) s) := by
  have hseg (h : va.toNat < 2 ^ 31 ∨ 0xFFFFFFFF80000000 ≤ va.toNat) :=
    ((State.segment?_of_valid (.inr ((signExtended32_iff va).2 h))).2.1 hm).trans
      (congrArg some (hw ▸ segSupervisor_narrow va ((signExtended32_iff va).2 h)))
  refine ⟨fun h => ?_, fun h h' => State.translate_of_addressError k ?_, fun h h' => ?_,
    fun h => State.translate_of_addressError k ?_⟩
  · rw [hseg (.inl h), if_pos h]
  · by_cases hmid : va.toNat < 0xFFFFFFFF80000000
    · exact State.segment?_middle hw (by simp [hm]) h hmid
    · rw [hseg (.inr (by omega)), if_neg (by omega), if_pos h']
  · rw [hseg (.inr (by omega)), if_neg (by omega), if_neg (by omega), if_pos h']
  · rw [hseg (.inr (by omega)), if_neg (by omega), if_neg (by omega), if_neg (by omega)]

theorem kernelSegments_narrow (hw : s.is64bitAddr = false) (hm : s.mode = .kernel) :
    (va.toNat < 2 ^ 31 → s.erl = false → s.segment? va = some .mapped) ∧
    (va.toNat < 2 ^ 31 → s.erl = true → isUnmapped s k va va.toNat 2#3) ∧
    (2 ^ 31 ≤ va.toNat → va.toNat < 0xFFFFFFFF80000000 → s.translate k va = .exc (.addressError k va) s) ∧
    compatSegments s k va := by
  have hseg (h : va.toNat < 2 ^ 31 ∨ 0xFFFFFFFF80000000 ≤ va.toNat) :=
    ((State.segment?_of_valid (.inr ((signExtended32_iff va).2 h))).2.2 hm).trans
      (congrArg some (hw ▸ segKernel_narrow va s.erl s.k0 ((signExtended32_iff va).2 h)))
  refine ⟨fun h he => ?_, fun h he => isUnmapped_of_segment k ?_, fun h h' => State.translate_of_addressError k ?_,
    compatSegments_of k fun h => ?_⟩
  · rw [hseg (.inl h), if_pos h, if_neg (by simp [he])]
  · rw [hseg (.inl h), if_pos h, if_pos he, Nat.mod_eq_of_lt h]
    rfl
  · exact State.segment?_middle hw (by simp [hm]) h h'
  · rw [hseg (.inr h), if_neg (by omega)]

/-! ## 64-bit addressing -/

theorem userSegments_wide (hw : s.is64bitAddr = true) (hm : s.mode = .user) :
    (va.toNat < 2 ^ 40 → s.segment? va = some .mapped) ∧
    (2 ^ 40 ≤ va.toNat → s.translate k va = .exc (.addressError k va) s) := by
  have hseg := ((State.segment?_of_valid (.inl hw)).1 hm).trans (congrArg some (hw ▸ segUser_wide va))
  refine ⟨fun h => ?_, fun h => State.translate_of_addressError k ?_⟩
  · rw [hseg, if_pos h]
  · rw [hseg, if_neg (by omega)]

theorem supervisorSegments_wide (hw : s.is64bitAddr = true) (hm : s.mode = .supervisor) :
    (va.toNat < 2 ^ 40 → s.segment? va = some .mapped) ∧
    (2 ^ 40 ≤ va.toNat → va.toNat < 2 ^ 62 → s.translate k va = .exc (.addressError k va) s) ∧
    (2 ^ 62 ≤ va.toNat → va.toNat < 2 ^ 62 + 2 ^ 40 → s.segment? va = some .mapped) ∧
    (2 ^ 62 + 2 ^ 40 ≤ va.toNat → va.toNat < 0xFFFFFFFFC0000000 → s.translate k va = .exc (.addressError k va) s) ∧
    (0xFFFFFFFFC0000000 ≤ va.toNat → va.toNat < 0xFFFFFFFFE0000000 → s.segment? va = some .mapped) ∧
    (0xFFFFFFFFE0000000 ≤ va.toNat → s.translate k va = .exc (.addressError k va) s) := by
  have hseg := ((State.segment?_of_valid (.inl hw)).2.1 hm).trans (congrArg some (hw ▸ segSupervisor_wide va))
  refine ⟨fun h => ?_, fun h h' => State.translate_of_addressError k ?_, fun h h' => ?_,
    fun h h' => State.translate_of_addressError k ?_, fun h h' => ?_, fun h => State.translate_of_addressError k ?_⟩ <;> rw [hseg]
  · rw [if_pos h]
  · rw [if_neg (by omega), if_pos h']
  · rw [if_neg (by omega), if_neg (by omega), if_pos h']
  · rw [if_neg (by omega), if_neg (by omega), if_neg (by omega), if_pos h']
  · rw [if_neg (by omega), if_neg (by omega), if_neg (by omega), if_neg (by omega), if_pos h']
  · rw [if_neg (by omega), if_neg (by omega), if_neg (by omega), if_neg (by omega), if_neg (by omega)]

theorem kernelSegments_wide (hw : s.is64bitAddr = true) (hm : s.mode = .kernel) :
    (va.toNat < 2 ^ 40 → s.erl = false ∨ 2 ^ 31 ≤ va.toNat → s.segment? va = some .mapped) ∧
    (va.toNat < 2 ^ 31 → s.erl = true → isUnmapped s k va va.toNat 2#3) ∧
    (2 ^ 40 ≤ va.toNat → va.toNat < 2 ^ 62 → s.translate k va = .exc (.addressError k va) s) ∧
    (2 ^ 62 ≤ va.toNat → va.toNat < 2 ^ 62 + 2 ^ 40 → s.segment? va = some .mapped) ∧
    (2 ^ 62 + 2 ^ 40 ≤ va.toNat → va.toNat < 2 ^ 63 → s.translate k va = .exc (.addressError k va) s) ∧
    (2 ^ 63 ≤ va.toNat → va.toNat < 2 ^ 63 + 2 ^ 62 →
      (va.toNat % 2 ^ 59 < 2 ^ 36 → isUnmapped s k va (va.toNat % 2 ^ 59) (BitVec.ofNat 3 (va.toNat / 2 ^ 59))) ∧
      (2 ^ 36 ≤ va.toNat % 2 ^ 59 → s.translate k va = .exc (.addressError k va) s)) ∧
    (0xC000000000000000 ≤ va.toNat → va.toNat < 0xC00000FF80000000 → s.segment? va = some .mapped) ∧
    (0xC00000FF80000000 ≤ va.toNat → va.toNat < 0xFFFFFFFF80000000 → s.translate k va = .exc (.addressError k va) s) ∧
    compatSegments s k va := by
  have hseg : s.segment? va = some (segKernel true s.erl s.k0 va) := hw ▸ (State.segment?_of_valid (.inl hw)).2.2 hm
  refine ⟨fun h he => ?_, fun h he => isUnmapped_of_segment k ?_, fun h h' => State.translate_of_addressError k ?_,
    fun h h' => ?_, fun h h' => State.translate_of_addressError k ?_,
    fun h h' => ⟨fun hlow => isUnmapped_of_segment k ?_, fun hhigh => State.translate_of_addressError k ?_⟩, fun h h' => ?_,
    fun h h' => State.translate_of_addressError k ?_, compatSegments_of k fun h => ?_⟩ <;> rw [hseg]
  · rw [segKernel_xkuseg _ _ _ (by omega), if_pos h, if_neg fun hn => he.elim (by simp [hn.1]) (by omega)]
  · rw [segKernel_xkuseg _ _ _ (by omega), if_pos (by omega), if_pos ⟨he, h⟩]
    rfl
  · rw [segKernel_xkuseg _ _ _ h', if_neg (by omega)]
  · rw [segKernel_xksseg _ _ _ h (by omega), if_pos h']
  · rw [segKernel_xksseg _ _ _ (by omega) h', if_neg (by omega)]
  · rw [segKernel_xkphys _ _ _ h h', if_pos hlow]
    congr 2
    · exact BitVec.eq_of_toNat_eq (by simp only [BitVec.toNat_ofNat]; omega)
    · exact BitVec.eq_of_toNat_eq (by simp [BitVec.extractLsb'_toNat, Nat.shiftRight_eq_div_pow])
  · rw [segKernel_xkphys _ _ _ h h', if_neg (by omega)]
  · rw [segKernel_xkseg _ _ _ (by omega), if_pos h']
  · rw [segKernel_xkseg _ _ _ (by omega), if_neg (by omega), if_pos h']
  · rw [segKernel_xkseg _ _ _ (by omega), if_neg (by omega), if_neg (by omega)]

end Modes

/-- Settles O43: by the addressing and the mode. -/
theorem addressSegments : Obligations.AddressSegments :=
  fun _ k _ =>
    ⟨fun hw => ⟨userSegments_narrow k hw, supervisorSegments_narrow k hw, kernelSegments_narrow k hw⟩,
      fun hw => ⟨userSegments_wide k hw, supervisorSegments_wide k hw, kernelSegments_wide k hw⟩⟩

end Sys2Proof.Machine
end

section
/-! SUPPORT. Lines of a cache and lines in memory: what a line reads after a write of it, its bytes as a value, a line written back
as a write of 32 bytes (21_cache.md R183 to R187, 20_memory.md R122, R160). -/

namespace Sys2Proof.Machine

/-! ## A line after a write -/

theorem lineKey_inj {set set' : BitVec 8} {way way' : BitVec 2} (h : lineKey set' way' = lineKey set way) :
    (set', way') = (set, way) := by
  have hway := way.isLt
  have hway' := way'.isLt
  unfold lineKey at h
  exact Prod.ext (BitVec.eq_of_toNat_eq (by dsimp only; omega)) (BitVec.eq_of_toNat_eq (by dsimp only; omega))

theorem Cache.line_setLine_same {c : Cache} (h : c.wf) (set : BitVec 8) (way : BitVec 2) (l : CacheLine) :
    (c.setLine set way l).line set way = l := sparseGet_put_same _ _ h.1.1

theorem Cache.line_setLine_other {c : Cache} (h : c.wf) {set set' : BitVec 8} {way way' : BitVec 2} (l : CacheLine)
    (hne : (set', way') ≠ (set, way)) : (c.setLine set way l).line set' way' = c.line set' way' :=
  sparseGet_put_other _ (fun e => hne (lineKey_inj e)) h.1.1

@[simp] theorem Cache.line_setFifo (c : Cache) (set set' : BitVec 8) (f : BitVec 2) (way : BitVec 2) :
    (c.setFifo set f).line set' way = c.line set' way := rfl

/-- A refilled line stays locked if its way was, outside debug mode (21_cache.md R199). -/
theorem State.placeLine_cache (s : State) (c : CacheId) (set : BitVec 8) (way : BitVec 2) (tag : BitVec 24) (data : Vector Byte 32)
    (dirty : Bool) (set' : BitVec 8) (way' : BitVec 2) :
    let lock := ((s.cache c).line set way).lock && s.locking
    ((s.placeLine c set way tag data dirty).cache c).line set' way' =
      ((s.cache c).setLine set way { tag := tag, valid := true, lock := lock, dirty := dirty, data := data }).line set' way' := by
  cases c <;> rfl

theorem State.dropLine_cache (s : State) (c : CacheId) (set : BitVec 8) (way : BitVec 2) :
    (s.dropLine c set way).cache c =
      (s.cache c).setLine set way { (s.cache c).line set way with valid := false, dirty := false } := by cases c <;> rfl

/-! ## The bytes of a line -/

/-- The bytes of a line from an offset up, within the line. -/
theorem lineBytes_eq (data : Vector Byte 32) (offset : BitVec 5) (n : Nat) (h : offset.toNat + n ≤ 32) :
    lineBytes data offset n = (List.range n).map fun i => data.toList.getD (offset.toNat + i) 0#8 := by
  induction n generalizing offset with
  | zero => rfl
  | succ n ih =>
    rw [lineBytes, List.range_succ_eq_map, List.map_cons, List.map_map]
    congr 1
    · rw [Nat.add_zero, List.getD_eq_getElem _ _ (by simp [offset.isLt]), Vector.getElem_toList]
    · by_cases hn : n = 0
      · subst hn
        rfl
      · have ho : (offset + 1#5).toNat = offset.toNat + 1 := by
          rw [BitVec.toNat_add]
          exact Nat.mod_eq_of_lt (by simp; omega)
        rw [ih _ (by omega)]
        refine List.map_congr_left fun i _ => ?_
        rw [ho, Function.comp, Nat.succ_eq_add_one, Nat.add_assoc, Nat.add_comm 1 i]

/-- The value of bytes of a line in a byte order. -/
theorem assemble_lineBytes (be : Bool) (l : CacheLine) (offset : BitVec 5) (n : Nat) (hn : n ≤ 8) (h : offset.toNat + n ≤ 32) :
    (assemble be (lineBytes l.data offset n)).toNat = lineNat be l offset.toNat n := by
  rw [assemble_toNat _ _ (by rw [lineBytes_length]; exact hn), lineBytes_eq _ _ _ h]
  rfl

theorem lineNat_lt (be : Bool) (l : CacheLine) (start n : Nat) : lineNat be l start n < 256 ^ n := by
  refine (bytesNat_lt _).trans_le (Nat.pow_le_pow_right (by decide) ?_)
  split <;> simp

/-- A byte of a line after bytes were written into it. -/
theorem setLineBytes_get (data : Vector Byte 32) (offset : BitVec 5) (bs : List Byte) (h : offset.toNat + bs.length ≤ 32) (k : Nat)
    (hk : k < 32) :
    (setLineBytes data offset bs)[k] =
      if hb : offset.toNat ≤ k ∧ k < offset.toNat + bs.length then bs[k - offset.toNat] else data[k] := by
  induction bs generalizing data offset with
  | nil => simp [setLineBytes]
  | cons b bs ih =>
    simp only [List.length_cons] at h
    rw [setLineBytes]
    by_cases hlast : bs = []
    · subst hlast
      rw [setLineBytes, Vector.getElem_set]
      by_cases he : offset.toNat = k
      · simp [he]
      · rw [if_neg he, dif_neg (by simp; omega)]
    · have hpos : 0 < bs.length := List.length_pos_iff.2 hlast
      have ho : (offset + 1#5).toNat = offset.toNat + 1 := by
        rw [BitVec.toNat_add]
        exact Nat.mod_eq_of_lt (by simp; omega)
      rw [ih _ _ (by omega), Vector.getElem_set]
      simp only [ho, List.length_cons]
      by_cases he : offset.toNat = k
      · rw [dif_neg (by omega), if_pos he, dif_pos (by omega)]
        simp [he]
      · by_cases hin : offset.toNat + 1 ≤ k ∧ k < offset.toNat + 1 + bs.length
        · rw [dif_pos hin, dif_pos (by omega)]
          simp only [show k - offset.toNat = k - (offset.toNat + 1) + 1 by omega, List.getElem_cons_succ]
        · rw [dif_neg hin, if_neg he, dif_neg (by omega)]

/-- The data of a line after a store. -/
theorem lineHolds_setLineBytes (be : Bool) (l : CacheLine) (old : Nat → Byte) (offset : BitVec 5) (n : Nat) (v : DWord)
    (h : offset.toNat + n ≤ 32) (data : Vector Byte 32) (hl : l.data = setLineBytes data offset (disassemble be n v))
    (ho : ∀ k (hk : k < 32), data[k] = old k) : lineHolds be l old offset.toNat n v := by
  intro k hk
  have hlen := disassemble_length be n v
  have hget : l.data[k] = (setLineBytes data offset (disassemble be n v))[k] := by simp only [hl]
  rw [hget, setLineBytes_get _ _ _ (by omega) k hk]
  by_cases hin : offset.toNat ≤ k ∧ k < offset.toNat + n
  · rw [dif_pos (by omega), if_pos hin, disassemble_get]
  · rw [dif_neg (by omega), if_neg hin, ho k hk]

/-! ## Lines in memory -/

theorem Memory.setBytes_append (xs ys : List Byte) (m : List Host.Cell) (a : PAddr) :
    Memory.setBytes m a (xs ++ ys) = Memory.setBytes (Memory.setBytes m a xs) (a + BitVec.ofNat 36 xs.length) ys := by
  induction xs generalizing m a with
  | nil => simp [Memory.setBytes]
  | cons x xs ih =>
    rw [List.cons_append, Memory.setBytes, ih, Memory.setBytes, List.length_cons, Nat.add_comm xs.length 1, BitVec.ofNat_add,
      ← BitVec.add_assoc]

theorem lineBytes_append (data : Vector Byte 32) (offset : BitVec 5) (m n : Nat) :
    lineBytes data offset (m + n) = lineBytes data offset m ++ lineBytes data (offset + BitVec.ofNat 5 m) n := by
  induction m generalizing offset with
  | zero => simp [lineBytes]
  | succ m ih =>
    rw [Nat.add_right_comm, lineBytes, ih, lineBytes, List.cons_append, Nat.add_comm m 1, BitVec.ofNat_add, ← BitVec.add_assoc]

/-- The first byte of a line in memory. -/
theorem linePa_toNat (tag : BitVec 24) (set : BitVec 8) :
    (linePa tag set).toNat = tag.toNat * 2 ^ 12 + set.toNat % 2 ^ 7 * 2 ^ 5 := by
  have hset : (set.extractLsb' 0 7).toNat = set.toNat % 2 ^ 7 := by simp [BitVec.extractLsb'_toNat]
  unfold linePa
  rw [BitVec.toNat_append, BitVec.toNat_append, hset, BitVec.toNat_ofNat, Nat.zero_mod, Nat.or_zero,
    ← Nat.shiftLeft_add_eq_or_of_lt (by omega)]
  simp only [Nat.shiftLeft_eq]
  omega

/-- The line that holds a physical address begins at the multiple of 32 below it. -/
theorem linePa_of_pa (pa : PAddr) : (linePa (tagOf pa) (pa.extractLsb' 5 8)).toNat = pa.toNat / 32 * 32 := by
  have h : (pa.extractLsb' 5 8).toNat = pa.toNat / 2 ^ 5 % 2 ^ 8 := by
    rw [BitVec.extractLsb'_toNat, Nat.shiftRight_eq_div_pow]
  rw [linePa_toNat, tagOf_toNat, h]
  omega

end Sys2Proof.Machine
end

section
/-! SUPPORT. The way a refill takes, the line written back, and the refill itself, answered with data or with an error (21_cache.md
R185, R187, R189, R199; 20_memory.md R161, R166). -/

namespace Sys2Proof.Machine

/-! ## The way a refill takes -/

/-- The four ways in circular order from any of them. -/
theorem way_cases : ∀ w x : BitVec 2, x = w ∨ x = w + 1#2 ∨ x = w + 2#2 ∨ x = w + 3#2 := by decide

/-- The first way with a property, counted from `w`; the last of the four if no earlier one has it. -/
theorem firstWay_eq (p : BitVec 2 → Bool) (w : BitVec 2) :
    ∃ d, firstWay p w = w + BitVec.ofNat 2 d ∧ (∀ d', d' < d → p (w + BitVec.ofNat 2 d') = false) ∧
      ∀ x, p x = true → p (firstWay p w) = true := by
  have h0 : w + BitVec.ofNat 2 0 = w := by simp
  unfold firstWay
  split_ifs with hw hw1 hw2
  · exact ⟨0, h0.symm, fun d' hd => absurd hd (Nat.not_lt_zero d'), fun _ _ => hw⟩
  · refine ⟨1, rfl, fun d' hd => ?_, fun _ _ => hw1⟩
    obtain rfl : d' = 0 := by omega
    simpa [h0] using hw
  · refine ⟨2, rfl, fun d' hd => ?_, fun _ _ => hw2⟩
    obtain rfl | rfl : d' = 0 ∨ d' = 1 := by omega
    · simpa [h0] using hw
    · simpa using hw1
  · refine ⟨3, rfl, fun d' hd => ?_, fun x hx => ?_⟩
    · obtain rfl | rfl | rfl : d' = 0 ∨ d' = 1 ∨ d' = 2 := by omega
      · simpa [h0] using hw
      · simpa using hw1
      · simpa using hw2
    · obtain rfl | rfl | rfl | rfl := way_cases w x
      · exact absurd hx hw
      · exact absurd hx hw1
      · exact absurd hx hw2
      · exact hx

theorem lockedFrom_iff (s : State) (c : CacheId) (set : BitVec 8) (d : Nat) :
    lockedFrom s c set d ↔ (s.cache c).replaceable s.locking set ((s.cache c).fifoOf set + BitVec.ofNat 2 d) = false := by
  simp [lockedFrom, Cache.replaceable, State.locking, and_assoc]

/-- The way the replacement bits name, past locked lines: way 0 is never locked, so one of the four is not. -/
theorem Cache.fifoWay_eq (s : State) (c : CacheId) (set : BitVec 8) :
    ∃ d, (s.cache c).fifoWay s.locking set = (s.cache c).fifoOf set + BitVec.ofNat 2 d ∧ ¬lockedFrom s c set d ∧
      ∀ d', d' < d → lockedFrom s c set d' := by
  obtain ⟨d, he, hlt, hp⟩ := firstWay_eq ((s.cache c).replaceable s.locking set) ((s.cache c).fifoOf set)
  have hzero : (s.cache c).replaceable s.locking set 0#2 = true := by simp [Cache.replaceable]
  have hway := hp 0#2 hzero
  rw [he] at hway
  exact ⟨d, he, by simp [lockedFrom_iff, hway], fun d' hd => (lockedFrom_iff ..).2 (hlt d' hd)⟩

/-- The way a refill takes is one it may take (21_cache.md R189, R199). -/
theorem isVictim_victim (s : State) (c : CacheId) (set : BitVec 8) (choice : BitVec 2) :
    isVictim s c set ((s.cache c).victim s.locking set choice) := by
  unfold Cache.victim
  dsimp only
  split
  · next h =>
    left
    have hex : ∃ w, (!((s.cache c).line set w).valid) = true := by
      simp only [Bool.or_eq_true] at h
      obtain ((h | h) | h) | h := h
      all_goals exact ⟨_, h⟩
    obtain ⟨w, hw⟩ := hex
    obtain ⟨-, -, -, hp⟩ := firstWay_eq (fun w => !((s.cache c).line set w).valid) ((s.cache c).fifoOf set + choice)
    simpa using hp w hw
  · next h =>
    right
    have hvalid (w : BitVec 2) : ((s.cache c).line set w).valid = true := by
      simp only [Bool.or_eq_true, Bool.not_eq_true', not_or, Bool.not_eq_false] at h
      obtain ⟨⟨⟨h0, h1⟩, h2⟩, h3⟩ := h
      obtain rfl | rfl | rfl | rfl := way_cases 0#2 w
      · exact h0
      · exact h1
      · exact h2
      · exact h3
    exact ⟨hvalid, Cache.fifoWay_eq s c set⟩

/-! ## The line written back -/

/-- A line whose 32 bytes were entered into the buffer is stored (21_cache.md R187). -/
theorem lineStored_of {s t : State} {tag : BitVec 24} {set : BitVec 8} {data : Vector Byte 32} (hw : Memory.wf s.mem)
    (h : drainInto t.mem t.wbuf = Memory.setBytes (drainInto s.mem s.wbuf) (linePa tag set) (lineBytes data 0#5 32)) :
    lineStored s t tag set data := by
  have hw' := drainInto_wf s.wbuf hw
  have hlen := lineBytes_length data 0#5 32
  have hpa := linePa_toNat tag set
  constructor
  · intro k hk
    have ha : BitVec.ofNat 36 (tag.toNat * 2 ^ 12 + set.toNat % 2 ^ 7 * 2 ^ 5 + k) = linePa tag set + BitVec.ofNat 36 k := by
      rw [← hpa, BitVec.ofNat_add, BitVec.ofNat_toNat, BitVec.setWidth_eq]
    unfold State.physByte
    rw [ha, h, Memory.get_setBytes_same _ hw' k (by omega) (by omega)]
    simp [lineBytes_eq data 0#5 32 (by decide), hk]
  · intro a ha
    unfold State.physByte
    rw [h, Memory.get_setBytes_other _ hw']
    rw [inBytes, hlen]
    intro hlt
    apply ha
    rw [← hpa]
    have : (linePa tag set).toNat % 32 = 0 := by omega
    bv_omega

theorem castsOut_congr {s t u : State} {c : CacheId} {set : BitVec 8} {way : BitVec 2} (h : castsOut s t c set way)
    (hm : u.mem = t.mem) (hw : u.wbuf = t.wbuf) : castsOut s u c set way := by
  have hb (a : PAddr) : u.physByte a = t.physByte a := State.physByte_congr hm hw a
  obtain ⟨hdirty, hclean⟩ := h
  refine ⟨fun hv hd => ?_, fun hcl a => (hb a).trans (hclean hcl a)⟩
  obtain ⟨hin, hout⟩ := hdirty hv hd
  exact ⟨fun k hk => (hb _).trans (hin k hk), fun a ha => (hb a).trans (hout a ha)⟩

/-- Where the buffer empties, a dirty line is written back and any other is left. -/
theorem State.castOut_castsOut {s : State} (c : CacheId) (set : BitVec 8) (way : BitVec 2)
    (h : s.wbuf = [] ∨ s.writesGo = true) (hm : Memory.wf s.mem) :
    ∃ t, s.castOut c set way = .ok () t ∧ t = { s with wbuf := t.wbuf, mem := t.mem } ∧ castsOut s t c set way := by
  unfold State.castOut
  dsimp only
  split
  · next hmod =>
    have hmod : ((s.cache c).line set way).valid = true ∧ ((s.cache c).line set way).dirty = true := by
      simpa [CacheLine.modified] using hmod
    unfold State.writeBackLine
    rw [State.flushed_of h]
    refine ⟨_, rfl, rfl, fun _ _ => lineStored_of hm ?_, fun hcl => ?_⟩
    · simp only [lineBytes_append _ _ 8 24, lineBytes_append _ _ 8 16, lineBytes_append _ _ 8 8, Memory.setBytes_append,
        lineBytes_length]
      generalize linePa _ _ = pa
      simp only [drainInto, BitVec.add_assoc]
      rfl
    · rcases hcl with hcl | hcl <;> simp [hmod] at hcl
  · next hmod =>
    refine ⟨s, rfl, rfl, fun hv hd => absurd ?_ hmod, fun _ _ => rfl⟩
    simp [CacheLine.modified, hv, hd]

/-! ## The block read -/

/-- The line of memory that holds a physical address. -/
def State.memoryLine (s : State) (pa : PAddr) : Vector Byte 32 :=
  Vector.ofFn fun i => Memory.get s.mem (linePa (tagOf pa) (pa.extractLsb' 5 8) + BitVec.ofNat 36 i.val)

theorem State.memoryLine_get {s : State} (hw : s.wbuf = []) (pa : PAddr) (k : Nat) (hk : k < 32) :
    (s.memoryLine pa)[k] = s.physByte (BitVec.ofNat 36 (pa.toNat / 32 * 32 + k)) := by
  rw [State.physByte, hw, drainInto, ← linePa_of_pa, BitVec.ofNat_add, BitVec.ofNat_toNat, BitVec.setWidth_eq]
  simp [State.memoryLine]

/-- The four doublewords of a line. -/
abbrev lineDoublewords (pa : PAddr) : List Nat := (List.range 4).map fun i => pa.toNat / 32 * 4 + i

/-- With nothing pending the block read goes to the bus, whose answer decides. -/
theorem State.readLine_of {s : State} (k : AccessKind) (castsOut : Bool) {pa : PAddr} (hw : s.wbuf = []) (hl : s.lateError = none)
    (hc : inChipRange pa = false) :
    (s.refillAnswer k (lineDoublewords pa) = .data → s.readLine k castsOut pa = .ok (some (s.memoryLine pa)) s) ∧
    (s.refillAnswer k (lineDoublewords pa) = .error → s.readLine k castsOut pa = .ok none s) := by
  have hflush : (if castsOut then s.flushed else s.flushedFor 32 pa) = .ok () s := by
    split
    · simp [State.flushed, hw]
    · simp [State.flushedFor, hw]
  have hd : (linePa (tagOf pa) (pa.extractLsb' 5 8)).toNat / 8 = pa.toNat / 32 * 4 := by
    rw [linePa_of_pa]
    omega
  have hlist : [pa.toNat / 32 * 4, pa.toNat / 32 * 4 + 1, pa.toNat / 32 * 4 + 2, pa.toNat / 32 * 4 + 3] = lineDoublewords pa := rfl
  constructor <;> intro ha
  all_goals
    unfold State.readLine
    rw [if_neg (by simp [hc]), State.busIdle_of k hl, Res.ok_bind, hflush, Res.ok_bind]
    dsimp only
    rw [hd, hlist, ha]
  rfl

/-! ## The refill -/

/-- From `s` to `t` a way of cache `c` took the line of `pa`, clean; what it held was written back if it was dirty; nothing else
changed. -/
structure LineFilled (s t : State) (c : CacheId) (set : BitVec 8) (way : BitVec 2) (pa : PAddr) : Prop where
  filled : refilled s t c set way pa
  clean : ((t.cache c).line set way).dirty = false
  castOut : castsOut s t c set way
  otherLines : sameOtherLines s t c set way
  otherCache : sameOtherCache s t c
  frame : t = { s with icache := t.icache, dcache := t.dcache, wbuf := t.wbuf, mem := t.mem, choices := t.choices }

/-- From `s` to `t` the refill of a way of cache `c` failed: the way is invalid, what it held was written back if it was dirty;
nothing else changed. -/
structure LineLost (s t : State) (c : CacheId) (set : BitVec 8) (way : BitVec 2) : Prop where
  invalid : ((t.cache c).line set way).valid = false
  castOut : castsOut s t c set way
  otherLines : sameOtherLines s t c set way
  otherCache : sameOtherCache s t c
  frame : t = { s with icache := t.icache, dcache := t.dcache, wbuf := t.wbuf, mem := t.mem }

section Fill

variable {s : State} {c : CacheId} {pa : PAddr} (hs : s.MemoryForm)
include hs

/-- A refill that is answered (R185). -/
theorem State.fillWay_of_data (k : AccessKind) (set : BitVec 8) (way : BitVec 2) (h : lineReads s pa) :
    ∃ t, s.fillWay k c set way pa = .ok () t ∧ LineFilled s t c set way pa := by
  obtain ⟨hw, hl, hc, ha⟩ := h
  have ha : s.refillAnswer k (lineDoublewords pa) = .data := by
    unfold State.refillAnswer
    split
    · rfl
    · exact ha
  obtain ⟨u, hu, hframe, hcast⟩ := State.castOut_castsOut c set way (.inl hw) hs.1
  have hcache : u.cache c = s.cache c := by rw [hframe]; cases c <;> rfl
  have hwf := hs.cache_wf c
  refine ⟨u.placeLine c set way (tagOf pa) (s.memoryLine pa) false, ?_, ⟨?_, ?_, ?_, ?_, ?_, ?_⟩⟩
  · rw [State.fillWay, (State.readLine_of k _ hw hl hc).1 ha, Res.ok_bind, hu, Res.ok_bind]
  · have hlock : u.locking = !s.debugMode := by rw [hframe]; rfl
    unfold refilled
    dsimp only
    rw [State.placeLine_cache, hcache, Cache.line_setLine_same hwf, hlock]
    exact ⟨rfl, rfl, rfl, State.memoryLine_get hw pa⟩
  · rw [State.placeLine_cache, hcache, Cache.line_setLine_same hwf]
  · exact castsOut_congr hcast (by simp) (by simp)
  · intro set' way' hne
    rw [State.placeLine_cache, hcache, Cache.line_setLine_other hwf _ hne]
  · cases c <;> rw [hframe] <;> rfl
  · cases c <;> rw [hframe] <;> rfl

/-- A refill of a load or a fetch that is answered with an error (20_memory.md R166). -/
theorem State.fillWay_of_error {k : AccessKind} (hk : k ≠ .store) (set : BitVec 8) (way : BitVec 2) (hw : s.wbuf = [])
    (hl : s.lateError = none) (hc : inChipRange pa = false) (ha : s.readAnswer (lineDoublewords pa) = .error) :
    ∃ t, s.fillWay k c set way pa = .exc k.busError t ∧ LineLost s t c set way := by
  have ha : s.refillAnswer k (lineDoublewords pa) = .error := by rw [State.refillAnswer, if_neg fun h => hk h.1, ha]
  obtain ⟨u, hu, hframe, hcast⟩ := State.castOut_castsOut c set way (.inl hw) hs.1
  have hcache : u.cache c = s.cache c := by rw [hframe]; cases c <;> rfl
  have hwf := hs.cache_wf c
  refine ⟨u.dropLine c set way, ?_, ⟨?_, ?_, ?_, ?_, ?_⟩⟩
  · rw [State.fillWay, (State.readLine_of k _ hw hl hc).2 ha, Res.ok_bind, hu, Res.ok_bind]
  · rw [State.dropLine_cache, hcache, Cache.line_setLine_same hwf]
  · exact castsOut_congr hcast (by simp) (by simp)
  · intro set' way' hne
    rw [State.dropLine_cache, hcache, Cache.line_setLine_other hwf _ hne]
  · cases c <;> rw [hframe] <;> rfl
  · cases c <;> rw [hframe] <;> rfl

end Fill

end Sys2Proof.Machine
end

section
/-! SUPPORT. Loads and stores through the data cache: the lookup that hits or refills, the bytes read from the line, the bytes written
into it (21_cache.md R185, R186, R189, R199; 20_memory.md R122). -/

namespace Sys2Proof.Machine

/-! ## Addresses of one line -/

theorem withOffset_eq_ofNat (pa : PAddr) (start : DWord) :
    BitVec.ofNat 36 (pa.toNat / 8 * 8 + start.toNat % 8) = withOffset pa start := by
  rw [← withOffset_toNat, BitVec.ofNat_toNat, BitVec.setWidth_eq]

theorem withOffset_line (pa : PAddr) (start : DWord) : (withOffset pa start).toNat / 32 = pa.toNat / 32 := by
  rw [withOffset_toNat]
  omega

theorem tagOf_congr {a b : PAddr} (h : a.toNat / 32 = b.toNat / 32) : tagOf a = tagOf b := by
  apply BitVec.eq_of_toNat_eq
  rw [tagOf_toNat, tagOf_toNat]
  omega

theorem tagOf_withOffset (pa : PAddr) (start : DWord) : tagOf (withOffset pa start) = tagOf pa := tagOf_congr (withOffset_line pa start)

/-- The offset of a physical address in its line. -/
theorem lineOffset_toNat (pa : PAddr) : (pa.extractLsb' 0 5).toNat = pa.toNat % 32 := by simp [BitVec.extractLsb'_toNat]

/-- An access within a doubleword lies within a line. -/
theorem withOffset_fits {pa : PAddr} {start : DWord} {n : Nat} (h : start.toNat % 8 + n ≤ 8) :
    (withOffset pa start).toNat % 32 + n ≤ 32 := by
  rw [withOffset_toNat]
  omega

theorem lineReads_withOffset {s : State} {pa : PAddr} (h : lineReads s pa) (start : DWord) : lineReads s (withOffset pa start) := by
  obtain ⟨hw, hl, hc, ha⟩ := h
  exact ⟨hw, hl, by rw [withOffset_inChipRange, hc], by rw [withOffset_line]; exact ha⟩

/-- A refill for an address is one for each address of its line. -/
theorem LineFilled.of_line {s t : State} {c : CacheId} {set : BitVec 8} {way : BitVec 2} {a b : PAddr}
    (h : LineFilled s t c set way a) (he : a.toNat / 32 = b.toNat / 32) : LineFilled s t c set way b := by
  obtain ⟨htag, hvalid, hlock, hdata⟩ := h.filled
  exact { h with filled := ⟨htag.trans (tagOf_congr he), hvalid, hlock, he ▸ hdata⟩ }

/-! ## The lookup -/

section Lookup

variable {s : State} {c : CacheId} {va : DWord} {pa : PAddr}

theorem State.lookup_of_hit (k : AccessKind) {w : BitVec 2} (h : (s.cache c).hits (setOf va) (tagOf pa) = [w]) :
    s.lookup k c va pa = .ok w s := by simp [State.lookup, h]

theorem State.lookup_of_miss (hs : s.MemoryForm) (k : AccessKind) (h : (s.cache c).hits (setOf va) (tagOf pa) = [])
    (hr : lineReads s pa) :
    ∃ w t, s.lookup k c va pa = .ok w t ∧ isVictim s c (setOf va) w ∧ LineFilled s t c (setOf va) w pa := by
  obtain ⟨t, ht, hf⟩ := State.fillWay_of_data (c := c) hs k (setOf va) ((s.cache c).victim s.locking (setOf va) s.choice) hr
  exact ⟨_, t, by simp [State.lookup, h, ht], isVictim_victim .., hf⟩

theorem State.lookup_of_error (hs : s.MemoryForm) {k : AccessKind} (hk : k ≠ .store)
    (h : (s.cache c).hits (setOf va) (tagOf pa) = []) (hw : s.wbuf = []) (hl : s.lateError = none) (hc : inChipRange pa = false)
    (ha : s.readAnswer (lineDoublewords pa) = .error) :
    ∃ w t, s.lookup k c va pa = .exc k.busError t ∧ isVictim s c (setOf va) w ∧ LineLost s t c (setOf va) w := by
  obtain ⟨t, ht, hf⟩ :=
    State.fillWay_of_error (c := c) hs hk (setOf va) ((s.cache c).victim s.locking (setOf va) s.choice) hw hl hc ha
  exact ⟨_, t, by simp [State.lookup, h, ht, Res.bind], isVictim_victim .., hf⟩

end Lookup

/-! ## What a refill leaves -/

section Left

variable {s t : State} {set : BitVec 8} {way : BitVec 2} {pa : PAddr}

/-- A refill of the data cache changes nothing but it, the buffer, memory and the open choices. -/
theorem LineFilled.data_frame (h : LineFilled s t .data set way pa) :
    t = { s with dcache := t.dcache, wbuf := t.wbuf, mem := t.mem, choices := t.choices } := by
  have hi : t.icache = s.icache := h.otherCache
  exact h.frame.trans (by rw [hi])

/-- A refill of the instruction cache changes nothing but it, the buffer, memory and the open choices. -/
theorem LineFilled.inst_frame (h : LineFilled s t .inst set way pa) :
    t = { s with icache := t.icache, wbuf := t.wbuf, mem := t.mem, choices := t.choices } := by
  have hd : t.dcache = s.dcache := h.otherCache
  exact h.frame.trans (by rw [hd])

theorem LineFilled.dataBe_eq {c : CacheId} (h : LineFilled s t c set way pa) : t.dataBe = s.dataBe := by rw [h.frame]; rfl

theorem LineLost.data_frame (h : LineLost s t .data set way) : t = { s with dcache := t.dcache, wbuf := t.wbuf, mem := t.mem } := by
  have hi : t.icache = s.icache := h.otherCache
  exact h.frame.trans (by rw [hi])

theorem LineLost.inst_frame (h : LineLost s t .inst set way) : t = { s with icache := t.icache, wbuf := t.wbuf, mem := t.mem } := by
  have hd : t.dcache = s.dcache := h.otherCache
  exact h.frame.trans (by rw [hd])

theorem LineFilled.loadRefills (h : LineFilled s t .data set way pa) (hv : isVictim s .data set way) : loadRefills s t set way pa :=
  ⟨hv, h.filled, h.clean, h.castOut, h.otherLines⟩

end Left

/-! ## Loads -/

section Loads

variable {s : State} {va : DWord} {pa : PAddr} {attr : BitVec 3}

/-- A cached load reads the line the lookup gives. -/
theorem State.loadFrom_cached (start : DWord) (n : Nat) (ht : s.translate .load va = .ok { pa := pa, attr := attr } s) (hu : attr ≠ 2#3)
    (ho : s.dcacheOff = false) (hc : inChipRange pa = false) :
    s.loadFrom va start n =
      (s.lookup .load .data va (withOffset pa start)).bind fun w t =>
        .ok (withOffset pa start,
          assemble t.dataBe (lineBytes (t.dcache.line (setOf va) w).data ((withOffset pa start).extractLsb' 0 5) n)) t := by
  have hu : ¬attr = attrUncached := hu
  unfold State.loadFrom
  rw [ht, Res.ok_bind]
  dsimp only
  rw [if_neg (by simp [withOffset_inChipRange, hc]), State.readBytes, if_neg (by simp [hu, ho])]
  cases s.lookup .load .data va (withOffset pa start) <;> rfl

/-- The value a load reads from a line. -/
theorem lineValue_toNat (t : State) (w : BitVec 2) {start : DWord} {n : Nat} (hn : start.toNat % 8 + n ≤ 8) :
    (assemble t.dataBe (lineBytes (t.dcache.line (setOf va) w).data ((withOffset pa start).extractLsb' 0 5) n)).toNat =
      lineNat t.dataBe (t.dcache.line (setOf va) w) ((withOffset pa start).toNat % 32) n := by
  rw [assemble_lineBytes _ _ _ _ (by omega) (by rw [lineOffset_toNat]; exact withOffset_fits hn), lineOffset_toNat]

theorem State.loadFrom_of_hit {way : BitVec 2} {start : DWord} {n : Nat} (hn : start.toNat % 8 + n ≤ 8)
    (h : hitsAt s .load va pa attr way) :
    ∃ v, s.loadFrom va start n = .ok (withOffset pa start, v) s ∧
      v.toNat = lineNat s.dataBe (s.dcache.line (setOf va) way) ((withOffset pa start).toNat % 32) n := by
  obtain ⟨ht, hu, ho, hc, hh⟩ := h
  have hl : s.lookup .load .data va (withOffset pa start) = .ok way s :=
    State.lookup_of_hit .load (by rw [tagOf_withOffset]; exact hh)
  exact ⟨_, by rw [State.loadFrom_cached start n ht hu ho hc, hl, Res.ok_bind], lineValue_toNat s way hn⟩

theorem State.loadFrom_of_miss {start : DWord} {n : Nat} (hs : s.MemoryForm) (hn : start.toNat % 8 + n ≤ 8)
    (h : missesAt s .load va pa attr) (hr : lineReads s pa) :
    ∃ way v t, s.loadFrom va start n = .ok (withOffset pa start, v) t ∧ isVictim s .data (setOf va) way ∧
      LineFilled s t .data (setOf va) way pa ∧
      v.toNat = lineNat s.dataBe (t.dcache.line (setOf va) way) ((withOffset pa start).toNat % 32) n := by
  obtain ⟨ht, hu, ho, hc, hh⟩ := h
  obtain ⟨way, t, hl, hv, hf⟩ := State.lookup_of_miss (c := .data) (va := va) (pa := withOffset pa start) hs .load
    (by rw [tagOf_withOffset]; exact hh) (lineReads_withOffset hr start)
  refine ⟨way, _, t, by rw [State.loadFrom_cached start n ht hu ho hc, hl, Res.ok_bind], hv, hf.of_line (withOffset_line ..), ?_⟩
  rw [lineValue_toNat t way hn, hf.dataBe_eq]

theorem State.loadFrom_of_error (hs : s.MemoryForm) (start : DWord) (n : Nat) (h : missesAt s .load va pa attr) (hw : s.wbuf = [])
    (hl : s.lateError = none) (ha : s.readAnswer (lineDoublewords pa) = .error) :
    ∃ way t, s.loadFrom va start n = .exc .busErrorData t ∧ isVictim s .data (setOf va) way ∧
      LineLost s t .data (setOf va) way := by
  obtain ⟨ht, hu, ho, hc, hh⟩ := h
  obtain ⟨way, t, hlk, hv, hf⟩ := State.lookup_of_error (c := .data) (va := va) (pa := withOffset pa start) hs
    (k := .load) (by decide) (by rw [tagOf_withOffset]; exact hh) hw hl (by rw [withOffset_inChipRange, hc])
    (by rw [lineDoublewords, withOffset_line]; exact ha)
  exact ⟨way, t, by rw [State.loadFrom_cached start n ht hu ho hc, hlk]; rfl, hv, hf⟩

end Loads

/-! ## Stores -/

theorem State.writeLine_line {s : State} (hs : s.MemoryForm) (set : BitVec 8) (way : BitVec 2) (offset : BitVec 5) (bytes : List Byte)
    (dirty : Bool) :
    (s.writeLine set way offset bytes dirty).dcache.line set way =
      { s.dcache.line set way with
        data := setLineBytes (s.dcache.line set way).data offset bytes
        dirty := (s.dcache.line set way).dirty || dirty } := Cache.line_setLine_same (hs.cache_wf .data) ..

theorem State.writeLine_otherLines {s : State} (hs : s.MemoryForm) (set : BitVec 8) (way : BitVec 2) (offset : BitVec 5)
    (bytes : List Byte) (dirty : Bool) : sameOtherLines s (s.writeLine set way offset bytes dirty) .data set way :=
  fun _ _ hne => Cache.line_setLine_other (hs.cache_wf .data) _ hne

/-- From `t` to `u` a store of the low `n` bytes of `v` at `pa` changed the line of a way of the data cache: under write-back it is
dirty, under write-through the bytes are also stored; nothing else changed. -/
structure LineWritten (t u : State) (set : BitVec 8) (way : BitVec 2) (attr : BitVec 3) (pa : PAddr) (n : Nat) (v : DWord) :
    Prop where
  line : u.dcache.line set way =
    { t.dcache.line set way with
      data := setLineBytes (t.dcache.line set way).data (pa.extractLsb' 0 5) (disassemble t.dataBe n v)
      dirty := (t.dcache.line set way).dirty || attr == 3#3 }
  otherLines : sameOtherLines t u .data set way
  writeBack : attr = 3#3 → u.mem = t.mem ∧ u.wbuf = t.wbuf
  writeThrough : attr ≠ 3#3 → t.storedBytes u pa n v
  frame : u = { t with dcache := u.dcache, wbuf := u.wbuf, mem := u.mem }

/-- How a store goes on once its line is in the cache (R186). -/
def State.writeFound (t : State) (va : DWord) (p : Physical) (way : BitVec 2) (bytes : List Byte) : Res Unit :=
  if p.attr = 3#3 then .ok () (t.writeLine (setOf va) way (p.pa.extractLsb' 0 5) bytes true)
  else (t.bufferWrite p.pa bytes).bind fun _ u => .ok () (u.writeLine (setOf va) way (p.pa.extractLsb' 0 5) bytes false)

theorem State.writeFound_of {t : State} (ht : t.MemoryForm) (va : DWord) (way : BitVec 2) {attr : BitVec 3} (pa : PAddr) {n : Nat}
    (hn : n ≤ 8) (v : DWord) (hb : attr = 3#3 ∨ t.wbuf.length < 4 ∨ t.writesGo = true) :
    ∃ u, t.writeFound va { pa := pa, attr := attr } way (disassemble t.dataBe n v) = .ok () u ∧
      LineWritten t u (setOf va) way attr pa n v := by
  by_cases h3 : attr = 3#3
  · subst h3
    refine ⟨_, if_pos rfl, ⟨State.writeLine_line ht .., State.writeLine_otherLines ht _ _ _ _ _, fun _ => ⟨rfl, rfl⟩, fun h => absurd rfl h, rfl⟩⟩
  · obtain ⟨u, hu, hframe, hdrain⟩ := State.bufferWrite_of pa (disassemble t.dataBe n v) (hb.resolve_left h3)
    have hform : u.MemoryForm := Res.all_ok (ht.bufferWrite pa ((disassemble_length ..).trans_le hn)) hu
    have hd : u.dcache = t.dcache := by rw [hframe]
    refine ⟨u.writeLine (setOf va) way (pa.extractLsb' 0 5) (disassemble t.dataBe n v) false,
      by rw [State.writeFound, if_neg h3, hu, Res.ok_bind], ⟨?_, ?_, fun h => absurd h h3, fun _ => ?_, ?_⟩⟩
    · rw [State.writeLine_line hform, hd]
      simp [h3]
    · intro set' way' hne
      rw [State.writeLine_otherLines hform _ _ _ _ _ set' way' hne]
      exact congrArg (Cache.line · set' way') hd
    · exact State.storedBytes_of ht.1 hn hdrain
    · rw [hframe]; rfl

section Stores

variable {s : State} {va : DWord} {pa : PAddr} {attr : BitVec 3} {way : BitVec 2} {start : DWord} {n : Nat} (v : DWord)

/-- A cached store writes its bytes through the cache. -/
theorem State.storeTo_cached (start : DWord) (n : Nat) (ht : s.translate .store va = .ok { pa := pa, attr := attr } s)
    (hc : inChipRange pa = false) :
    s.storeTo true va start n v =
      s.writeBytes va { pa := withOffset pa start, attr := attr } (disassemble s.dataBe n v) := by
  unfold State.storeTo
  rw [show s.translateWith .store true va = _ from ht, Res.ok_bind, State.storePhysical]
  dsimp only
  rw [if_neg (by simp [withOffset_inChipRange, hc])]

/-- A store goes on in the line that the lookup gives, but for a miss under write-through without allocation. -/
theorem State.writeBytes_cached {p : Physical} (bytes : List Byte) (hu : p.attr ≠ 2#3) (ho : s.dcacheOff = false)
    (h : p.attr ≠ 0#3 ∨ s.dcache.hits (setOf va) (tagOf p.pa) ≠ []) :
    s.writeBytes va p bytes = (s.lookup .store .data va p.pa).bind fun w t => t.writeFound va p w bytes := by
  have hu : ¬p.attr = attrUncached := hu
  rw [State.writeBytes, if_neg (by simp [hu, ho]), if_neg (by tauto)]
  rfl

/-- What a store that hits leaves. -/
theorem LineWritten.storeHits {u : State} {set : BitVec 8} (hn : pa.toNat % 32 + n ≤ 32) (h : LineWritten s u set way attr pa n v) :
    storeHits s u set way attr pa n v := by
  have hline := h.line
  unfold Sys2Proof.storeHits
  dsimp only
  refine ⟨?_, by rw [hline], by rw [hline], by rw [hline], by rw [hline], h.otherLines, h.writeBack, h.writeThrough⟩
  rw [← lineOffset_toNat]
  refine lineHolds_setLineBytes _ _ _ _ n v (by rw [lineOffset_toNat]; exact hn) _ (congrArg CacheLine.data hline) fun k hk => ?_
  simp [hk]

theorem State.storeTo_of_hit (hs : s.MemoryForm) (hn : start.toNat % 8 + n ≤ 8) (h : hitsAt s .store va pa attr way)
    (hb : attr = 3#3 ∨ s.wbuf.length < 4 ∨ s.writesGo = true) :
    ∃ t, s.storeTo true va start n v = .ok () t ∧ storeHits s t (setOf va) way attr (withOffset pa start) n v ∧
      t = { s with dcache := t.dcache, wbuf := t.wbuf, mem := t.mem } := by
  obtain ⟨ht, hu, ho, hc, hh⟩ := h
  have hh : s.dcache.hits (setOf va) (tagOf (withOffset pa start)) = [way] := by rw [tagOf_withOffset]; exact hh
  have hl : s.lookup .store .data va (withOffset pa start) = .ok way s := State.lookup_of_hit .store hh
  obtain ⟨u, hwr, hw⟩ := State.writeFound_of hs va way (withOffset pa start) (n := n) (by omega) v hb
  refine ⟨u, ?_, hw.storeHits v (withOffset_fits hn), hw.frame⟩
  rw [State.storeTo_cached v start n ht hc, State.writeBytes_cached _ hu ho (.inr (by simp [hh])),
    hl, Res.ok_bind, hwr]

/-- A store that misses under write-through without allocation goes to memory alone. -/
theorem State.storeTo_of_bypass (hs : s.MemoryForm) (hn : start.toNat % 8 + n ≤ 8) (h : missesAt s .store va pa 0#3)
    (hb : s.wbuf.length < 4 ∨ s.writesGo = true) :
    ∃ t, s.storeTo true va start n v = .ok () t ∧ s.storedBytes t (withOffset pa start) n v ∧
      t = { s with wbuf := t.wbuf, mem := t.mem } := by
  obtain ⟨ht, hu, ho, hc, hh⟩ := h
  have hh : s.dcache.hits (setOf va) (tagOf (withOffset pa start)) = [] := by rw [tagOf_withOffset]; exact hh
  obtain ⟨t, hbuf, hframe, hdrain⟩ := State.bufferWrite_of (withOffset pa start) (disassemble s.dataBe n v) hb
  refine ⟨t, ?_, State.storedBytes_of hs.1 (by omega) hdrain, hframe⟩
  rw [State.storeTo_cached v start n ht hc, State.writeBytes, if_neg (by simp [attrUncached, ho]), if_pos ⟨rfl, hh⟩, hbuf]

theorem State.storedBytes_congr {s s' t : State} (hs : s.storedBytes t pa n v) (hbe : s'.dataBe = s.dataBe) (hm : s'.mem = s.mem)
    (hw : s'.wbuf = s.wbuf) : s'.storedBytes t pa n v := by
  obtain ⟨hin, hout⟩ := hs
  exact ⟨hbe ▸ hin, fun a ha => (hout a ha).trans (State.physByte_congr hm hw a).symm⟩

/-- A store that misses where a store allocates refills a way and goes on as on a hit. -/
theorem State.storeTo_of_miss (hs : s.MemoryForm) (hn : start.toNat % 8 + n ≤ 8) (h : missesAt s .store va pa attr) (ha : attr ≠ 0#3)
    (hh : s.env.writeHold = false) (hr : lineReads s pa) :
    ∃ way t, s.storeTo true va start n v = .ok () t ∧ storeRefills s t (setOf va) way attr (withOffset pa start) n v ∧
      t = { s with dcache := t.dcache, wbuf := t.wbuf, mem := t.mem, choices := t.choices } := by
  obtain ⟨ht, hu, ho, hc, hmiss⟩ := h
  have hmiss : s.dcache.hits (setOf va) (tagOf (withOffset pa start)) = [] := by rw [tagOf_withOffset]; exact hmiss
  obtain ⟨way, t, hl, hv, hf⟩ := State.lookup_of_miss (c := .data) hs .store hmiss (lineReads_withOffset hr start)
  have htform : t.MemoryForm := Res.all_ok (hs.lookup ..) hl
  have hgo : t.writesGo = true := by
    rw [hf.frame]
    exact State.writesGo_of hh hr.2.1
  obtain ⟨u, hwr, hw⟩ := State.writeFound_of htform va way (withOffset pa start) (n := n) (attr := attr) (by omega) v (.inr (.inr hgo))
  rw [hf.dataBe_eq] at hwr
  refine ⟨way, u, ?_, ?_, ?_⟩
  · rw [State.storeTo_cached v start n ht hc, State.writeBytes_cached _ hu ho (.inl ha), hl, Res.ok_bind, hwr]
  · have hline := hw.line
    obtain ⟨htag, hvalid, hlock, hdata⟩ := hf.filled
    refine ⟨hv, ?_, ?_, ?_, ?_, ?_, fun set' way' hne => ?_, fun h3 => ?_, fun h3 => ?_⟩
    · rw [← lineOffset_toNat]
      exact lineHolds_setLineBytes _ _ _ _ n v (by rw [lineOffset_toNat]; exact withOffset_fits hn) _
        ((congrArg CacheLine.data hline).trans (by rw [hf.dataBe_eq]; rfl)) hdata
    · rw [hline]; exact htag
    · rw [hline]; exact hvalid
    · rw [hline]; exact hlock
    · rw [hline]
      have hclean : (t.dcache.line (setOf va) way).dirty = false := hf.clean
      simp [hclean]
    · exact (hw.otherLines set' way' hne).trans (hf.otherLines set' way' hne)
    · exact castsOut_congr hf.castOut (hw.writeBack h3).1 (hw.writeBack h3).2
    · exact ⟨{ s with wbuf := t.wbuf, mem := t.mem }, castsOut_congr hf.castOut rfl rfl, rfl,
        State.storedBytes_congr v (hw.writeThrough h3) hf.dataBe_eq.symm rfl rfl⟩
  · rw [hw.frame, hf.data_frame]

end Stores

end Sys2Proof.Machine
end

section
/-! SUPPORT. The aligned loads and stores of a GPR as one access each, their accesses and those of a fetch through the caches, and
the statement on accesses through the caches (40_load_store.md R261 to R272; 21_cache.md R186, R205). -/

namespace Sys2Proof.Machine

/-! ## The aligned loads and stores as one access -/

theorem sextBytes_eq (n : Nat) (v : DWord) : sextBytes n v = BitVec.ofInt 64 ((v.toNat : Int).bmod (2 ^ (8 * n))) := by
  rw [sextBytes, BitVec.signExtend, BitVec.toInt_setWidth]

theorem sextBytes_eight (v : DWord) : sextBytes 8 v = v := by simp [sextBytes]

theorem zextBytes_eq {n : Nat} {v : DWord} (h : v.toNat < 256 ^ n) : zextBytes n v = BitVec.ofNat 64 v.toNat := by
  have hp : 2 ^ (8 * n) = 256 ^ n := by rw [Nat.pow_mul]
  apply BitVec.eq_of_toNat_eq
  rw [zextBytes, BitVec.toNat_setWidth, BitVec.toNat_setWidth, hp, Nat.mod_eq_of_lt h, BitVec.toNat_ofNat]

section Forms

variable {s : State} {rt base : RegNum} {offset : BitVec 16} {i : Instr} {n : Nat}

/-- An aligned load reads its width at its address and extends the value. -/
theorem exec_alignedLoad {ext : Nat → DWord} (h : (i, n, ext) ∈ alignedLoads rt offset base)
    (hd : isDoubleword i = true → s.is64bitOps = true) :
    ∃ f : DWord → DWord, (∀ v, v.toNat < 256 ^ n → f v = ext v.toNat) ∧
      exec i s = loadGpr rt (s.load (s.effAddr base offset) n) s f := by
  simp only [alignedLoads, List.mem_cons, List.not_mem_nil, or_false, Prod.mk.injEq] at h
  obtain ⟨rfl, rfl, rfl⟩ | ⟨rfl, rfl, rfl⟩ | ⟨rfl, rfl, rfl⟩ | ⟨rfl, rfl, rfl⟩ | ⟨rfl, rfl, rfl⟩ | ⟨rfl, rfl, rfl⟩ | ⟨rfl, rfl, rfl⟩ := h
  · exact ⟨sextBytes 1, fun v _ => sextBytes_eq 1 v, rfl⟩
  · exact ⟨zextBytes 1, fun v hv => zextBytes_eq hv, rfl⟩
  · exact ⟨sextBytes 2, fun v _ => sextBytes_eq 2 v, rfl⟩
  · exact ⟨zextBytes 2, fun v hv => zextBytes_eq hv, rfl⟩
  · exact ⟨sextBytes 4, fun v _ => sextBytes_eq 4 v, rfl⟩
  · exact ⟨zextBytes 4, fun v hv => zextBytes_eq hv, wide_of (hd rfl)⟩
  · exact ⟨sextBytes 8, fun v _ => by rw [sextBytes_eight, BitVec.ofNat_toNat, BitVec.setWidth_eq], wide_of (hd rfl)⟩

/-- An aligned store writes its width at its address. -/
theorem exec_alignedStore (h : (i, n) ∈ alignedStores rt offset base) (hd : isDoubleword i = true → s.is64bitOps = true) :
    exec i s = storeGpr rt offset base n s := by
  simp only [alignedStores, List.mem_cons, List.not_mem_nil, or_false, Prod.mk.injEq] at h
  obtain ⟨rfl, rfl⟩ | ⟨rfl, rfl⟩ | ⟨rfl, rfl⟩ | ⟨rfl, rfl⟩ := h
  · rfl
  · rfl
  · rfl
  · exact wide_of (hd rfl)

/-- An aligned access of a width that divides 8 lies within a doubleword. -/
theorem aligned_fits {va n : Nat} (hn : n ∣ 8) (ha : va % n = 0) : va % 8 + n ≤ 8 := by
  have hd : n ∣ 8 - va % 8 := Nat.dvd_sub hn (Nat.dvd_of_mod_eq_zero ((Nat.mod_mod_of_dvd va hn).trans ha))
  have hle := Nat.le_of_dvd (by omega) hd
  omega

theorem alignedLoads_width {ext : Nat → DWord} (h : (i, n, ext) ∈ alignedLoads rt offset base) : n ∣ 8 := by
  simp only [alignedLoads, List.mem_cons, List.not_mem_nil, or_false, Prod.mk.injEq] at h
  obtain ⟨-, rfl, -⟩ | ⟨-, rfl, -⟩ | ⟨-, rfl, -⟩ | ⟨-, rfl, -⟩ | ⟨-, rfl, -⟩ | ⟨-, rfl, -⟩ | ⟨-, rfl, -⟩ := h
  all_goals decide

theorem alignedStores_width (h : (i, n) ∈ alignedStores rt offset base) : n ∣ 8 := by
  simp only [alignedStores, List.mem_cons, List.not_mem_nil, or_false, Prod.mk.injEq] at h
  obtain ⟨-, rfl⟩ | ⟨-, rfl⟩ | ⟨-, rfl⟩ | ⟨-, rfl⟩ := h
  all_goals decide

end Forms

/-! ## Aligned accesses through the data cache -/

theorem State.load_of_aligned {s : State} {va : DWord} {n : Nat} (ha : va.toNat % n = 0) : s.load va n = s.loadFrom va va n := by
  simp [State.load, aligned, ha]

theorem State.store_of_aligned {s : State} {va : DWord} {n : Nat} (cd : Bool) (v : DWord) (ha : va.toNat % n = 0) :
    s.store cd va n v = s.storeTo cd va va n v := by simp [State.store, aligned, ha]

theorem loadRefills_congr {s t u : State} {set : BitVec 8} {way : BitVec 2} {pa : PAddr} (h : loadRefills s t set way pa)
    (hd : u.dcache = t.dcache) (hm : u.mem = t.mem) (hw : u.wbuf = t.wbuf) : loadRefills s u set way pa := by
  obtain ⟨hv, hf, hc, hcast, hl⟩ := h
  have hcache : u.cache .data = t.cache .data := hd
  refine ⟨hv, ?_, hd ▸ hc, castsOut_congr hcast hm hw, ?_⟩
  · rwa [refilled, hcache]
  · rwa [sameOtherLines, hcache]

section Aligned

variable {s : State} {va : DWord} {pa : PAddr} {attr : BitVec 3} {way : BitVec 2} {n : Nat}

/-- An aligned load that hits. -/
theorem State.load_of_hit (hn : n ∣ 8) (ha : va.toNat % n = 0) (h : hitsAt s .load va pa attr way) :
    ∃ v, s.load va n = .ok (pa, v) s ∧ v.toNat = lineNat s.dataBe (s.dcache.line (setOf va) way) (pa.toNat % 32) n := by
  have hp := withOffset_self (State.translateWith_ok h.1).2
  have hl := State.loadFrom_of_hit (aligned_fits hn ha) h
  rwa [← State.load_of_aligned ha, hp] at hl

/-- An aligned load that misses, its block read being answered. -/
theorem State.load_of_miss (hs : s.MemoryForm) (hn : n ∣ 8) (ha : va.toNat % n = 0) (h : missesAt s .load va pa attr)
    (hr : lineReads s pa) :
    ∃ way v t, s.load va n = .ok (pa, v) t ∧ isVictim s .data (setOf va) way ∧ LineFilled s t .data (setOf va) way pa ∧
      v.toNat = lineNat s.dataBe (t.dcache.line (setOf va) way) (pa.toNat % 32) n := by
  have hp := withOffset_self (State.translateWith_ok h.1).2
  have hl := State.loadFrom_of_miss hs (aligned_fits hn ha) h hr
  rwa [← State.load_of_aligned ha, hp] at hl

/-- An aligned store that hits. -/
theorem State.store_of_hit (v : DWord) (hs : s.MemoryForm) (hn : n ∣ 8) (ha : va.toNat % n = 0) (h : hitsAt s .store va pa attr way)
    (hb : attr = 3#3 ∨ s.wbuf.length < 4 ∨ s.writesGo = true) :
    ∃ t, s.store true va n v = .ok () t ∧ storeHits s t (setOf va) way attr pa n v ∧
      t = { s with dcache := t.dcache, wbuf := t.wbuf, mem := t.mem } := by
  have hp := withOffset_self (State.translateWith_ok h.1).2
  have hl := State.storeTo_of_hit v hs (aligned_fits hn ha) h hb
  rwa [← State.store_of_aligned true v ha, hp] at hl

/-- An aligned store that misses and does not allocate. -/
theorem State.store_of_bypass (v : DWord) (hs : s.MemoryForm) (hn : n ∣ 8) (ha : va.toNat % n = 0) (h : missesAt s .store va pa 0#3)
    (hb : s.wbuf.length < 4 ∨ s.writesGo = true) :
    ∃ t, s.store true va n v = .ok () t ∧ s.storedBytes t pa n v ∧ t = { s with wbuf := t.wbuf, mem := t.mem } := by
  have hp := withOffset_self (State.translateWith_ok h.1).2
  have hl := State.storeTo_of_bypass v hs (aligned_fits hn ha) h hb
  rwa [← State.store_of_aligned true v ha, hp] at hl

/-- An aligned store that misses and allocates, its block read being answered. -/
theorem State.store_of_miss (v : DWord) (hs : s.MemoryForm) (hn : n ∣ 8) (ha : va.toNat % n = 0) (h : missesAt s .store va pa attr)
    (h0 : attr ≠ 0#3) (hh : s.env.writeHold = false) (hr : lineReads s pa) :
    ∃ way t, s.store true va n v = .ok () t ∧ storeRefills s t (setOf va) way attr pa n v ∧
      t = { s with dcache := t.dcache, wbuf := t.wbuf, mem := t.mem, choices := t.choices } := by
  have hp := withOffset_self (State.translateWith_ok h.1).2
  have hl := State.storeTo_of_miss v hs (aligned_fits hn ha) h h0 hh hr
  rwa [← State.store_of_aligned true v ha, hp] at hl

end Aligned

/-! ## Fetches through the instruction cache -/

section Fetch

variable {s : State} {pa : PAddr} {attr : BitVec 3}

/-- A cached fetch reads the line the lookup gives. -/
theorem State.fetchWord_cached (ha : s.pc.toNat % 4 = 0) (ht : s.translate .fetch s.pc = .ok { pa := pa, attr := attr } s)
    (hu : attr ≠ 2#3) (ho : s.icacheOff = false) :
    s.fetchWord =
      (s.lookup .fetch .inst s.pc pa).bind fun w t =>
        .ok (low32 (assemble t.be (lineBytes (t.icache.line (setOf s.pc) w).data (pa.extractLsb' 0 5) 4))) t := by
  have hu : ¬attr = attrUncached := hu
  unfold State.fetchWord
  rw [if_neg (by simp [aligned, ha]), ht, Res.ok_bind, if_neg (by simp [hu, ho]), State.readBytes, if_neg (by simp [hu])]
  cases s.lookup .fetch .inst s.pc pa <;> rfl

/-- A word at a multiple of 4 lies within a line. -/
theorem State.fetch_fits (ha : s.pc.toNat % 4 = 0) (ht : s.translate .fetch s.pc = .ok { pa := pa, attr := attr } s) :
    pa.toNat % 32 + 4 ≤ 32 := by
  have hlow := congrArg BitVec.toNat (State.translateWith_ok ht).2
  simp only [BitVec.extractLsb'_toNat, Nat.shiftRight_zero] at hlow
  omega

/-- The word a fetch reads from a line. -/
theorem lineWord_toNat (be : Bool) (l : CacheLine) (h : pa.toNat % 32 + 4 ≤ 32) :
    (low32 (assemble be (lineBytes l.data (pa.extractLsb' 0 5) 4))).toNat = lineNat be l (pa.toNat % 32) 4 := by
  rw [low32_assemble_toNat _ (lineBytes_length ..), lineBytes_eq _ _ _ (by rw [lineOffset_toNat]; exact h), lineOffset_toNat]
  rfl

end Fetch

/-! ## The obligation -/

/-- The instruction completed with `v` in GPR `r` after its access left `t`. -/
theorem setReg_after {s t : State} (r : RegNum) (v : DWord)
    (ht : t = { s with dcache := t.dcache, wbuf := t.wbuf, mem := t.mem, choices := t.choices }) :
    ∃ u, setReg r v t = .next u ∧ u.rget r = gprHolds r v ∧ (∀ q, q ≠ r → u.rget q = s.rget q) ∧ s.movedOn u ∧
      u.dcache = t.dcache ∧ u.mem = t.mem ∧ u.wbuf = t.wbuf ∧
      u = { s with
        gpr := u.gpr, dcache := u.dcache, wbuf := u.wbuf, mem := u.mem, choices := u.choices, pc := u.pc
        delaySlot := u.delaySlot } := by
  refine ⟨_, rfl, ?_, fun q hq => ?_, ?_, ?_, ?_, ?_, ?_⟩
  · simp [State.rget_setGpr_same, gprHolds]
  · rw [State.advance_rget, State.rget_setGpr_other _ _ hq, ht]
    rfl
  · rw [ht]
    unfold State.setGpr
    split <;> exact ⟨rfl, rfl⟩
  · simp
  · simp
  · simp
  · rw [ht]
    unfold State.setGpr
    split <;> rfl

/-- Settles O46, from the access rules of loads and stores at each width, the aligned instructions being one such access each, and
the lookup of a fetch. -/
theorem cachedWordHits : Obligations.CachedWordHits := by
  intro s pa attr way hs
  refine ⟨fun va start n _ hdw hn => ?accesses, fun rt base offset => ⟨fun i n ext hi ha hd => ?loads, fun i n hi ha hd => ?stores⟩,
    fun ha ht hu ho => ?fetches⟩
  case accesses =>
    dsimp only
    rw [withOffset_eq_ofNat]
    refine ⟨State.loadFrom_of_hit hn, fun h hr => ?_, fun v => ⟨State.storeTo_of_hit v hs hn, ?_, State.storeTo_of_miss v hs hn⟩⟩
    · obtain ⟨way, v, t, hl, hv, hf, hval⟩ := State.loadFrom_of_miss hs hn h hr
      exact ⟨way, v, t, hl, hf.loadRefills hv, hval, hf.data_frame⟩
    · rintro h rfl
      exact State.storeTo_of_bypass v hs hn h
  case loads =>
    obtain ⟨f, hf, hexec⟩ := exec_alignedLoad hi hd
    have hn := alignedLoads_width hi
    refine ⟨fun h => ?_, fun h hr => ?_⟩
    · obtain ⟨v, hl, hv⟩ := State.load_of_hit hn ha h
      refine Computes.of_setReg ?_
      rw [hexec, hl, loadGpr_ok, hf v (hv ▸ lineNat_lt ..), hv]
      rfl
    · obtain ⟨way, v, t, hl, hvic, hfill, hv⟩ := State.load_of_miss hs hn ha h hr
      obtain ⟨u, hu, hsame, hother, hmoved, hd, hm, hw, hframe⟩ := setReg_after rt (f v) hfill.data_frame
      refine ⟨way, u, by rw [hexec, hl, loadGpr_ok, hu], loadRefills_congr (hfill.loadRefills hvic) hd hm hw, ?_, hother, hmoved,
        hframe⟩
      rw [hsame, hf v (hv ▸ lineNat_lt ..), hv, hd]
      rfl
  case stores =>
    have hexec := exec_alignedStore hi hd
    have hn := alignedStores_width hi
    refine ⟨fun h hb => ?_, ?_, fun h h0 hh hr => ?_⟩
    · obtain ⟨t, ht, hst, hframe⟩ := State.store_of_hit (s.rget rt) hs hn ha h hb
      refine ⟨t.advance, by rw [hexec, storeGpr, storeAligned, ht, storeThen_ok]; rfl, hst, ?_, ?_⟩
      · rw [hframe]; exact ⟨rfl, rfl⟩
      · rw [hframe]; rfl
    · rintro h rfl hb
      obtain ⟨t, ht, hst, hframe⟩ := State.store_of_bypass (s.rget rt) hs hn ha h hb
      exact Stores.of_stored (by rw [hexec, storeGpr, storeAligned, ht, storeThen_ok]; rfl) hframe hst
    · obtain ⟨way, t, ht, hst, hframe⟩ := State.store_of_miss (s.rget rt) hs hn ha h h0 hh hr
      refine ⟨way, t.advance, by rw [hexec, storeGpr, storeAligned, ht, storeThen_ok]; rfl, hst, ?_, ?_⟩
      · rw [hframe]; exact ⟨rfl, rfl⟩
      · rw [hframe]; rfl
  case fetches =>
    have hfit := State.fetch_fits ha ht
    have hword := State.fetchWord_cached ha ht hu ho
    refine ⟨fun h => ?_, fun h hr => ?_, fun h hw hl hc hr => ?_⟩
    · have hlk : s.lookup .fetch .inst s.pc pa = .ok way s := State.lookup_of_hit .fetch h
      exact ⟨_, by rw [hword, hlk, Res.ok_bind]; rfl, lineWord_toNat _ _ hfit⟩
    · obtain ⟨way, t, hlk, hv, hf⟩ := State.lookup_of_miss (c := .inst) hs .fetch h hr
      have hbe : t.be = s.be := by rw [hf.frame]; rfl
      refine ⟨way, _, t, by rw [hword, hlk, Res.ok_bind], hv, hf.filled, hf.castOut, hf.otherLines, ?_, hf.inst_frame⟩
      rw [lineWord_toNat _ _ hfit, hbe]
      rfl
    · obtain ⟨way, t, hlk, hv, hf⟩ := State.lookup_of_error (c := .inst) (k := .fetch) hs (by decide) h hw hl hc hr
      exact ⟨way, t, by rw [hword, hlk]; rfl, hv, hf.invalid, hf.castOut, hf.otherLines, hf.inst_frame⟩

end Sys2Proof.Machine
end

section
/-! SUPPORT. The loads and stores as one access each, what an access that raises leaves, and the statement on accesses that raise
(40_load_store.md R261; 20_memory.md R125, R145, R166; 60_exceptions.md R651, U27). -/

namespace Sys2Proof.Machine

/-! ## The destination of a load -/

theorem fpEven_idem (f : FpRegNum) : fpEven (fpEven f) = fpEven f := by revert f; decide

theorem fpEven_partner (f : FpRegNum) : fpEven (fpPartner f) = fpEven f := by revert f; decide

theorem State.fget_setFgrLow_other {s : State} {f g : FpRegNum} (v : Word) (h : g ≠ f) : (s.setFgrLow f v).fget g = s.fget g :=
  State.fget_setFgr_other _ _ h

/-- A write to an FPR leaves every FGR outside it: outside the pair while FR = 0. -/
theorem State.fget_setFpr64_other {s : State} {f g : FpRegNum} (v : DWord) (hne : g ≠ f) (h : s.fr = true ∨ fpEven g ≠ fpEven f) :
    (s.setFpr64 f v).fget g = s.fget g := by
  unfold State.setFpr64
  split
  · exact State.fget_setFgr_other _ _ hne
  · next hfr =>
    have hpair : fpEven g ≠ fpEven f := h.resolve_left hfr
    have hpartner : g ≠ fpPartner f := fun e => hpair (by rw [e, fpEven_partner])
    have heven : g ≠ fpEven f := fun e => hpair (by rw [e, fpEven_idem])
    split
    · rw [State.spoilPair, State.fget_setFgrLow_other _ hpartner, State.fget_setFgrLow_other _ heven]
    · rw [State.fget_setFgrLow_other _ hne, State.fget_setFgrLow_other _ hpartner]

/-- A load leaves a free value in its destination alone. -/
theorem State.spoilDest_frame (s : State) (d : LoadDest) (v : DWord) :
    s.spoilDest d v = { s with gpr := (s.spoilDest d v).gpr, fgr := (s.spoilDest d v).fgr } := by
  cases d with
  | gpr r => simp only [State.spoilDest, State.setGpr]; split <;> rfl
  | fgr f => simp only [State.spoilDest]; split <;> rfl
  | fpr f => simp only [State.spoilDest, State.setFpr64]; split <;> [rfl; split <;> rfl]

/-- `d` is the register `r` of the load `i`: a GPR or, of coprocessor 1, an FGR or FPR. -/
def DestOf (i : Instr) (r : BitVec 5) (d : LoadDest) : Prop :=
  match d with
  | .gpr q => coprocessorOf i = none ∧ q = r
  | .fgr q | .fpr q => coprocessorOf i ≠ none ∧ q = r

theorem sameButDest_spoilDest {i : Instr} {s t : State} {r : BitVec 5} {d : LoadDest} (v : DWord) (h : DestOf i r d)
    (hg : t.gpr = s.gpr) (hf : t.fgr = s.fgr) (hc : t.fr = s.fr) : sameButDest i s (t.spoilDest d v) r := by
  have hfget (g : FpRegNum) : t.fget g = s.fget g := by simp only [State.fget, hf]
  cases d with
  | gpr q =>
    obtain ⟨hi, rfl⟩ := h
    refine ⟨fun _ => ⟨?_, fun q hq => ?_⟩, fun hn => absurd hi hn⟩
    · simp only [State.spoilDest, State.setGpr]
      split <;> exact hf
    · exact (State.rget_setGpr_other _ _ hq).trans (State.rget_congr hg q)
  | fgr q =>
    obtain ⟨hi, rfl⟩ := h
    refine ⟨fun hn => absurd hn hi, fun _ => ⟨?_, fun g hne _ => ?_⟩⟩
    · simp only [State.spoilDest]
      split <;> exact hg
    · simp only [State.spoilDest]
      split
      · exact (State.fget_setFgr_other _ _ hne).trans (hfget g)
      · exact (State.fget_setFgrLow_other _ hne).trans (hfget g)
  | fpr q =>
    obtain ⟨hi, rfl⟩ := h
    refine ⟨fun hn => absurd hn hi, fun _ => ⟨?_, fun g hne hp => ?_⟩⟩
    · exact (State.setFpr64_gpr ..).trans hg
    · exact (State.fget_setFpr64_other v hne (hc ▸ hp)).trans (hfget g)

/-! ## The loads as one access -/

/-- A load under the translation of `va`, which must be a multiple of `n`, of `m` bytes from `start`. -/
def State.loadChecked (s : State) (n : Nat) (va start : DWord) (m : Nat) : Res (PAddr × DWord) :=
  if aligned va n then s.loadFrom va start m else .exc (.addressError .load va) s

theorem State.loadChecked_self (s : State) (n : Nat) (va : DWord) : s.loadChecked n va va n = s.load va n := rfl

theorem State.loadChecked_of_aligned {s : State} {n : Nat} {va : DWord} (start : DWord) (m : Nat) (h : va.toNat % n = 0) :
    s.loadChecked n va start m = s.loadFrom va start m := by simp [State.loadChecked, aligned, h]

theorem State.loadChecked_of_misaligned {s : State} {n : Nat} {va : DWord} (start : DWord) (m : Nat) (h : va.toNat % n ≠ 0) :
    s.loadChecked n va start m = .exc (.addressError .load va) s := by simp [State.loadChecked, aligned, h]

/-- What a load does beside its destination: it may set LLbit and LLAddr. -/
def LinksOnly (also : State → State) : Prop :=
  ∀ t, also t = { t with llbit := (also t).llbit, cp0 := { t.cp0 with llAddr := (also t).cp0.llAddr } }

theorem linksOnly_id : LinksOnly id := fun _ => rfl

theorem linksOnly_linkFailed (s : State) (va : DWord) : LinksOnly (s.linkFailed va) := by
  intro t
  unfold State.linkFailed
  split <;> rfl

/-- `i` is a load at `va`, a multiple of `n`, to register `r`. -/
def LoadsOne (i : Instr) (s : State) (r : BitVec 5) (va : DWord) (n : Nat) : Prop :=
  ∃ start m d also k, exec i s = loadThen (s.loadChecked n va start m) s d also k ∧ DestOf i r d ∧ LinksOnly also

section Loads

variable {i : Instr} {s : State} {r : BitVec 5} {va : DWord} {n : Nat}

/-- A load to a GPR of `n` bytes at `va`. -/
theorem LoadsOne.gpr {f : DWord → DWord} (hi : coprocessorOf i = none) (h : exec i s = loadGpr r (s.load va n) s f) :
    LoadsOne i s r va n := ⟨va, n, .gpr r, id, _, h, ⟨hi, rfl⟩, linksOnly_id⟩

/-- A load to a GPR of some of the bytes around `va`. -/
theorem LoadsOne.part {start : DWord} {m : Nat} {f : DWord → DWord} (hi : coprocessorOf i = none)
    (h : exec i s = loadGpr r (s.loadFrom va start m) s f) : LoadsOne i s r va 1 :=
  ⟨start, m, .gpr r, id, _, by rw [State.loadChecked_of_aligned _ _ (Nat.mod_one _)]; exact h, ⟨hi, rfl⟩, linksOnly_id⟩

theorem LoadsOne.linked {offset : BitVec 16} {base : RegNum} (hi : coprocessorOf i = none)
    (h : exec i s = loadLinked r offset base n s) : LoadsOne i s r (s.effAddr base offset) n :=
  ⟨_, n, .gpr r, _, _, h, ⟨hi, rfl⟩, linksOnly_linkFailed s _⟩

/-- A load to a register of coprocessor 1. -/
theorem LoadsOne.fpr {d : LoadDest} {write : DWord → State → State} (hd : DestOf i r d)
    (h : exec i s = loadFpr d write (s.load va n) s) : LoadsOne i s r va n := ⟨va, n, d, id, _, h, hd, linksOnly_id⟩

end Loads

/-! ## What raises before the access -/

/-- `i` raises the Address Error of a misaligned address and what the translation of an aligned one raises. -/
def RaisesFirst (i : Instr) (s : State) (k : AccessKind) (va : DWord) (n : Nat) : Prop :=
  (va.toNat % n ≠ 0 → Raises i s (.addressError k va)) ∧ (va.toNat % n = 0 → ∀ x, s.translate k va = .exc x s → Raises i s x)

/-- Of two operations in sequence the one that raises is the first or, after it, the second. -/
theorem Res.bind_exc {α β : Type} {q : Res α} {k : α → State → Res β} {x : Exc} {t : State} (h : q.bind k = .exc x t) :
    q = .exc x t ∨ ∃ v u, q = .ok v u ∧ k v u = .exc x t := by
  cases q with
  | ok v u => exact .inr ⟨v, u, rfl, h⟩
  | exc y u => cases h; exact .inl rfl
  | stall u => cases h
  | fault f => cases h
  | refuse f => cases h

theorem State.tlbTranslate_exc_ne {s t : State} {k : AccessKind} {cd : Bool} {va : DWord} {x : Exc}
    (h : s.tlbTranslate k cd va = .exc x t) : x ≠ .busErrorData := by
  rintro rfl
  unfold State.tlbTranslate at h
  split at h
  · cases h
  · dsimp only at h
    split_ifs at h
    all_goals cases h
  · cases h

/-- No translation raises a Bus Error. -/
theorem State.translate_exc_ne {s t : State} {k : AccessKind} {va : DWord} {x : Exc} (h : s.translate k va = .exc x t) :
    x ≠ .busErrorData := by
  obtain h | ⟨p, u, -, h⟩ := Res.bind_exc h
  · split at h
    · cases h
    · cases h; exact nofun
    · cases h
    · exact State.tlbTranslate_exc_ne h
  · split at h <;> cases h

section Raises

variable {i : Instr} {s : State} {r : BitVec 5} {va : DWord} {n : Nat} (hdm : s.debugMode = false)
include hdm

theorem loadThen_raise {x : Exc} (t : State) (d : LoadDest) (also : State → State) (k : PAddr × DWord → State → Out)
    (hx : x ≠ .busErrorData) : loadThen (.exc x t) s d also k = raise x t := by simp [loadThen, hdm, hx]

theorem LoadsOne.raisesFirst (h : LoadsOne i s r va n) : RaisesFirst i s .load va n := by
  obtain ⟨start, m, d, also, k, hexec, -, -⟩ := h
  refine ⟨fun ha => ?_, fun ha x hx => ?_⟩
  · rw [Raises, hexec, State.loadChecked_of_misaligned _ _ ha, loadThen_raise hdm _ _ _ _ (by simp), raise_of hdm]
  · have hl : s.loadFrom va start m = .exc x s := by rw [State.loadFrom, hx]; rfl
    rw [Raises, hexec, State.loadChecked_of_aligned _ _ ha, hl, loadThen_raise hdm _ _ _ _ (State.translate_exc_ne hx), raise_of hdm]

/-- A store of some of the bytes around `va`. -/
theorem raisesFirst_of_storeTo {start : DWord} {m : Nat} {v : DWord} (h : exec i s = storeUnaligned va start m v s) :
    RaisesFirst i s .store va 1 := by
  refine ⟨fun ha => absurd (Nat.mod_one _) ha, fun _ x hx => ?_⟩
  have hst : s.storeTo true va start m v = .exc x s := by rw [State.storeTo, show s.translateWith .store true va = _ from hx]; rfl
  rw [Raises, h, storeUnaligned, hst, storeThen_raise _ _ _ _ _ _ (by simp [hdm]), raise_of hdm]

theorem raisesFirst_of_store {v : DWord} {k : State → Out} (h : exec i s = storeAligned va n v s k) : RaisesFirst i s .store va n := by
  refine ⟨fun ha => ?_, fun ha x hx => ?_⟩
  · have hst : s.store true va n v = .exc (.addressError .store va) s := by simp [State.store, aligned, ha]
    rw [Raises, h, storeAligned, hst, storeThen_raise _ _ _ _ _ _ (by simp [hdm]), raise_of hdm]
  · have hst : s.store true va n v = .exc x s := by
      rw [State.store_of_aligned true v ha, State.storeTo, show s.translateWith .store true va = _ from hx]
      rfl
    rw [Raises, h, storeAligned, hst, storeThen_raise _ _ _ _ _ _ (by simp [hdm]), raise_of hdm]

/-- A conditional store checks its address whatever LLbit is. -/
theorem raisesFirst_of_conditional {offset : BitVec 16} {base : RegNum} (h : exec i s = storeConditional r offset base n s) :
    RaisesFirst i s .store (s.effAddr base offset) n := by
  by_cases hl : s.llbit = true
  · exact raisesFirst_of_store hdm (by rw [h, storeConditional, if_pos hl])
  · refine ⟨fun ha => ?_, fun ha x hx => ?_⟩
    · rw [Raises, h, storeConditional, if_neg hl]
      simp [aligned, ha, hdm, raise_of]
    · rw [Raises, h, storeConditional, if_neg hl]
      simp [aligned, ha, hx, Res.bind, hdm, raise_of]

end Raises

/-! ## The forms -/

section Forms

variable {s : State} {base : RegNum} {offset : BitVec 16}

/-- A load is one access to its register; a store raises first what its address raises. -/
def AccessOne (s : State) (r : BitVec 5) (va : DWord) (i : Instr) (k : AccessKind) (n : Nat) : Prop :=
  (k = .load ∧ LoadsOne i s r va n) ∨ (k = .store ∧ RaisesFirst i s .store va n)

theorem accessForms_one (r : BitVec 5) (hdm : s.debugMode = false) : ∀ p ∈ accessForms r offset base,
    (isDoubleword p.1 = true → s.is64bitOps = true) → (∀ z, coprocessorOf p.1 = some z → s.usable z = true) →
    AccessOne s r (s.effAddr base offset) p.1 p.2.1 p.2.2 := by
  simp only [accessForms, List.forall_mem_cons, List.not_mem_nil, false_imp_iff, implies_true, and_true]
  refine ⟨?lb, ?lbu, ?lh, ?lhu, ?lw, ?lwu, ?ld, ?ll, ?lld, ?lwc1, ?ldc1, ?lwl, ?lwr, ?ldl, ?ldr, ?sb, ?sh, ?sw, ?sd, ?sc, ?scd, ?swc1,
    ?sdc1, ?swl, ?swr, ?sdl, ?sdr⟩
  case lb | lbu | lh | lhu | lw => exact fun _ _ => .inl ⟨rfl, .gpr rfl rfl⟩
  case lwu | ld => exact fun hd _ => .inl ⟨rfl, .gpr rfl (wide_of (hd rfl))⟩
  case ll => exact fun _ _ => .inl ⟨rfl, .linked rfl rfl⟩
  case lld => exact fun hd _ => .inl ⟨rfl, .linked rfl (wide_of (hd rfl))⟩
  case lwc1 => exact fun _ hc => .inl ⟨rfl, .fpr (d := .fgr r) ⟨nofun, rfl⟩ (needs_of (hc 1#2 rfl))⟩
  case ldc1 => exact fun _ hc => .inl ⟨rfl, .fpr (d := .fpr r) ⟨nofun, rfl⟩ (needs_of (hc 1#2 rfl))⟩
  case lwl => exact fun _ _ => .inl ⟨rfl, .part (f := fun v => sext32 (mergeLeft _ (s.rget32 r) (low32 v))) rfl rfl⟩
  case lwr => exact fun _ _ => .inl ⟨rfl, .part (f := fun v => sext32 (mergeRight _ (s.rget32 r) (low32 v))) rfl rfl⟩
  case ldl | ldr => exact fun hd _ => .inl ⟨rfl, .part rfl (wide_of (hd rfl))⟩
  case sb | sh | sw => exact fun _ _ => .inr ⟨rfl, raisesFirst_of_store hdm rfl⟩
  case sd => exact fun hd _ => .inr ⟨rfl, raisesFirst_of_store hdm (wide_of (hd rfl))⟩
  case sc => exact fun _ _ => .inr ⟨rfl, raisesFirst_of_conditional hdm rfl⟩
  case scd => exact fun hd _ => .inr ⟨rfl, raisesFirst_of_conditional hdm (wide_of (hd rfl))⟩
  case swc1 | sdc1 => exact fun _ hc => .inr ⟨rfl, raisesFirst_of_store hdm (needs_of (hc 1#2 rfl))⟩
  case swl | swr => exact fun _ _ => .inr ⟨rfl, raisesFirst_of_storeTo hdm rfl⟩
  case sdl | sdr => exact fun hd _ => .inr ⟨rfl, raisesFirst_of_storeTo hdm (wide_of (hd rfl))⟩

end Forms

/-! ## Bus errors of loads -/

section BusErrors

variable {i : Instr} {s : State} {r : BitVec 5} {va : DWord} {n : Nat} {pa : PAddr}

/-- A load past the cache whose read is answered with an error raises the data Bus Error, the pending writes having gone out. -/
theorem State.loadFrom_of_busError (start : DWord) (m : Nat) (h : s.pastCache .load va pa) (ha : s.readAnswer [pa.toNat / 8] = .error)
    (hl : s.lateError = none) (hh : s.env.writeHold = false) : s.loadFrom va start m = .exc .busErrorData s.drainAll := by
  obtain ⟨hc, attr, ht, hu⟩ := h
  have hu : attr = attrUncached ∨ s.dcacheOff = true := hu
  have ha : s.drainAll.readAnswer [(withOffset pa start).toNat / 8] = .error := by
    rw [readAnswer_drainAll, withOffset_toNat, show (pa.toNat / 8 * 8 + start.toNat % 8) / 8 = pa.toNat / 8 by omega, ha]
  have hread : s.uncachedRead .load (withOffset pa start) m = .exc .busErrorData s.drainAll := by
    rw [State.uncachedRead, State.busIdle_of _ hl, Res.ok_bind, if_neg (by decide), State.flushed_of (.inr (State.writesGo_of hh hl)),
      Res.ok_bind, ha]
    rfl
  unfold State.loadFrom
  rw [ht, Res.ok_bind]
  dsimp only
  rw [if_neg (by simp [withOffset_inChipRange, hc]), State.readBytes, if_pos hu, hread]
  rfl

variable {d : LoadDest} {also : State → State} {k : PAddr × DWord → State → Out} {t : State}

/-- The bus error of a load, reported at once. -/
theorem loadThen_busError (hdm : s.debugMode = false) (hl : s.lateError = none) (htd : t.debugMode = false)
    (he : t.env.lateErrors = false) :
    loadThen (.exc .busErrorData t) s d also k = .next (takeException .busErrorData (t.spoilDest d (s.fresh .result))) := by
  have hd : (t.spoilDest d (s.fresh .result)).debugMode = false := by rw [State.spoilDest_frame]; exact htd
  simp [loadThen, loadFailed, hdm, hl, he, raise_of hd]

/-- The bus error of a load, to be reported late. -/
theorem loadThen_lateError (hdm : s.debugMode = false) (hl : s.lateError = none) (he : t.env.lateErrors = true) :
    loadThen (.exc .busErrorData t) s d also k = .next (goesOn s t d also) := by simp [loadThen, loadFailed, hdm, hl, he]

end BusErrors

/-- Settles O52, each load being one access to its destination and each store an access that raises first what its address raises. -/
theorem accessesThatRaise : Obligations.AccessesThatRaise := by
  intro s r offset base i k n hi hdm hd hc
  have hone : AccessOne s r (s.effAddr base offset) i k n := accessForms_one r hdm _ hi hd hc
  obtain ⟨rfl, hload⟩ | ⟨rfl, hmis, htrans⟩ := hone
  case inr => exact ⟨hmis, htrans, fun _ hk => nomatch hk⟩
  obtain ⟨hmis, htrans⟩ := hload.raisesFirst hdm
  obtain ⟨start, m, d, also, k, hexec, hdest, halso⟩ := hload
  refine ⟨hmis, htrans, fun ha _ hl hh pa attr => ⟨fun hp hr => ⟨fun he => ?now, fun he => ?late⟩, fun h hs hw he hr => ?refill⟩⟩
  all_goals rw [State.loadChecked_of_aligned _ _ ha] at hexec
  case now =>
    rw [State.loadFrom_of_busError start m hp hr hl hh, loadThen_busError (t := s.drainAll) hdm hl hdm he] at hexec
    refine ⟨_, hexec, sameButDest_spoilDest _ hdest rfl rfl rfl, fun a => ?_, ?_⟩
    · rw [← State.drainAll_physByte s a]
      exact State.physByte_congr (by simp) (by simp) a
    · rw [State.spoilDest_frame]
      rfl
  case late =>
    rw [State.loadFrom_of_busError start m hp hr hl hh, loadThen_lateError (t := s.drainAll) hdm hl he] at hexec
    have hu : also s.drainAll = _ := halso s.drainAll
    refine ⟨_, hexec, ?_, ?_, fun a => ?_, rfl, ?_⟩
    · rw [goesOn, State.spoilDest_frame, hu]
      exact ⟨rfl, rfl⟩
    · exact sameButDest_spoilDest (t := also s.drainAll) (s.fresh .result) hdest (by rw [hu]; rfl) (by rw [hu]; rfl) (by rw [hu]; rfl)
    · rw [← State.drainAll_physByte s a]
      exact State.physByte_congr (by rw [goesOn, State.spoilDest_frame, hu]; rfl) (by rw [goesOn, State.spoilDest_frame, hu]; rfl) a
    · rw [goesOn, State.spoilDest_frame, hu]
      rfl
  case refill =>
    obtain ⟨way, t, hlf, hv, hf⟩ := State.loadFrom_of_error hs start m h hw hl hr
    have hte : t.env.lateErrors = false := by rw [hf.frame]; exact he
    have htd : t.debugMode = false := by rw [hf.frame]; exact hdm
    have hcache : (t.spoilDest d (s.fresh .result)).cache .data = t.cache .data := State.spoilDest_dcache ..
    rw [hlf, loadThen_busError hdm hl htd hte] at hexec
    refine ⟨way, _, hv, hexec, ?_, ?_, ?_, ?_, ?_⟩
    · rw [State.spoilDest_dcache]
      exact hf.invalid
    · exact castsOut_congr hf.castOut (by simp) (by simp)
    · intro set' way' hne
      rw [hcache]
      exact hf.otherLines set' way' hne
    · exact sameButDest_spoilDest _ hdest (by rw [hf.frame]) (by rw [hf.frame]) (by rw [hf.frame]; rfl)
    · rw [State.spoilDest_frame, hf.data_frame]

end Sys2Proof.Machine
end

section
/-! SUPPORT. What the operations of CACHE leave of the lines of a cache: every line as it was, or the line of one way changed
(21_cache.md R190 to R197). -/

namespace Sys2Proof.Machine

/-! ## The lines an operation leaves -/

/-- Nothing changed but the caches, the write buffer, memory, CP0 and the open replacement choices: an operation of CACHE before the
pc moves on. -/
def State.sameButOp (s t : State) : Prop :=
  t = { s with
    icache := t.icache, dcache := t.dcache, wbuf := t.wbuf, mem := t.mem, cp0 := t.cp0, choices := t.choices }

/-- From `s` to `t` an operation on cache `c` kept every line. -/
structure LinesKept (s t : State) (c : CacheId) : Prop where
  lines : ∀ set' way', (t.cache c).line set' way' = (s.cache c).line set' way'
  otherCache : sameOtherCache s t c
  frame : s.sameButOp t

/-- From `s` to `t` an operation on cache `c` made the line of one way `l` and kept every other. -/
structure LineBecomes (s t : State) (c : CacheId) (set : BitVec 8) (way : BitVec 2) (l : CacheLine) : Prop where
  line : (t.cache c).line set way = l
  otherLines : sameOtherLines s t c set way
  otherCache : sameOtherCache s t c
  frame : s.sameButOp t

section Chain

variable {s t u : State} {c : CacheId} {set : BitVec 8} {way : BitVec 2} {l : CacheLine}

theorem State.sameButOp.trans (h : s.sameButOp t) (h' : t.sameButOp u) : s.sameButOp u := by
  unfold State.sameButOp at h h'
  exact h'.trans (by rw [h])

theorem sameOtherCache_trans (h : sameOtherCache s t c) (h' : sameOtherCache t u c) : sameOtherCache s u c := by
  cases c <;> exact Eq.trans h' h

theorem LinesKept.trans_becomes (h : LinesKept s t c) (h' : LineBecomes t u c set way l) : LineBecomes s u c set way l where
  line := h'.line
  otherLines set' way' hne := (h'.otherLines set' way' hne).trans (h.lines set' way')
  otherCache := sameOtherCache_trans h.otherCache h'.otherCache
  frame := h.frame.trans h'.frame

theorem LineBecomes.trans_kept (h : LineBecomes s t c set way l) (h' : LinesKept t u c) : LineBecomes s u c set way l where
  line := (h'.lines set way).trans h.line
  otherLines set' way' hne := (h'.lines set' way').trans (h.otherLines set' way' hne)
  otherCache := sameOtherCache_trans h.otherCache h'.otherCache
  frame := h.frame.trans h'.frame

theorem LinesKept.trans (h : LinesKept s t c) (h' : LinesKept t u c) : LinesKept s u c where
  lines set' way' := (h'.lines set' way').trans (h.lines set' way')
  otherCache := sameOtherCache_trans h.otherCache h'.otherCache
  frame := h.frame.trans h'.frame

end Chain

/-! ## The parts of the operations -/

section Parts

variable (s : State) (c : CacheId) (set : BitVec 8) (way : BitVec 2)

@[simp] theorem State.advance_cache : s.advance.cache c = s.cache c := by cases c <;> rfl

/-- The replacement bits are not in the lines. -/
theorem State.moveFifo_linesKept : LinesKept s (s.moveFifo c set) c := by
  cases c <;> exact ⟨fun _ _ => rfl, rfl, rfl⟩

theorem State.withCp0_linesKept (p : Cp0) : LinesKept s { s with cp0 := p } c := by
  cases c <;> exact ⟨fun _ _ => rfl, rfl, rfl⟩

variable {s} (hs : s.MemoryForm)
include hs

/-- A cache whose lines are those after a write of one. -/
theorem LineBecomes.of_setLine {t : State} {l : CacheLine} (ho : sameOtherCache s t c) (hf : s.sameButOp t)
    (hl : ∀ set' way', (t.cache c).line set' way' = ((s.cache c).setLine set way l).line set' way') :
    LineBecomes s t c set way l where
  line := (hl set way).trans (Cache.line_setLine_same (hs.cache_wf c) ..)
  otherLines set' way' hne := (hl set' way').trans (Cache.line_setLine_other (hs.cache_wf c) _ hne)
  otherCache := ho
  frame := hf

theorem State.setLine_lineBecomes (l : CacheLine) :
    LineBecomes s (s.setCache c ((s.cache c).setLine set way l)) c set way l := by
  refine .of_setLine c set way hs ?_ ?_ fun set' way' => by rw [State.setCache_cache_same]
  all_goals cases c <;> rfl

theorem State.dropLine_lineBecomes :
    LineBecomes s (s.dropLine c set way) c set way { (s.cache c).line set way with valid := false, dirty := false } :=
  State.setLine_lineBecomes c set way hs _

theorem State.placeLine_lineBecomes (tag : BitVec 24) (data : Vector Byte 32) (dirty : Bool) :
    LineBecomes s (s.placeLine c set way tag data dirty) c set way
      { tag := tag, valid := true, lock := ((s.cache c).line set way).lock && !s.debugMode, dirty := dirty, data := data } := by
  refine .of_setLine c set way hs ?_ ?_ fun set' way' => State.placeLine_cache ..
  all_goals cases c <;> rfl

/-- Where the buffer empties if it has to, what a way held is written back if it was dirty, no line being changed. -/
theorem State.castOut_linesKept (h : ((s.cache c).line set way).dirty = false ∨ s.wbuf = [] ∨ s.writesGo = true) :
    ∃ t, s.castOut c set way = .ok () t ∧ t.MemoryForm ∧ t = { s with wbuf := t.wbuf, mem := t.mem } ∧ LinesKept s t c ∧
      castsOut s t c set way := by
  have hcast : ∃ t, s.castOut c set way = .ok () t ∧ t = { s with wbuf := t.wbuf, mem := t.mem } ∧ castsOut s t c set way := by
    obtain hclean | hgo := h
    · exact ⟨s, by simp [State.castOut, CacheLine.modified, hclean], rfl, by simp [castsOut, hclean, State.sameBytes]⟩
    · exact State.castOut_castsOut c set way hgo hs.1
  obtain ⟨t, ht, hframe, hcast⟩ := hcast
  refine ⟨t, ht, Res.all_ok (hs.castOut ..) ht, hframe, ?_, hcast⟩
  rw [hframe]
  cases c <;> exact ⟨fun _ _ => rfl, rfl, rfl⟩

end Parts

/-! ## The instruction -/

section Instruction

variable {s t : State} {op : CacheOp} {offset : BitVec 16} {base : RegNum} {c : CacheId} {set : BitVec 8} {way : BitVec 2}
  {l : CacheLine}

/-- CACHE completes where coprocessor 0 is usable and its operation goes on. -/
theorem exec_cache_of (hu : s.usable 0#2 = true) (h : s.cacheOp op (s.effAddr base offset) = .ok () t) (hf : s.sameButOp t) :
    exec (.cache op offset base) s = .next t.advance ∧ sameButCaches s t.advance ∧ s.movedOn t.advance := by
  have hexec : exec (.cache op offset base) s = needs 0#2 s (cacheThen (s.cacheOp op (s.effAddr base offset)) s) := rfl
  refine ⟨?_, ?_, ?_⟩
  · rw [hexec, needs_of hu, h]
    rfl
  · unfold State.sameButOp at hf
    rw [hf]
    rfl
  · rw [hf]
    exact ⟨rfl, rfl⟩

theorem LinesKept.exec (hl : LinesKept s t c) (hu : s.usable 0#2 = true)
    (h : s.cacheOp op (s.effAddr base offset) = .ok () t) :
    Machine.exec (.cache op offset base) s = .next t.advance ∧
      (∀ set' way', (t.advance.cache c).line set' way' = (s.cache c).line set' way') ∧ sameOtherCache s t.advance c ∧
      sameButCaches s t.advance ∧ s.movedOn t.advance := by
  obtain ⟨hexec, hsame, hmoved⟩ := exec_cache_of hu h hl.frame
  refine ⟨hexec, fun set' way' => ?_, ?_, hsame, hmoved⟩
  · rw [State.advance_cache, hl.lines]
  · cases c <;> exact hl.otherCache

theorem LineBecomes.exec (hl : LineBecomes s t c set way l) (hu : s.usable 0#2 = true)
    (h : s.cacheOp op (s.effAddr base offset) = .ok () t) :
    Machine.exec (.cache op offset base) s = .next t.advance ∧ (t.advance.cache c).line set way = l ∧
      sameOtherLines s t.advance c set way ∧ sameOtherCache s t.advance c ∧ sameButCaches s t.advance ∧ s.movedOn t.advance := by
  obtain ⟨hexec, hsame, hmoved⟩ := exec_cache_of hu h hl.frame
  refine ⟨hexec, ?_, fun set' way' hne => ?_, ?_, hsame, hmoved⟩
  · rw [State.advance_cache, hl.line]
  · rw [State.advance_cache, hl.otherLines set' way' hne]
  · cases c <;> exact hl.otherCache

end Instruction

end Sys2Proof.Machine
end

section
/-! SUPPORT. The Index operations of CACHE, and the statement on them (21_cache.md R191 to R193). -/

namespace Sys2Proof.Machine

section Dispatch

variable {s : State} {va : DWord}

theorem State.indexCheck_of {seg : Segment} (h : s.segment? va = some seg) (hseg : seg ≠ .addressError) :
    s.indexCheck va = .ok () s := by
  unfold State.indexCheck
  rw [h]
  cases seg with
  | addressError => exact absurd rfl hseg
  | unmapped _ _ => rfl
  | mapped => rfl

/-- The three Index operations, each on either cache, after the check of the address. -/
theorem State.cacheOp_index (h : s.indexCheck va = .ok () s) (op : CacheOp) (c : CacheId) :
    ((op, c) ∈ [(CacheOp.indexInvalidateI, CacheId.inst), (.indexWriteBackInvalidateD, .data)] →
      s.cacheOp op va = s.indexInvalidate c va) ∧
    ((op, c) ∈ [(CacheOp.indexLoadTagI, CacheId.inst), (.indexLoadTagD, .data)] →
      s.cacheOp op va = .ok () (s.indexLoadTag c va)) ∧
    ((op, c) ∈ [(CacheOp.indexStoreTagI, CacheId.inst), (.indexStoreTagD, .data)] →
      s.cacheOp op va = s.indexStoreTag c va) := by
  simp only [List.mem_cons, List.not_mem_nil, or_false, Prod.mk.injEq]
  refine ⟨?_, ?_, ?_⟩
  all_goals
    rintro (⟨rfl, rfl⟩ | ⟨rfl, rfl⟩)
    all_goals rw [State.cacheOp, h, Res.ok_bind]

end Dispatch

section Operations

variable {s : State} (c : CacheId) (va : DWord)

/-! ## Index Invalidate -/

theorem State.indexInvalidate_of (hs : s.MemoryForm)
    (h : ((s.cache c).line (setOf va) (s.wayOf va)).dirty = false ∨ s.wbuf = [] ∨ s.writesGo = true) :
    ∃ t, s.indexInvalidate c va = .ok () t ∧
      LineBecomes s t c (setOf va) (s.wayOf va)
        { (s.cache c).line (setOf va) (s.wayOf va) with valid := false, dirty := false } ∧
      castsOut s t c (setOf va) (s.wayOf va) ∧ t.cp0 = s.cp0 := by
  obtain ⟨u, hu, huform, hframe, hkept, hcast⟩ := State.castOut_linesKept c (setOf va) (s.wayOf va) hs h
  have hway : u.wayOf va = s.wayOf va := by rw [hframe]; rfl
  have hcp0 : u.cp0 = s.cp0 := by rw [hframe]
  have hdrop := State.dropLine_lineBecomes c (setOf va) (s.wayOf va) huform
  rw [hkept.lines] at hdrop
  refine ⟨(u.dropLine c (setOf va) (s.wayOf va)).moveFifo c (setOf va), ?_, ?_, ?_, ?_⟩
  · rw [State.indexInvalidate, hu, Res.ok_bind, hway]
  · exact (hkept.trans_becomes hdrop).trans_kept (State.moveFifo_linesKept ..)
  · exact castsOut_congr hcast (by simp) (by simp)
  · simpa using hcp0

/-! ## Index Load Tag -/

/-- The fields of a TagLo put together (11_cp0_registers.md R101). -/
theorem tagLo_fields (tag : BitVec 24) (state : BitVec 2) (kept : BitVec 3) (lock : Bool) (f0 : BitVec 1) :
    let w := tag ++ state ++ kept ++ BitVec.ofBool lock ++ f0 ++ 0#1
    w.extractLsb' 8 24 = tag ∧ w.extractLsb' 6 2 = state ∧ w.extractLsb' 3 3 = kept ∧ w.getLsbD 2 = lock ∧
      w.extractLsb' 1 1 = f0 := by
  refine ⟨?_, ?_, ?_, ?_, ?_⟩
  case refine_4 =>
    simp only [BitVec.getLsbD_append]
    simp
  all_goals
    simp only [BitVec.extractLsb'_append_eq_of_le, BitVec.extractLsb'_append_eq_of_add_le, Nat.reduceLeDiff, Nat.reduceSub,
      Nat.zero_add, Nat.le_refl, BitVec.extractLsb'_eq_self]

/-- The top field of a TagHi put together (11_cp0_registers.md R102). -/
theorem tagHi_field (f1 index : BitVec 1) : (f1 ++ index ++ 0#30).extractLsb' 31 1 = f1 := by
  simp only [BitVec.extractLsb'_append_eq_of_le, Nat.reduceLeDiff, Nat.reduceSub, BitVec.extractLsb'_eq_self]

theorem bits_append (f : BitVec 2) : f.extractLsb' 1 1 ++ f.extractLsb' 0 1 = f := by revert f; decide

theorem State.indexLoadTag_linesKept (s : State) : LinesKept s (s.indexLoadTag c va) c :=
  (State.withCp0_linesKept s c _).trans (State.moveFifo_linesKept _ c _)

theorem State.indexLoadTag_shows (s : State) :
    let t := s.indexLoadTag c va
    let l := (s.cache c).line (setOf va) (s.wayOf va)
    t.cp0 = { s.cp0 with tagLo := t.cp0.tagLo, tagHi := t.cp0.tagHi } ∧
      t.cp0.tagLo.extractLsb' 8 24 = l.tag ∧ t.cp0.tagLo.extractLsb' 6 2 = (if l.valid then 3#2 else 0#2) ∧
      t.cp0.tagLo.getLsbD 2 = (l.lock && s.wayOf va != 0#2) ∧
      t.cp0.tagHi.extractLsb' 31 1 ++ t.cp0.tagLo.extractLsb' 1 1 = (s.cache c).fifoOf (setOf va) ∧
      t.cp0.tagLo.extractLsb' 3 3 = s.cp0.tagLo.extractLsb' 3 3 ∧ s.sameBytes t := by
  dsimp only
  unfold State.indexLoadTag
  rw [State.moveFifo_cp0]
  obtain ⟨htag, hstate, hkept, hlock, hf0⟩ := tagLo_fields ((s.cache c).line (setOf va) (s.wayOf va)).tag
    (if ((s.cache c).line (setOf va) (s.wayOf va)).valid then 3#2 else 0#2) (s.cp0.tagLo.extractLsb' 3 3)
    (((s.cache c).line (setOf va) (s.wayOf va)).lock && s.wayOf va != 0#2) (((s.cache c).fifoOf (setOf va)).extractLsb' 0 1)
  exact ⟨rfl, htag, hstate, hlock, by dsimp only; rw [tagHi_field, hf0, bits_append], hkept,
    State.sameBytes_of (by simp) (by simp)⟩

/-! ## Index Store Tag -/

theorem Cache.fifoOf_setFifo_same {v : Cache} (h : v.wf) (set : BitVec 8) (f : BitVec 2) : (v.setFifo set f).fifoOf set = f :=
  sparseGet_put_same _ _ h.2.2.1.1

theorem State.indexStoreTag_of (hs : s.MemoryForm) (h : s.pState = 0#2 ∨ s.pState = 3#2) :
    ∃ t, s.indexStoreTag c va = .ok () t ∧
      LineBecomes s t c (setOf va) (s.wayOf va)
        (s.storedTag ((s.cache c).line (setOf va) (s.wayOf va)) (s.wayOf va) (s.pState == 3#2)) ∧
      (t.cache c).fifoOf (setOf va) = s.tagFifo ∧ t.cp0 = s.cp0 ∧ s.sameBytes t := by
  have hres : ¬(s.pState = 1#2 ∨ s.pState = 2#2) := by
    obtain h | h := h
    all_goals simp [h]
  refine ⟨_, if_neg (by simp [hres]), ?_, ?_, by simp, State.sameBytes_of (by simp) (by simp)⟩
  · rw [if_neg hres]
    refine .of_setLine c _ _ hs ?_ ?_ fun set' way' => by rw [State.setCache_cache_same, Cache.line_setFifo]
    all_goals cases c <;> rfl
  · rw [State.setCache_cache_same]
    exact Cache.fifoOf_setFifo_same (Cache.setLine_wf (hs.cache_wf c) ..) ..

end Operations

/-! ## The obligation -/

/-- Settles O44: each operation is one change of the lines, which the end of the instruction leaves. -/
theorem cacheIndexOperations : Obligations.CacheIndexOperations := by
  intro s offset base seg hs hu va set way hseg hne
  have hcheck := State.indexCheck_of hseg hne
  refine ⟨?invalidate, ?loadTag, ?storeTag⟩
  case invalidate =>
    intro op c hop l hb
    obtain ⟨t, ht, hline, hcast, hcp0⟩ := State.indexInvalidate_of c va hs hb
    obtain ⟨hexec, hway, hother, hcache, hsame, hmoved⟩ := hline.exec hu (((State.cacheOp_index hcheck op c).1 hop).trans ht)
    obtain ⟨hdirty, hclean⟩ := castsOut_congr (u := t.advance) hcast rfl rfl
    exact ⟨_, hexec, congrArg CacheLine.valid hway, hother, hcache, hcp0, hsame, hmoved, hdirty, hclean⟩
  case loadTag =>
    intro op c hop l
    obtain ⟨hcp0, htag, hstate, hlock, hfifo, hkept, hbytes⟩ := State.indexLoadTag_shows c va s
    obtain ⟨hexec, hlines, hcache, hsame, hmoved⟩ :=
      (State.indexLoadTag_linesKept c va s).exec hu ((State.cacheOp_index hcheck op c).2.1 hop)
    exact ⟨_, hexec, hcp0, htag, hstate, hlock, hfifo, hkept, hlines, hcache, hsame, hmoved, hbytes⟩
  case storeTag =>
    intro op c hop l state hstate
    obtain ⟨t, ht, hline, hfifo, hcp0, hbytes⟩ := State.indexStoreTag_of c va hs hstate
    obtain ⟨hexec, hway, hother, hcache, hsame, hmoved⟩ := hline.exec hu (((State.cacheOp_index hcheck op c).2.2 hop).trans ht)
    refine ⟨_, hexec, ?_, by rw [State.advance_cache]; exact hfifo, hother, hcache, hcp0, hsame, hmoved, hbytes⟩
    exact ⟨congrArg CacheLine.tag hway, congrArg CacheLine.valid hway, congrArg CacheLine.lock hway,
      (congrArg CacheLine.data hway :)⟩

end Sys2Proof.Machine
end

section
/-! SUPPORT. The operations of CACHE on a translated address, and the statement on them (21_cache.md R189, R194 to R197, R199). -/

namespace Sys2Proof.Machine

/-! ## Status.CH -/

theorem and_not_or {n : Nat} (x m : BitVec n) : x &&& ~~~m ||| m = x ||| m := by
  ext i
  simp only [BitVec.getElem_or, BitVec.getElem_and, BitVec.getElem_not]
  cases x[i] <;> simp

/-- Status.CH set (R196). -/
theorem State.setCh_true_cp0 (s : State) : (s.setCh true).cp0 = { s.cp0 with status := s.cp0.status ||| 0x00040000#32 } :=
  congrArg (fun v => { s.cp0 with status := v }) (and_not_or s.cp0.status 0x00040000#32)

/-- Status.CH cleared (R196). -/
theorem State.setCh_false_cp0 (s : State) : (s.setCh false).cp0 = { s.cp0 with status := s.cp0.status &&& 0xFFFBFFFF#32 } := by
  simp [State.setCh, putBit, putBits]

/-! ## The Hit operations -/

section Hit

variable {s : State} {c : CacheId} {va : DWord} {p : Physical}

/-- A way that holds a tag is valid and has it. -/
theorem Cache.of_mem_hits {v : Cache} {set : BitVec 8} {tag : BitVec 24} {way : BitVec 2} (h : way ∈ v.hits set tag) :
    (v.line set way).valid = true ∧ (v.line set way).tag = tag := by
  simpa using (List.mem_filter.1 h).2

theorem State.hitOp_of_miss (onHit : BitVec 2 → State → Res Unit) (ht : s.translate .load va = .ok p s)
    (h : (s.cache c).hits (setOf va) (tagOf p.pa) = []) :
    s.hitOp c va onHit = .ok () ((s.setCh false).moveFifo c (setOf va)) := by
  rw [State.hitOp, ht, Res.ok_bind, h]

theorem State.hitOp_of_hit {onHit : BitVec 2 → State → Res Unit} {way : BitVec 2} {t : State} (ht : s.translate .load va = .ok p s)
    (h : (s.cache c).hits (setOf va) (tagOf p.pa) = [way]) (hon : onHit way s = .ok () t) :
    s.hitOp c va onHit = .ok () ((t.setCh true).moveFifo c (setOf va)) := by
  rw [State.hitOp, ht, Res.ok_bind, h]
  dsimp only
  rw [hon, Res.ok_bind]

/-- Status.CH and the replacement bits are not in the lines. -/
theorem State.setCh_moveFifo_linesKept (s : State) (c : CacheId) (set : BitVec 8) (hit : Bool) :
    LinesKept s ((s.setCh hit).moveFifo c set) c := (State.withCp0_linesKept s c _).trans (State.moveFifo_linesKept _ c set)

/-- The Hit operations and the cache each works on. -/
def hitOps : List (CacheOp × CacheId) :=
  [(.hitInvalidateI, .inst), (.hitInvalidateD, .data), (.hitWriteBackInvalidateD, .data), (.hitWriteBackD, .data)]

/-- From `s` to `t` the Hit operation `op` did its work on a way that holds the address: the line is invalid, but by Hit Write Back,
and clean; Hit Invalidate wrote nothing back (R195, R196). -/
structure HitDone (op : CacheOp) (s t : State) (c : CacheId) (set : BitVec 8) (way : BitVec 2) : Prop where
  becomes : LineBecomes s t c set way { (s.cache c).line set way with valid := op == .hitWriteBackD, dirty := false }
  cp0 : t.cp0 = s.cp0
  drops : op = .hitInvalidateI ∨ op = .hitInvalidateD → s.sameBytes t
  writesBack : op ≠ .hitInvalidateI → op ≠ .hitInvalidateD → castsOut s t c set way

theorem HitDone.invalidate (hs : s.MemoryForm) (c : CacheId) (set : BitVec 8) (way : BitVec 2) {op : CacheOp}
    (hop : op = .hitInvalidateI ∨ op = .hitInvalidateD) : HitDone op s (s.dropLine c set way) c set way where
  becomes := by
    have hv : (op == .hitWriteBackD) = false := by obtain rfl | rfl := hop <;> rfl
    rw [hv]
    exact State.dropLine_lineBecomes c set way hs
  cp0 := by simp
  drops _ := State.sameBytes_of (by simp) (by simp)
  writesBack hi hd := absurd hop (by simp [hi, hd])

/-- A write-back of the line, after which it is dropped or cleaned. -/
theorem HitDone.writeBack {u t : State} {op : CacheOp} {way : BitVec 2} {set : BitVec 8} (hu : LinesKept s u c)
    (hcp0 : u.cp0 = s.cp0) (hcast : castsOut s u c set way) (hop : op ≠ .hitInvalidateI ∧ op ≠ .hitInvalidateD)
    (ht : LineBecomes u t c set way { (u.cache c).line set way with valid := op == .hitWriteBackD, dirty := false })
    (hf : t = u.setCache c (t.cache c)) : HitDone op s t c set way where
  becomes := by
    rw [hu.lines] at ht
    exact hu.trans_becomes ht
  cp0 := by rw [hf]; simpa using hcp0
  drops h := by simp [hop.1, hop.2] at h
  writesBack _ _ := castsOut_congr hcast (by rw [hf]; simp) (by rw [hf]; simp)

theorem State.cleanLine_lineBecomes (hs : s.MemoryForm) (c : CacheId) (set : BitVec 8) (way : BitVec 2)
    (hv : ((s.cache c).line set way).valid = true) :
    LineBecomes s (s.cleanLine c set way) c set way { (s.cache c).line set way with valid := true, dirty := false } := by
  rw [← hv]
  exact State.setLine_lineBecomes c set way hs _

/-- Each Hit operation does its work on the way that holds the address. -/
theorem State.cacheOp_hit (hs : s.MemoryForm) {op : CacheOp} (hop : (op, c) ∈ hitOps) :
    ∃ onHit, s.cacheOp op va = s.hitOp c va onHit ∧
      ∀ way, ((s.cache c).line (setOf va) way).valid = true →
        ((s.cache c).line (setOf va) way).dirty = false ∨ s.wbuf = [] ∨ s.writesGo = true →
        ∃ t, onHit way s = .ok () t ∧ HitDone op s t c (setOf va) way := by
  simp only [hitOps, List.mem_cons, List.not_mem_nil, or_false, Prod.mk.injEq] at hop
  obtain ⟨rfl, rfl⟩ | ⟨rfl, rfl⟩ | ⟨rfl, rfl⟩ | ⟨rfl, rfl⟩ := hop
  · exact ⟨_, rfl, fun way _ _ => ⟨_, rfl, HitDone.invalidate hs _ _ way (.inl rfl)⟩⟩
  · exact ⟨_, rfl, fun way _ _ => ⟨_, rfl, HitDone.invalidate hs _ _ way (.inr rfl)⟩⟩
  all_goals
    refine ⟨_, rfl, fun way hv hb => ?_⟩
    obtain ⟨u, hu, huform, hframe, hkept, hcast⟩ := State.castOut_linesKept .data (setOf va) way hs hb
    rw [← hkept.lines] at hv
    have hcp0 : u.cp0 = s.cp0 := by rw [hframe]
    refine ⟨_, by rw [hu, Res.ok_bind], HitDone.writeBack hkept hcp0 hcast (by decide) ?_ rfl⟩
  · exact State.dropLine_lineBecomes .data _ way huform
  · exact State.cleanLine_lineBecomes huform .data _ way hv

end Hit

/-! ## Create Dirty Exclusive -/

section CreateDirty

variable {s : State} {va : DWord} {p : Physical} (hs : s.MemoryForm)
include hs

/-- On a hit the line becomes dirty (R194). -/
theorem State.createDirty_of_hit {way : BitVec 2} (ht : s.translate .load va = .ok p s)
    (h : s.dcache.hits (setOf va) (tagOf p.pa) = [way]) :
    ∃ t, s.createDirty va = .ok () t ∧
      LineBecomes s t .data (setOf va) way { s.dcache.line (setOf va) way with dirty := true } ∧ t.cp0 = s.cp0 ∧ s.sameBytes t := by
  refine ⟨_, by rw [State.createDirty, ht, Res.ok_bind, h], ?_, by simp, State.sameBytes_of (by simp) (by simp)⟩
  exact (State.setLine_lineBecomes .data (setOf va) way hs _).trans_kept (State.moveFifo_linesKept ..)

/-- On a miss a victim is written back and takes the tag, its data kept (R194). -/
theorem State.createDirty_of_miss (ht : s.translate .load va = .ok p s) (h : s.dcache.hits (setOf va) (tagOf p.pa) = [])
    (hb : s.wbuf = [] ∨ s.writesGo = true) :
    ∃ way t, isVictim s .data (setOf va) way ∧ s.createDirty va = .ok () t ∧
      LineBecomes s t .data (setOf va) way
        { tag := tagOf p.pa, valid := true, lock := (s.dcache.line (setOf va) way).lock && !s.debugMode, dirty := true
          data := (s.dcache.line (setOf va) way).data } ∧
      castsOut s t .data (setOf va) way ∧ t.cp0 = s.cp0 := by
  obtain ⟨way, hw⟩ : ∃ way, s.dcache.victim s.locking (setOf va) s.choice = way := ⟨_, rfl⟩
  have hvictim : isVictim s .data (setOf va) way := hw ▸ isVictim_victim s .data (setOf va) s.choice
  obtain ⟨u, hu, huform, hframe, hkept, hcast⟩ := State.castOut_linesKept .data (setOf va) way hs (.inr hb)
  have hcp0 : u.cp0 = s.cp0 := by rw [hframe]
  have hdebug : u.debugMode = s.debugMode := by rw [hframe]; rfl
  have hplace := State.placeLine_lineBecomes .data (setOf va) way huform (tagOf p.pa) (u.dcache.line (setOf va) way).data true
  refine ⟨way, u.placeLine .data (setOf va) way (tagOf p.pa) (u.dcache.line (setOf va) way).data true, hvictim, ?_, ?_,
    castsOut_congr hcast (by simp) (by simp), by simpa using hcp0⟩
  · rw [State.createDirty, ht, Res.ok_bind, h]
    dsimp only
    rw [hw, hu, Res.ok_bind]
  · have hdata : u.dcache = s.dcache := by rw [hframe]
    rw [hkept.lines, hdebug, hdata] at hplace
    rw [hdata]
    exact hkept.trans_becomes hplace

end CreateDirty

/-! ## Fill -/

/-- The way the replacement bits name, past locked lines, is the first not locked. -/
theorem Cache.fifoWay_of_first {s : State} {c : CacheId} {set : BitVec 8} {d : Nat} (hlt : ∀ d', d' < d → lockedFrom s c set d')
    (hd : ¬lockedFrom s c set d) : (s.cache c).fifoWay s.locking set = (s.cache c).fifoOf set + BitVec.ofNat 2 d := by
  obtain ⟨e, he, hfree, hbefore⟩ := Cache.fifoWay_eq s c set
  obtain h | rfl | h := Nat.lt_trichotomy d e
  · exact absurd (hbefore d h) hd
  · exact he
  · exact absurd (hlt e h) hfree

theorem State.fill_of {s : State} {va : DWord} {p : Physical} (hs : s.MemoryForm) (k : AccessKind) (c : CacheId) {way : BitVec 2}
    (ht : s.translate .load va = .ok p s) (hway : (s.cache c).fifoWay s.locking (setOf va) = way)
    (hh : ∀ w ∈ (s.cache c).hits (setOf va) (tagOf p.pa), w = way) (hr : lineReads s p.pa) :
    ∃ t, s.fill k c va = .ok () t ∧ LineFilled s t c (setOf va) way p.pa := by
  obtain ⟨t, hfill, hf⟩ := State.fillWay_of_data (c := c) hs k (setOf va) way hr
  refine ⟨t, ?_, hf⟩
  rw [State.fill, ht, Res.ok_bind]
  dsimp only
  rw [hway, if_neg (by simpa using hh), hfill]

theorem LineFilled.lineBecomes {s t : State} {c : CacheId} {set : BitVec 8} {way : BitVec 2} {pa : PAddr}
    (h : LineFilled s t c set way pa) : LineBecomes s t c set way ((t.cache c).line set way) where
  line := rfl
  otherLines := h.otherLines
  otherCache := h.otherCache
  frame := by
    have hcp0 : t.cp0 = s.cp0 := by rw [h.frame]
    exact h.frame.trans (by rw [hcp0])

theorem State.cacheOp_fill {op : CacheOp} {c : CacheId} (hop : (op, c) ∈ [(CacheOp.fillI, CacheId.inst), (.fillD, .data)])
    (s : State) (va : DWord) : s.cacheOp op va = s.fill .load c va := by
  simp only [List.mem_cons, List.not_mem_nil, or_false, Prod.mk.injEq] at hop
  obtain ⟨rfl, rfl⟩ | ⟨rfl, rfl⟩ := hop
  all_goals rfl

/-! ## The obligation -/

/-- Settles O45: the Hit operations by whether a way holds the address, Create Dirty Exclusive likewise, Fill as a refill. -/
theorem cacheHitOperations : Obligations.CacheHitOperations := by
  intro s offset base p hs hu va set tag ht
  refine ⟨?hit, ?createDirtyHit, ?createDirtyMiss, ?fill⟩
  case hit =>
    intro op c hop
    obtain ⟨onHit, hop', hdone⟩ := State.cacheOp_hit (va := va) hs hop
    constructor
    · intro hh
      have hkept := State.setCh_moveFifo_linesKept s c set false
      obtain ⟨hexec, hlines, hcache, hsame, hmoved⟩ := hkept.exec hu (hop'.trans (State.hitOp_of_miss onHit ht hh))
      refine ⟨_, hexec, ?_, hlines, hcache, hsame, hmoved, State.sameBytes_of (by simp) (by simp)⟩
      rw [State.advance_cp0, State.moveFifo_cp0, State.setCh_false_cp0]
    · intro way hh l hb
      have hvalid := (Cache.of_mem_hits (hh ▸ List.mem_singleton_self way)).1
      obtain ⟨t, hon, hd⟩ := hdone way hvalid hb
      have hl := hd.becomes.trans_kept (State.setCh_moveFifo_linesKept t c set true)
      obtain ⟨hexec, hway, hother, hcache, hsame, hmoved⟩ := hl.exec hu (hop'.trans (State.hitOp_of_hit ht hh hon))
      have hbytes (a : PAddr) : ((t.setCh true).moveFifo c set).advance.physByte a = t.physByte a :=
        State.physByte_congr (by simp) (by simp) a
      refine ⟨_, hexec, ?_, ⟨congrArg CacheLine.valid hway, congrArg CacheLine.dirty hway⟩, hother, hcache, hsame, hmoved,
        fun hdirty hI hD => ?_, fun h a => (hbytes a).trans ?_⟩
      · rw [State.advance_cp0, State.moveFifo_cp0, State.setCh_true_cp0, hd.cp0]
      · exact (castsOut_congr (hd.writesBack hI hD) (by simp) (by simp)).1 hvalid hdirty
      · by_cases hinv : op = .hitInvalidateI ∨ op = .hitInvalidateD
        · exact hd.drops hinv a
        · obtain ⟨hI, hD⟩ := not_or.1 hinv
          exact (hd.writesBack hI hD).2 (.inr (h.resolve_right hinv)) a
  case createDirtyHit =>
    intro way hh l
    obtain ⟨t, hop, hline, hcp0, hbytes⟩ := State.createDirty_of_hit hs ht hh
    obtain ⟨hexec, hway, hother, hcache, hsame, hmoved⟩ := hline.exec (op := .createDirtyExclusiveD) hu hop
    exact ⟨_, hexec, hcp0, hway, hother, hcache, hsame, hmoved, hbytes⟩
  case createDirtyMiss =>
    intro hh hb
    obtain ⟨way, t, hvictim, hop, hline, hcast, hcp0⟩ := State.createDirty_of_miss hs ht hh hb
    obtain ⟨hexec, hway, hother, hcache, hsame, hmoved⟩ := hline.exec (op := .createDirtyExclusiveD) hu hop
    exact ⟨way, _, hvictim, hexec, hcp0, hway, castsOut_congr hcast rfl rfl, hother, hcache, hsame, hmoved⟩
  case fill =>
    intro op c hop d hlt hd way hh hr
    obtain ⟨t, hfill, hf⟩ := State.fill_of hs .load c ht (Cache.fifoWay_of_first hlt hd) hh hr
    obtain ⟨hexec, hway, hother, hcache, hsame, hmoved⟩ :=
      hf.lineBecomes.exec hu ((State.cacheOp_fill hop s va).trans hfill)
    have hcp0 : t.cp0 = s.cp0 := by rw [hf.frame]
    have hfilled := hf.filled
    rw [refilled, ← hway] at hfilled
    exact ⟨_, hexec, hcp0, hfilled, (congrArg CacheLine.dirty hway).trans hf.clean, castsOut_congr hf.castOut rfl rfl, hother,
      hcache, hsame, hmoved⟩

end Sys2Proof.Machine
end

section
/-! SUPPORT. Words by their fields, and the rows of the opcode table by theirs: each mask of spec/opcode_table.json selects a few
fields, and a word lies in a row when its selected fields are those of the row's match (30_encoding.md R221, R222, R226 to R238). -/

namespace Sys2Proof

/-! ## A word from its fields -/

theorem iType_fields (w : Word) : iType (opField w) (rsField w) (rtField w) (immField w) = w := by
  unfold iType opField rsField rtField immField
  apply BitVec.eq_of_getLsbD_eq
  intro i hi
  simp only [BitVec.getLsbD_extractLsb', BitVec.getLsbD_append]
  grind

theorem rType_fields (w : Word) :
    rType (opField w) (rsField w) (rtField w) (rdField w) (saField w) (functField w) = w := by
  unfold rType opField rsField rtField rdField saField functField
  apply BitVec.eq_of_getLsbD_eq
  intro i hi
  simp only [BitVec.getLsbD_extractLsb', BitVec.getLsbD_append]
  grind

/-- The CO bit alone of the rs field. -/
def coOnly (co : Bool) : BitVec 5 := if co then 0x10#5 else 0#5

theorem rsField_and_co (w : Word) : rsField w &&& 0x10#5 = coOnly (coBit w) := by
  rw [coBit_eq]
  generalize rsField w = rs
  revert rs
  decide

theorem coBit_rType_coOnly (op : BitVec 6) (co : Bool) (rt rd sa : BitVec 5) (funct : BitVec 6) :
    coBit (rType op (coOnly co) rt rd sa funct) = co := by
  rw [coBit_eq, rsField_rType]
  cases co <;> rfl

/-! ## What each mask selects -/

theorem mask_op (w : Word) : w &&& 0xFC000000#32 = iType (opField w) 0#5 0#5 0#16 := by
  simpa only [iType_fields] using iType_mask_FC000000 (opField w) (rsField w) (rtField w) (immField w)

theorem mask_op_rt (w : Word) : w &&& 0xFC1F0000#32 = iType (opField w) 0#5 (rtField w) 0#16 := by
  simpa only [iType_fields] using iType_mask_FC1F0000 (opField w) (rsField w) (rtField w) (immField w)

theorem mask_op_rs_rt (w : Word) : w &&& 0xFFFF0000#32 = iType (opField w) (rsField w) (rtField w) 0#16 := by
  simpa only [iType_fields] using iType_mask_FFFF0000 (opField w) (rsField w) (rtField w) (immField w)

theorem mask_op_funct (w : Word) : w &&& 0xFC00003F#32 = rType (opField w) 0#5 0#5 0#5 0#5 (functField w) := by
  simpa only [rType_fields] using
    rType_mask_FC00003F (opField w) (rsField w) (rtField w) (rdField w) (saField w) (functField w)

theorem mask_op_rs (w : Word) : w &&& 0xFFE00000#32 = rType (opField w) (rsField w) 0#5 0#5 0#5 0#6 := by
  simpa only [rType_fields] using
    rType_mask_FFE00000 (opField w) (rsField w) (rtField w) (rdField w) (saField w) (functField w)

theorem mask_op_co_funct (w : Word) :
    w &&& 0xFE00003F#32 = rType (opField w) (coOnly (coBit w)) 0#5 0#5 0#5 (functField w) := by
  simpa only [rType_fields, rsField_and_co] using
    rType_mask_FE00003F (opField w) (rsField w) (rtField w) (rdField w) (saField w) (functField w)

theorem mask_op_co (w : Word) : w &&& 0xFE000000#32 = rType (opField w) (coOnly (coBit w)) 0#5 0#5 0#5 0#6 := by
  rw [show (0xFE000000#32 : Word) = 0xFE00003F#32 &&& 0xFFE00000#32 by decide, ← BitVec.and_assoc, mask_op_co_funct,
    rType_mask_FFE00000]

/-! ## The rows by the fields of their match -/

namespace Instr

section
variable {i : Instr} {w v : Word}

/-- A word lies in a row when it has the bits of the row's match under the row's mask. -/
theorem inRow_iff {m : Word} (hrow : i.row = (m, v)) (hv : v &&& m = v) : i.inRow w = true ↔ w &&& m = v &&& m := by
  rw [inRow, hrow, beq_iff_eq, hv]

theorem inRow_iff_op (hrow : i.row = (0xFC000000#32, v)) (hv : v &&& 0xFC000000#32 = v) :
    i.inRow w = true ↔ opField w = opField v := by
  rw [inRow_iff hrow hv, mask_op, mask_op]
  exact ⟨fun h => by simpa using congrArg opField h, fun h => by rw [h]⟩

theorem inRow_iff_op_rt (hrow : i.row = (0xFC1F0000#32, v)) (hv : v &&& 0xFC1F0000#32 = v) :
    i.inRow w = true ↔ opField w = opField v ∧ rtField w = rtField v := by
  rw [inRow_iff hrow hv, mask_op_rt, mask_op_rt]
  exact ⟨fun h => ⟨by simpa using congrArg opField h, by simpa using congrArg rtField h⟩, fun ⟨hop, hrt⟩ => by rw [hop, hrt]⟩

theorem inRow_iff_op_rs_rt (hrow : i.row = (0xFFFF0000#32, v)) (hv : v &&& 0xFFFF0000#32 = v) :
    i.inRow w = true ↔ opField w = opField v ∧ rsField w = rsField v ∧ rtField w = rtField v := by
  rw [inRow_iff hrow hv, mask_op_rs_rt, mask_op_rs_rt]
  exact ⟨fun h => ⟨by simpa using congrArg opField h, by simpa using congrArg rsField h, by simpa using congrArg rtField h⟩,
    fun ⟨hop, hrs, hrt⟩ => by rw [hop, hrs, hrt]⟩

theorem inRow_iff_op_funct (hrow : i.row = (0xFC00003F#32, v)) (hv : v &&& 0xFC00003F#32 = v) :
    i.inRow w = true ↔ opField w = opField v ∧ functField w = functField v := by
  rw [inRow_iff hrow hv, mask_op_funct, mask_op_funct]
  exact ⟨fun h => ⟨by simpa using congrArg opField h, by simpa using congrArg functField h⟩,
    fun ⟨hop, hf⟩ => by rw [hop, hf]⟩

theorem inRow_iff_op_rs (hrow : i.row = (0xFFE00000#32, v)) (hv : v &&& 0xFFE00000#32 = v) :
    i.inRow w = true ↔ opField w = opField v ∧ rsField w = rsField v := by
  rw [inRow_iff hrow hv, mask_op_rs, mask_op_rs]
  exact ⟨fun h => ⟨by simpa using congrArg opField h, by simpa using congrArg rsField h⟩,
    fun ⟨hop, hrs⟩ => by rw [hop, hrs]⟩

theorem inRow_iff_op_co_funct (hrow : i.row = (0xFE00003F#32, v)) (hv : v &&& 0xFE00003F#32 = v) :
    i.inRow w = true ↔ opField w = opField v ∧ coBit w = coBit v ∧ functField w = functField v := by
  rw [inRow_iff hrow hv, mask_op_co_funct, mask_op_co_funct]
  exact ⟨fun h => ⟨by simpa using congrArg opField h, by simpa [coBit_rType_coOnly] using congrArg coBit h,
      by simpa using congrArg functField h⟩,
    fun ⟨hop, hco, hf⟩ => by rw [hop, hco, hf]⟩

theorem inRow_iff_op_co (hrow : i.row = (0xFE000000#32, v)) (hv : v &&& 0xFE000000#32 = v) :
    i.inRow w = true ↔ opField w = opField v ∧ coBit w = coBit v := by
  rw [inRow_iff hrow hv, mask_op_co, mask_op_co]
  exact ⟨fun h => ⟨by simpa using congrArg opField h, by simpa [coBit_rType_coOnly] using congrArg coBit h⟩,
    fun ⟨hop, hco⟩ => by rw [hop, hco]⟩

end
end Instr

end Sys2Proof
end

section
/-! SUPPORT. Decoding undoes encoding (O1), one class map of the decoder at a time (30_encoding.md R221 to R238). -/

namespace Sys2Proof

/-! ## The class maps -/

section
variable {w : Word}

theorem decode_of_special (h : opField w = 0x00#6) : decode w = decodeSpecial w := by rw [decode, h]; rfl
theorem decode_of_regimm (h : opField w = 0x01#6) : decode w = decodeRegimm w := by rw [decode, h]; rfl
theorem decode_of_cop0 (h : opField w = 0x10#6) : decode w = decodeCop0 w := by rw [decode, h]; rfl
theorem decode_of_cop1 (h : opField w = 0x11#6) : decode w = decodeCop1 w := by rw [decode, h]; rfl
theorem decode_of_cop2 (h : opField w = 0x12#6) : decode w = decodeCop2 w := by rw [decode, h]; rfl
theorem decode_of_cop3 (h : opField w = 0x13#6) : decode w = decodeCop3 w := by rw [decode, h]; rfl
theorem decode_of_mac (h : opField w = 0x1C#6) : decode w = decodeMac w := by rw [decode, h]; rfl

theorem decode_of_cop0Co (h : opField w = 0x10#6) (hco : coBit w = true) : decode w = decodeCop0Co w :=
  (decode_of_cop0 h).trans (if_pos hco)

theorem decode_of_cop1Op (h : opField w = 0x11#6) (hco : coBit w = true) : decode w = decodeCop1Op w :=
  (decode_of_cop1 h).trans (if_pos hco)

theorem decode_of_cop2Co (h : opField w = 0x12#6) (hco : coBit w = true) : decode w = .ok (.cop2 (cofunField w)) :=
  (decode_of_cop2 h).trans (if_pos hco)

theorem decode_of_bc0 (h : opField w = 0x10#6) (hrs : rsField w = 0x08#5) : decode w = decodeBc0 w := by
  rw [decode_of_cop0 h, decodeCop0, coBit_eq, hrs]; rfl
theorem decode_of_bc1 (h : opField w = 0x11#6) (hrs : rsField w = 0x08#5) : decode w = decodeBc1 w := by
  rw [decode_of_cop1 h, decodeCop1, coBit_eq, hrs]; rfl
theorem decode_of_bc2 (h : opField w = 0x12#6) (hrs : rsField w = 0x08#5) : decode w = decodeBc2 w := by
  rw [decode_of_cop2 h, decodeCop2, coBit_eq, hrs]; rfl
theorem decode_of_bc3 (h : opField w = 0x13#6) (hrs : rsField w = 0x08#5) : decode w = decodeBc3 w := by
  rw [decode_of_cop3 h, decodeCop3, hrs]; rfl

end

/-! ## The round trip -/

theorem coBit_rType_fmtRs (op : BitVec 6) (fmt : Fmt) (rt rd sa : BitVec 5) (funct : BitVec 6) :
    coBit (rType op (fmtRs fmt) rt rd sa funct) = true := by
  rw [coBit_eq, rsField_rType, fmtRs_co]

theorem ofCode_fmtField_rType {fmt : Fmt} (h : fmt.wellFormed = true) (op : BitVec 6) (rt rd sa : BitVec 5) (funct : BitVec 6) :
    Fmt.ofCode (fmtField (rType op (fmtRs fmt) rt rd sa funct)) = fmt := by
  rw [fmtField_eq, rsField_rType, fmtRs_code, Fmt.ofCode_code h]


/-- Settles O1: the selecting fields of the encoding lead the decoder to the instruction's own arm, which reads its operands back. -/
theorem decodeOfEncode : Obligations.DecodeOfEncode := by
  intro i h
  cases i with
  | lb | lbu | lh | lhu | lw | lwu | ld | sb | sh | sw | sd | lwl | lwr | swl | swr | ldl | ldr | sdl | sdr | ll | lld | sc | scd
  | addi | addiu | slti | sltiu | andi | ori | xori | daddi | daddiu | lui | beq | bne | blez | bgtz | beql | bnel
  | blezl | bgtzl | lwc1 | swc1 | ldc1 | sdc1 | lwc2 | swc2 | ldc2 | sdc2 | pref =>
    rw [encode, decode, opField_iType, rsField_iType, rtField_iType, immField_iType]
    rfl
  | cache =>
    rw [encode, decode, opField_iType, rsField_iType, rtField_iType, immField_iType, CacheOp.ofCode_code h]
    rfl
  | j | jal =>
    rw [encode, decode, opField_jType, targetField_jType]
    rfl
  | add | addu | sub | subu | slt | sltu | and | or | xor | nor | dadd | daddu | dsub | dsubu | sll | srl | sra | dsll | dsrl | dsra
  | dsll32 | dsrl32 | dsra32 | sllv | srlv | srav | dsllv | dsrlv | dsrav | mult | multu | dmult | dmultu | div | divu | ddiv | ddivu
  | mfhi | mflo | mthi | mtlo | jr | jalr | sync =>
    rw [encode, decode_of_special (opField_rType ..), decodeSpecial, functField_rType, rsField_rType, rtField_rType, rdField_rType,
      saField_rType]
    rfl
  | syscall | brk | sdbbp =>
    rw [encode, decode_of_special (opField_code20Type ..), decodeSpecial, functField_code20Type, codeField20_code20Type]
    rfl
  | tge | tgeu | tlt | tltu | teq | tne =>
    rw [encode, decode_of_special (opField_code10Type ..), decodeSpecial, functField_code10Type, rsField_code10Type,
      rtField_code10Type, codeField10_code10Type]
    rfl
  | madd | maddu =>
    rw [encode, decode_of_mac (opField_rType ..), decodeMac, functField_rType, rsField_rType, rtField_rType, rdField_rType]
    rfl
  | bltz | bgez | bltzl | bgezl | bltzal | bgezal | bltzall | bgezall | tgei | tgeiu | tlti | tltiu | teqi | tnei =>
    rw [encode, decode_of_regimm (opField_iType ..), decodeRegimm, rsField_iType, rtField_iType, immField_iType]
    rfl
  | mfc0 | dmfc0 | cfc0 | mtc0 | dmtc0 | ctc0 =>
    rw [encode, decode_of_cop0 (opField_rType ..), decodeCop0, coBit_eq, rsField_rType, rtField_rType, rdField_rType]
    rfl
  | mfc1 | dmfc1 | cfc1 | mtc1 | dmtc1 | ctc1 =>
    rw [encode, decode_of_cop1 (opField_rType ..), decodeCop1, coBit_eq, rsField_rType, rtField_rType, rdField_rType]
    rfl
  | mfc2 | dmfc2 | cfc2 | mtc2 | dmtc2 | ctc2 =>
    rw [encode, decode_of_cop2 (opField_rType ..), decodeCop2, coBit_eq, rsField_rType, rtField_rType, rdField_rType]
    rfl
  | bc0f | bc0t | bc0fl | bc0tl =>
    rw [encode, decode_of_bc0 (opField_iType ..) (rsField_iType ..), decodeBc0, rtField_iType, immField_iType]
    rfl
  | bc1f | bc1t | bc1fl | bc1tl =>
    rw [encode, decode_of_bc1 (opField_iType ..) (rsField_iType ..), decodeBc1, rtField_iType, immField_iType]
    rfl
  | bc2f | bc2t | bc2fl | bc2tl =>
    rw [encode, decode_of_bc2 (opField_iType ..) (rsField_iType ..), decodeBc2, rtField_iType, immField_iType]
    rfl
  | bc3f | bc3t | bc3fl | bc3tl =>
    rw [encode, decode_of_bc3 (opField_iType ..) (rsField_iType ..), decodeBc3, rtField_iType, immField_iType]
    rfl
  | tlbr | tlbwi | tlbwr | tlbp | eret | deret | wait => rfl
  | cop2 =>
    rw [encode, decode_of_cop2Co (opField_cop2Type ..) (coBit_cop2Type ..), cofunField_cop2Type]
  | _ =>
    rw [encode, decode_of_cop1Op (opField_rType ..) (coBit_rType_fmtRs ..), decodeCop1Op, ofCode_fmtField_rType h, functField_rType,
      rtField_rType, rdField_rType, saField_rType]
    rfl

end Sys2Proof
end

section
/-! SUPPORT. The decoder and the opcode table agree (O2): each arm of the decoder answers an instruction in whose row the word lies,
and each row is met by an arm (30_encoding.md R222, R224, R226 to R238, R243). -/

namespace Sys2Proof

/-! ## What is decoded lies in its row -/

/-- `i` is well formed and `w` lies in its row of the opcode table. -/
def Instr.Fits (i : Instr) (w : Word) : Prop := i.wellFormed = true ∧ i.inRow w = true

section
variable {i : Instr} {w : Word}

theorem decodeSpecial_fits (hop : opField w = 0x00#6) (h : decodeSpecial w = .ok i) : i.Fits w := by
  unfold decodeSpecial at h
  split at h <;> rename_i hf <;> cases h
  all_goals
    refine ⟨rfl, (Instr.inRow_iff_op_funct rfl rfl).2 ⟨?_, ?_⟩⟩
    exacts [hop, BitVec.eq_of_toNat_eq hf]

theorem decodeRegimm_fits (hop : opField w = 0x01#6) (h : decodeRegimm w = .ok i) : i.Fits w := by
  unfold decodeRegimm at h
  split at h <;> rename_i hrt <;> cases h
  all_goals
    refine ⟨rfl, (Instr.inRow_iff_op_rt rfl rfl).2 ⟨?_, ?_⟩⟩
    exacts [hop, BitVec.eq_of_toNat_eq hrt]

theorem decodeMac_fits (hop : opField w = 0x1C#6) (h : decodeMac w = .ok i) : i.Fits w := by
  unfold decodeMac at h
  split at h <;> rename_i hf <;> cases h
  all_goals
    refine ⟨rfl, (Instr.inRow_iff_op_funct rfl rfl).2 ⟨?_, ?_⟩⟩
    exacts [hop, BitVec.eq_of_toNat_eq hf]

theorem decodeBc0_fits (hop : opField w = 0x10#6) (hrs : rsField w = 0x08#5) (h : decodeBc0 w = .ok i) : i.Fits w := by
  unfold decodeBc0 at h
  split at h <;> rename_i hrt <;> cases h
  all_goals
    refine ⟨rfl, (Instr.inRow_iff_op_rs_rt rfl rfl).2 ⟨?_, ?_, ?_⟩⟩
    exacts [hop, hrs, BitVec.eq_of_toNat_eq hrt]

theorem decodeBc1_fits (hop : opField w = 0x11#6) (hrs : rsField w = 0x08#5) (h : decodeBc1 w = .ok i) : i.Fits w := by
  unfold decodeBc1 at h
  split at h <;> rename_i hrt <;> cases h
  all_goals
    refine ⟨rfl, (Instr.inRow_iff_op_rs_rt rfl rfl).2 ⟨?_, ?_, ?_⟩⟩
    exacts [hop, hrs, BitVec.eq_of_toNat_eq hrt]

theorem decodeBc2_fits (hop : opField w = 0x12#6) (hrs : rsField w = 0x08#5) (h : decodeBc2 w = .ok i) : i.Fits w := by
  unfold decodeBc2 at h
  split at h <;> rename_i hrt <;> cases h
  all_goals
    refine ⟨rfl, (Instr.inRow_iff_op_rs_rt rfl rfl).2 ⟨?_, ?_, ?_⟩⟩
    exacts [hop, hrs, BitVec.eq_of_toNat_eq hrt]

theorem decodeBc3_fits (hop : opField w = 0x13#6) (hrs : rsField w = 0x08#5) (h : decodeBc3 w = .ok i) : i.Fits w := by
  unfold decodeBc3 at h
  split at h <;> rename_i hrt <;> cases h
  all_goals
    refine ⟨rfl, (Instr.inRow_iff_op_rs_rt rfl rfl).2 ⟨?_, ?_, ?_⟩⟩
    exacts [hop, hrs, BitVec.eq_of_toNat_eq hrt]

theorem decodeCop0Co_fits (hop : opField w = 0x10#6) (hco : coBit w = true) (h : decodeCop0Co w = .ok i) : i.Fits w := by
  unfold decodeCop0Co at h
  split at h <;> rename_i hf <;> cases h
  all_goals
    refine ⟨rfl, (Instr.inRow_iff_op_co_funct rfl rfl).2 ⟨?_, ?_, ?_⟩⟩
    exacts [hop, hco, BitVec.eq_of_toNat_eq hf]

theorem decodeCop1Op_fits (hop : opField w = 0x11#6) (hco : coBit w = true) (h : decodeCop1Op w = .ok i) : i.Fits w := by
  unfold decodeCop1Op at h
  split at h <;> rename_i hf <;> cases h
  all_goals
    refine ⟨Fmt.ofCode_wellFormed _, (Instr.inRow_iff_op_co_funct rfl rfl).2 ⟨?_, ?_, ?_⟩⟩
    exacts [hop, hco, BitVec.eq_of_toNat_eq hf]

/-- Below the CO bit the seventh arm is the map of the branches, the others lie in their rows by rs; likewise for coprocessors 1 and 2. -/
theorem decodeCop0_fits (hop : opField w = 0x10#6) (h : decodeCop0 w = .ok i) : i.Fits w := by
  unfold decodeCop0 at h
  split at h
  · exact decodeCop0Co_fits hop ‹_› h
  split at h <;> rename_i hrs
  case h_7 => exact decodeBc0_fits hop (BitVec.eq_of_toNat_eq hrs) h
  all_goals cases h
  all_goals
    refine ⟨rfl, (Instr.inRow_iff_op_rs rfl rfl).2 ⟨?_, ?_⟩⟩
    exacts [hop, BitVec.eq_of_toNat_eq hrs]

theorem decodeCop1_fits (hop : opField w = 0x11#6) (h : decodeCop1 w = .ok i) : i.Fits w := by
  unfold decodeCop1 at h
  split at h
  · exact decodeCop1Op_fits hop ‹_› h
  split at h <;> rename_i hrs
  case h_7 => exact decodeBc1_fits hop (BitVec.eq_of_toNat_eq hrs) h
  all_goals cases h
  all_goals
    refine ⟨rfl, (Instr.inRow_iff_op_rs rfl rfl).2 ⟨?_, ?_⟩⟩
    exacts [hop, BitVec.eq_of_toNat_eq hrs]

theorem decodeCop2_fits (hop : opField w = 0x12#6) (h : decodeCop2 w = .ok i) : i.Fits w := by
  unfold decodeCop2 at h
  split at h
  next hco =>
    cases h
    refine ⟨rfl, (Instr.inRow_iff_op_co rfl rfl).2 ⟨?_, ?_⟩⟩
    exacts [hop, hco]
  split at h <;> rename_i hrs
  case h_7 => exact decodeBc2_fits hop (BitVec.eq_of_toNat_eq hrs) h
  all_goals cases h
  all_goals
    refine ⟨rfl, (Instr.inRow_iff_op_rs rfl rfl).2 ⟨?_, ?_⟩⟩
    exacts [hop, BitVec.eq_of_toNat_eq hrs]

theorem decodeCop3_fits (hop : opField w = 0x13#6) (h : decodeCop3 w = .ok i) : i.Fits w := by
  unfold decodeCop3 at h
  split at h
  next hrs => exact decodeBc3_fits hop (BitVec.eq_of_toNat_eq hrs) h
  next => cases h

/-- What is decoded fits its word: the class maps by their own lemmas, CACHE by its named codes, the main map by op alone. -/
theorem decode_fits (h : decode w = .ok i) : i.Fits w := by
  unfold decode at h
  split at h <;> rename_i hop
  case h_1 => exact decodeSpecial_fits (BitVec.eq_of_toNat_eq hop) h
  case h_2 => exact decodeRegimm_fits (BitVec.eq_of_toNat_eq hop) h
  case h_17 => exact decodeCop0_fits (BitVec.eq_of_toNat_eq hop) h
  case h_18 => exact decodeCop1_fits (BitVec.eq_of_toNat_eq hop) h
  case h_19 => exact decodeCop2_fits (BitVec.eq_of_toNat_eq hop) h
  case h_20 => exact decodeCop3_fits (BitVec.eq_of_toNat_eq hop) h
  case h_29 => exact decodeMac_fits (BitVec.eq_of_toNat_eq hop) h
  case h_45 =>
    cases h
    refine ⟨CacheOp.ofCode_wellFormed _, (Instr.inRow_iff_op rfl rfl).2 ?_⟩
    exact BitVec.eq_of_toNat_eq hop
  all_goals cases h
  all_goals
    refine ⟨rfl, (Instr.inRow_iff_op rfl rfl).2 ?_⟩
    exact BitVec.eq_of_toNat_eq hop

/-! ## What lies in a row is decoded -/

/-- The fields of the row's match lead the decoder to the row's own arm. -/
theorem decode_of_inRow (h : i.inRow w = true) : ∃ j, decode w = .ok j ∧ j.row = i.row := by
  cases i with
  | add | addu | sub | subu | slt | sltu | and | or | xor | nor | dadd | daddu | dsub | dsubu | sll | srl | sra | dsll | dsrl | dsra
  | dsll32 | dsrl32 | dsra32 | sllv | srlv | srav | dsllv | dsrlv | dsrav | mult | multu | dmult | dmultu | div | divu | ddiv | ddivu
  | mfhi | mflo | mthi | mtlo | jr | jalr | sync | syscall | brk | sdbbp | tge | tgeu | tlt | tltu | teq | tne =>
    obtain ⟨hop, hf⟩ := (Instr.inRow_iff_op_funct rfl rfl).1 h
    rw [decode_of_special hop, decodeSpecial, hf]
    exact ⟨_, rfl, rfl⟩
  | madd | maddu =>
    obtain ⟨hop, hf⟩ := (Instr.inRow_iff_op_funct rfl rfl).1 h
    rw [decode_of_mac hop, decodeMac, hf]
    exact ⟨_, rfl, rfl⟩
  | bltz | bgez | bltzl | bgezl | bltzal | bgezal | bltzall | bgezall | tgei | tgeiu | tlti | tltiu | teqi | tnei =>
    obtain ⟨hop, hrt⟩ := (Instr.inRow_iff_op_rt rfl rfl).1 h
    rw [decode_of_regimm hop, decodeRegimm, hrt]
    exact ⟨_, rfl, rfl⟩
  | mfc0 | dmfc0 | cfc0 | mtc0 | dmtc0 | ctc0 =>
    obtain ⟨hop, hrs⟩ := (Instr.inRow_iff_op_rs rfl rfl).1 h
    rw [decode_of_cop0 hop, decodeCop0, coBit_eq, hrs]
    exact ⟨_, rfl, rfl⟩
  | mfc1 | dmfc1 | cfc1 | mtc1 | dmtc1 | ctc1 =>
    obtain ⟨hop, hrs⟩ := (Instr.inRow_iff_op_rs rfl rfl).1 h
    rw [decode_of_cop1 hop, decodeCop1, coBit_eq, hrs]
    exact ⟨_, rfl, rfl⟩
  | mfc2 | dmfc2 | cfc2 | mtc2 | dmtc2 | ctc2 =>
    obtain ⟨hop, hrs⟩ := (Instr.inRow_iff_op_rs rfl rfl).1 h
    rw [decode_of_cop2 hop, decodeCop2, coBit_eq, hrs]
    exact ⟨_, rfl, rfl⟩
  | bc0f | bc0t | bc0fl | bc0tl =>
    obtain ⟨hop, hrs, hrt⟩ := (Instr.inRow_iff_op_rs_rt rfl rfl).1 h
    rw [decode_of_bc0 hop hrs, decodeBc0, hrt]
    exact ⟨_, rfl, rfl⟩
  | bc1f | bc1t | bc1fl | bc1tl =>
    obtain ⟨hop, hrs, hrt⟩ := (Instr.inRow_iff_op_rs_rt rfl rfl).1 h
    rw [decode_of_bc1 hop hrs, decodeBc1, hrt]
    exact ⟨_, rfl, rfl⟩
  | bc2f | bc2t | bc2fl | bc2tl =>
    obtain ⟨hop, hrs, hrt⟩ := (Instr.inRow_iff_op_rs_rt rfl rfl).1 h
    rw [decode_of_bc2 hop hrs, decodeBc2, hrt]
    exact ⟨_, rfl, rfl⟩
  | bc3f | bc3t | bc3fl | bc3tl =>
    obtain ⟨hop, hrs, hrt⟩ := (Instr.inRow_iff_op_rs_rt rfl rfl).1 h
    rw [decode_of_bc3 hop hrs, decodeBc3, hrt]
    exact ⟨_, rfl, rfl⟩
  | tlbr | tlbwi | tlbwr | tlbp | eret | deret | wait =>
    obtain ⟨hop, hco, hf⟩ := (Instr.inRow_iff_op_co_funct rfl rfl).1 h
    rw [decode_of_cop0Co hop hco, decodeCop0Co, hf]
    exact ⟨_, rfl, rfl⟩
  | cop2 =>
    obtain ⟨hop, hco⟩ := (Instr.inRow_iff_op_co rfl rfl).1 h
    exact ⟨_, decode_of_cop2Co hop hco, rfl⟩
  | lb | lbu | lh | lhu | lw | lwu | ld | sb | sh | sw | sd | lwl | lwr | swl | swr | ldl | ldr | sdl | sdr | ll | lld | sc | scd
  | addi | addiu | slti | sltiu | andi | ori | xori | daddi | daddiu | lui | j | jal | beq | bne | blez | bgtz | beql | bnel
  | blezl | bgtzl | lwc1 | swc1 | ldc1 | sdc1 | lwc2 | swc2 | ldc2 | sdc2 | cache | pref =>
    rw [decode, (Instr.inRow_iff_op rfl rfl).1 h]
    exact ⟨_, rfl, rfl⟩
  | _ =>
    obtain ⟨hop, hco, hf⟩ := (Instr.inRow_iff_op_co_funct rfl rfl).1 h
    rw [decode_of_cop1Op hop hco, decodeCop1Op, hf]
    exact ⟨_, rfl, rfl⟩

end

/-- Settles O2: by the arm of the decoder for the one direction, by the row of the table for the other. -/
theorem decoderFollowsTable : Obligations.DecoderFollowsTable := by
  refine ⟨fun w i h => ?_, fun w i h => decode_of_inRow h⟩
  obtain ⟨hwf, hrow⟩ := decode_fits h
  exact ⟨hwf, hrow, decodeOfEncode i hwf⟩

end Sys2Proof
end

section
/-! SUPPORT. The words that are no instruction, by the kind of their cell, and what the unusable and the absent coprocessors answer
(O59; 30_encoding.md R226 to R240, 45_coprocessor.md R450 to R453, 60_exceptions.md R656, R657). -/

namespace Sys2Proof

/-! ## The fields as numbers -/

section
variable (w : Word)

theorem opField_toNat : (opField w).toNat = w.toNat / 2 ^ 26 := by
  simp only [opField, BitVec.extractLsb'_toNat, Nat.shiftRight_eq_div_pow]
  omega

theorem rsField_toNat : (rsField w).toNat = w.toNat / 2 ^ 21 % 2 ^ 5 := by
  rw [rsField, BitVec.extractLsb'_toNat, Nat.shiftRight_eq_div_pow]

theorem rtField_toNat : (rtField w).toNat = w.toNat / 2 ^ 16 % 2 ^ 5 := by
  rw [rtField, BitVec.extractLsb'_toNat, Nat.shiftRight_eq_div_pow]

theorem functField_toNat : (functField w).toNat = w.toNat % 2 ^ 6 := BitVec.extractLsb'_toNat ..

/-- The words with the CO bit set are the upper half of the rs column. -/
theorem coBit_iff : coBit w = true ↔ 16 ≤ (rsField w).toNat := by
  rw [coBit_eq]
  generalize rsField w = rs
  revert rs
  decide

end

/-! ## The kinds of words that are no instruction -/

/-- The answer of the decoder to the words of a kind. -/
def WordKind.reject : WordKind → Reject
  | .reserved => .reserved
  | .coprocessor z => .copReserved z
  | .cop0Function => .cop0Nop
  | .cop1 => .fpuUnimplemented

namespace WordKind

section
variable {w : Word}

/-! The last arm of each map rejects the word; no other arm has the value the kind excludes. -/

theorem decode_error_of_reserved (h : reserved.holds w) : decode w = .error .reserved := by
  simp only [holds, ← opField_toNat, ← rtField_toNat, ← functField_toNat, List.mem_cons, List.not_mem_nil, or_false, not_or] at h
  rcases h with ⟨hop, hf⟩ | ⟨hop, hrt⟩ | ⟨hop, hf⟩ | hop
  · rw [decode_of_special (BitVec.eq_of_toNat_eq hop)]
    unfold decodeSpecial
    generalize (functField w).toNat = f at hf ⊢
    split
    rotate_right
    · rfl
    all_goals omega
  · rw [decode_of_regimm (BitVec.eq_of_toNat_eq hop)]
    unfold decodeRegimm
    generalize (rtField w).toNat = rt at hrt ⊢
    split
    rotate_right
    · rfl
    all_goals omega
  · rw [decode_of_mac (BitVec.eq_of_toNat_eq hop)]
    unfold decodeMac
    generalize (functField w).toNat = f at hf ⊢
    split
    rotate_right
    · rfl
    all_goals omega
  · rcases hop with hop | hop | hop | hop <;> (rw [decode, hop]; rfl)

theorem decode_error_of_cop1 (h : cop1.holds w) : decode w = .error .fpuUnimplemented := by
  simp only [holds, ← opField_toNat, ← rsField_toNat, ← functField_toNat, List.mem_cons, List.not_mem_nil, or_false] at h
  obtain ⟨hop, h⟩ := h
  rw [decode_of_cop1 (BitVec.eq_of_toNat_eq hop)]
  unfold decodeCop1
  have hupper := coBit_iff w
  generalize (rsField w).toNat = rs at h hupper ⊢
  split
  next hco =>
    have hrs := hupper.1 hco
    unfold decodeCop1Op
    generalize (functField w).toNat = f at h ⊢
    split
    rotate_right
    · rfl
    all_goals omega
  next =>
    split
    rotate_right
    · rfl
    all_goals omega

theorem decode_error_of_cop0Function (h : cop0Function.holds w) : decode w = .error .cop0Nop := by
  simp only [holds, ← opField_toNat, ← rsField_toNat, ← functField_toNat, List.mem_cons, List.not_mem_nil, or_false, not_or] at h
  obtain ⟨hop, hrs, hf⟩ := h
  rw [decode_of_cop0Co (BitVec.eq_of_toNat_eq hop) ((coBit_iff w).2 hrs)]
  unfold decodeCop0Co
  generalize (functField w).toNat = f at hf ⊢
  split
  rotate_right
  · rfl
  all_goals omega

/-- The branches on the condition of coprocessor `z` leave the upper part of their column reserved. -/
theorem decode_error_of_bcReserved {z : BitVec 2} (hop : (opField w).toNat = 0x10 + z.toNat) (hrs : (rsField w).toNat = 0x08)
    (hrt : 4 ≤ (rtField w).toNat) : decode w = .error (.copReserved z) := by
  have hrs := BitVec.eq_of_toNat_eq (y := 0x08#5) hrs
  have hz : ∀ z : BitVec 2, z = 0#2 ∨ z = 1#2 ∨ z = 2#2 ∨ z = 3#2 := by decide
  rcases hz z with rfl | rfl | rfl | rfl <;>
    [rw [decode_of_bc0 (BitVec.eq_of_toNat_eq hop) hrs, decodeBc0];
     rw [decode_of_bc1 (BitVec.eq_of_toNat_eq hop) hrs, decodeBc1];
     rw [decode_of_bc2 (BitVec.eq_of_toNat_eq hop) hrs, decodeBc2];
     rw [decode_of_bc3 (BitVec.eq_of_toNat_eq hop) hrs, decodeBc3]]
  all_goals
    split
    rotate_right
    · rfl
    all_goals omega

theorem decode_error_of_coprocessor {z : BitVec 2} (h : (coprocessor z).holds w) : decode w = .error (.copReserved z) := by
  simp only [holds, ← opField_toNat, ← rsField_toNat, ← rtField_toNat, List.mem_cons, List.not_mem_nil, or_false, not_or] at h
  obtain ⟨hop, ⟨hrs, hrt⟩ | ⟨rfl, hrs⟩ | ⟨rfl | rfl, hlow, hrs⟩⟩ := h
  · exact decode_error_of_bcReserved hop hrs hrt
  · rw [decode_of_cop3 (BitVec.eq_of_toNat_eq hop)]
    unfold decodeCop3
    split
    rotate_right
    · rfl
    all_goals omega
  · rw [decode_of_cop0 (BitVec.eq_of_toNat_eq hop), decodeCop0, if_neg (mt (coBit_iff w).1 (by omega))]
    generalize (rsField w).toNat = rs at hlow hrs ⊢
    split
    rotate_right
    · rfl
    all_goals omega
  · rw [decode_of_cop2 (BitVec.eq_of_toNat_eq hop), decodeCop2, if_neg (mt (coBit_iff w).1 (by omega))]
    generalize (rsField w).toNat = rs at hlow hrs ⊢
    split
    rotate_right
    · rfl
    all_goals omega

/-- The decoder answers every word of a kind as its cell says (30_encoding.md R233, R235, R239). -/
theorem decode_of_holds {kind : WordKind} (h : kind.holds w) : decode w = .error kind.reject := by
  cases kind with
  | reserved => exact decode_error_of_reserved h
  | coprocessor z => exact decode_error_of_coprocessor h
  | cop0Function => exact decode_error_of_cop0Function h
  | cop1 => exact decode_error_of_cop1 h

end

end WordKind

namespace Machine

/-! ## The instructions -/

/-- A 64-bit operation begins with its check. -/
theorem exec_eq_wide_of_isDoubleword {i : Instr} (hi : isDoubleword i = true) (s : State) : ∃ k, exec i s = wide s k := by
  cases i with
  | lwu | ld | sd | ldl | ldr | sdl | sdr | lld | scd | daddi | daddiu | dadd | daddu | dsub | dsubu | dsll | dsrl | dsra | dsll32
  | dsrl32 | dsra32 | dsllv | dsrlv | dsrav | dmult | dmultu | ddiv | ddivu | dmfc0 | dmtc0 | dmfc1 | dmtc1 | dmfc2 | dmtc2 =>
    exact ⟨_, rfl⟩
  | _ => cases hi

section
variable {i : Instr} {z : BitVec 2} {s : State}

/-- An instruction of a coprocessor begins with the usability check, but for that of its width. -/
theorem exec_eq_needs_of_coprocessorOf (hi : coprocessorOf i = some z) (hw : isDoubleword i = true → s.is64bitOps = true) :
    ∃ k, exec i s = needs z s k := by
  cases i with
  | dmfc0 | dmtc0 | dmfc1 | dmtc1 | dmfc2 | dmtc2 => cases hi; exact ⟨_, wide_of (hw rfl)⟩
  | _ => cases hi <;> exact ⟨_, rfl⟩

/-- The instructions of coprocessors 2 and 3 have no effect of their own. -/
theorem exec_eq_copAbsent_of_coprocessorOf (hi : coprocessorOf i = some z) (hz : 2 ≤ z.toNat)
    (hw : isDoubleword i = true → s.is64bitOps = true) : exec i s = copAbsent z s := by
  cases i with
  | dmfc2 | dmtc2 => cases hi; exact wide_of (hw rfl)
  | lwc2 | swc2 | ldc2 | sdc2 | mfc2 | cfc2 | mtc2 | ctc2 | cop2 | bc2f | bc2t | bc2fl | bc2tl | bc3f | bc3t | bc3fl | bc3tl =>
    cases hi; rfl
  | _ => cases hi <;> exact absurd hz (by decide)

end

/-! ## The words -/

section
variable {w : Word} {s : State}

/-- A word that is no instruction is executed by its kind. -/
theorem execWord_of_holds {kind : WordKind} (h : kind.holds w) (s : State) : execWord w s = execReject kind.reject s := by
  rw [execWord, WordKind.decode_of_holds h]

theorem needs_raises_copUnusable {z : BitVec 2} (k : Out) (hu : s.usable z = false) (hd : s.debugMode = false) :
    needs z s k = .next (takeException (.copUnusable z) s) :=
  (needs_of_not hu).trans (raise_of hd)

/-- A written field reads back. -/
theorem extractLsb'_putBits {n m lo : Nat} (x : BitVec n) (v : BitVec m) (h : lo + m ≤ n) :
    (putBits x lo v).extractLsb' lo m = v := by
  apply BitVec.eq_of_getLsbD_eq
  intro i hi
  rw [BitVec.getLsbD_extractLsb', getLsbD_putBits _ _ _ (by omega), if_pos (by omega), Nat.add_sub_cancel_left]
  simp [hi]

/-- Unimplemented Operation writes the Cause field of FCR31 alone: E, and none of the others. -/
theorem fpUnimplemented_raises (hd : s.debugMode = false) :
    ∃ fcr31 : Word, fcr31.extractLsb' 12 6 = 0b100000#6 ∧ fcr31 &&& 0xFFFC0FFF#32 = s.fcr31 &&& 0xFFFC0FFF#32 ∧
      fpUnimplemented s = .next (takeException .floatingPoint { s with fcr31 := fcr31 }) := by
  exact ⟨putBits s.fcr31 12 0b100000#6, extractLsb'_putBits _ _ (by decide), putBits_and_of_disjoint _ _ _ (by decide),
    raise_of hd⟩

end

/-- Settles O59: each instruction begins with its checks, and the decoder names the kind of every other word. -/
theorem reservedAndUnusable : Obligations.ReservedAndUnusable := by
  constructor
  · intro i s
    constructor
    · intro hi h64 hd
      obtain ⟨k, hk⟩ := exec_eq_wide_of_isDoubleword hi s
      exact hk.trans ((wide_of_not h64).trans (raise_of hd))
    · intro z hz hw
      constructor
      · intro hu hd
        obtain ⟨k, hk⟩ := exec_eq_needs_of_coprocessorOf hz hw
        exact hk.trans (needs_raises_copUnusable k hu hd)
      · intro hu hz2
        exact (exec_eq_copAbsent_of_coprocessorOf hz hz2 hw).trans (needs_of hu)
  · intro w s unusable
    refine ⟨?reserved, ?coprocessor, ?cop0Function, ?cop1⟩
    case reserved =>
      intro h hd
      exact (execWord_of_holds h s).trans (raise_of hd)
    case coprocessor =>
      intro z h
      have hw : execWord w s = needs z s (raise .reservedInstruction s) := execWord_of_holds h s
      exact ⟨fun hu hd => hw.trans (needs_raises_copUnusable _ hu hd), fun hu hd => hw.trans ((needs_of hu).trans (raise_of hd))⟩
    case cop0Function =>
      intro h
      have hw : execWord w s = needs 0#2 s (.next s.advance) := execWord_of_holds h s
      exact ⟨fun hu hd => hw.trans (needs_raises_copUnusable _ hu hd),
        fun hu => ⟨_, hw.trans (needs_of hu), s.advance_movedOn, rfl, State.sameBytes_of rfl rfl⟩⟩
    case cop1 =>
      intro h
      have hw : execWord w s = needs 1#2 s (fpUnimplemented s) := execWord_of_holds h s
      refine ⟨fun hu hd => hw.trans (needs_raises_copUnusable _ hu hd), fun hu hd => ?_⟩
      obtain ⟨fcr31, hcause, hrest, hraise⟩ := fpUnimplemented_raises hd
      exact ⟨fcr31, hcause, hrest, hw.trans ((needs_of hu).trans hraise)⟩

end Machine

end Sys2Proof
end

section
/-! SUPPORT. The aligned, linked and conditional loads and stores past the data cache, each one access that the bus answers or the
write buffer takes, and the statements on them (O47, O49, O51; 40_load_store.md R261 to R272, R281 to R284; 20_memory.md R160, R161,
R171, R172). -/

namespace Sys2Proof.Machine

/-! ## The aligned forms (R262 to R272) -/

theorem State.memNat_lt (s : State) (pa : PAddr) (n : Nat) : s.memNat pa n < 256 ^ n := by
  refine (bytesNat_lt _).trans_le (Nat.pow_le_pow_right (by decide) ?_)
  split <;> simp

section

variable {s : State} {rt base : RegNum} {offset : BitVec 16} {pa : PAddr}

/-- An aligned load past the cache gives `rt` the bytes there, extended. -/
theorem loads_of_mem_alignedLoads (h : s.loadsAt (s.effAddr base offset) pa) : ∀ p ∈ alignedLoads rt offset base,
    (s.effAddr base offset).toNat % p.2.1 = 0 → (isDoubleword p.1 = true → s.is64bitOps = true) →
    Loads p.1 s rt (p.2.2 (s.memNat pa p.2.1)) := by
  rintro ⟨i, n, ext⟩ hi ha hd
  obtain ⟨f, hf, hexec⟩ := exec_alignedLoad hi hd
  obtain ⟨x, hl, hx⟩ := State.load_of n (Nat.le_of_dvd (by decide) (alignedLoads_width hi)) ha h
  refine Loads.of_setReg ?_
  rw [hexec, hl, loadGpr_ok, hf x (hx ▸ s.memNat_lt pa n), hx]

/-- An aligned store past the cache leaves the low bytes of `rt` there. -/
theorem stores_of_mem_alignedStores (hw : Memory.wf s.mem) (h : s.storesAt (s.effAddr base offset) pa) :
    ∀ p ∈ alignedStores rt offset base, (s.effAddr base offset).toNat % p.2 = 0 →
      (isDoubleword p.1 = true → s.is64bitOps = true) → Stores p.1 s pa p.2 (s.rget rt) := by
  rintro ⟨i, n⟩ hi ha hd
  have hn := Nat.le_of_dvd (by decide) (alignedStores_width hi)
  obtain ⟨t, ht, hframe, hst⟩ := State.store_of n (s.rget rt) hn ha hw h
  exact Stores.of_stored (by rw [exec_alignedStore hi hd, storeGpr, storeAligned, ht, storeThen_ok]; rfl) hframe hst

end

namespace PastCache

/-- Settles O47: each aligned load is one answered access of its width. -/
theorem alignedLoads : Obligations.AlignedLoads := by
  intro s rt offset base pa va h
  have hforms := loads_of_mem_alignedLoads (rt := rt) h
  simp only [Sys2Proof.alignedLoads, List.forall_mem_cons, List.not_mem_nil, false_imp_iff, implies_true, and_true] at hforms
  obtain ⟨lb, lbu, lh, lhu, lw, lwu, ld⟩ := hforms
  exact ⟨lb (Nat.mod_one _) nofun, lbu (Nat.mod_one _) nofun, fun ha => ⟨lh ha nofun, lhu ha nofun⟩,
    fun ha => ⟨lw ha nofun, fun h64 => lwu ha fun _ => h64⟩, fun ha h64 => ld ha fun _ => h64⟩

/-- Settles O49: each aligned store is one access of its width that enters the write buffer. -/
theorem alignedStores : Obligations.AlignedStores := by
  intro s rt offset base pa va hs h
  have hforms := stores_of_mem_alignedStores (rt := rt) hs.1 h
  simp only [Sys2Proof.alignedStores, List.forall_mem_cons, List.not_mem_nil, false_imp_iff, implies_true, and_true] at hforms
  obtain ⟨sb, sh, sw, sd⟩ := hforms
  exact ⟨sb (Nat.mod_one _) nofun, fun ha => sh ha nofun, fun ha => sw ha nofun, fun ha h64 => sd ha fun _ => h64⟩

end PastCache

/-! ## The linked and conditional forms (R281 to R284) -/

/-- What an instruction leaves that completes with `v` in GPR `r`. -/
theorem setReg_leaves (r : RegNum) (v : DWord) (s : State) : ∃ t, setReg r v s = .next t ∧ t.rget r = gprHolds r v ∧
    (∀ q, q ≠ r → t.rget q = s.rget q) ∧ s.movedOn t ∧ t = { s with gpr := t.gpr, pc := t.pc, delaySlot := t.delaySlot } := by
  refine ⟨_, rfl, ?_, fun q hq => ?_, ?_, ?_⟩
  · rw [State.advance_rget, State.rget_setGpr_same, gprHolds]
  · rw [State.advance_rget, State.rget_setGpr_other _ _ hq]
  · unfold State.setGpr
    split <;> exact ⟨rfl, rfl⟩
  · unfold State.setGpr
    split <;> rfl

section

variable {i : Instr} {s : State} {rt base : RegNum} {offset : BitVec 16} {pa : PAddr} {n : Nat}

/-- A linked load past the cache completes with the bytes there, sign-extended, and links. -/
theorem loadsLinked_of_loadLinked {v : DWord} (hn : n ≤ 8) (ha : (s.effAddr base offset).toNat % n = 0)
    (h : s.loadsAt (s.effAddr base offset) pa) (hexec : exec i s = loadLinked rt offset base n s)
    (hv : ∀ x : DWord, x.toNat = s.memNat pa n → sextBytes n x = v) : LoadsLinked i s rt pa v := by
  obtain ⟨x, hl, hx⟩ := State.load_of n hn ha h
  obtain ⟨t, ht, hr, hother, hmoved, hframe⟩ := setReg_leaves rt (sextBytes n x) (s.drainAll.link pa)
  refine ⟨t, ?completes, ?_, hother, ?_, ?_, hmoved, fun a => ?bytes, ?_⟩
  case completes =>
    rw [hexec, loadLinked, hl]
    exact ht
  case bytes =>
    rw [← State.drainAll_physByte s a]
    exact State.physByte_congr (by rw [hframe]; rfl) (by rw [hframe]; rfl) a
  · rw [hr, hv x hx]
  all_goals
    rw [hframe]
    rfl

/-- A conditional store past the cache stores if LLbit is set, and tells so in `rt`. -/
theorem storesConditionally_of_storeConditional (hn : n ≤ 8) (ha : (s.effAddr base offset).toNat % n = 0) (hw : Memory.wf s.mem)
    (h : s.storesAt (s.effAddr base offset) pa) (hexec : exec i s = storeConditional rt offset base n s) :
    StoresConditionally i s rt pa n := by
  by_cases hlink : s.llbit = true
  · obtain ⟨t, ht, hst, hstored⟩ := State.store_of n (s.rget rt) hn ha hw h
    obtain ⟨u, hu, hr, hother, hmoved, hframe⟩ := setReg_leaves rt 1#64 t
    have hbyte (a : PAddr) : u.physByte a = t.physByte a := State.physByte_congr (by rw [hframe]) (by rw [hframe]) a
    refine ⟨u, ?completes, ?_, fun q hq => ?_, fun _ => ⟨fun k hk => ?_, fun a ha => ?_⟩, ?_, ?_, ?_⟩
    case completes => rw [hexec, storeConditional, if_pos hlink, storeAligned, ht, storeThen_ok, hu]
    · rw [hr, if_pos hlink]
    · rw [hother q hq, hst]
      rfl
    · rw [hbyte, hstored.1 k hk]
    · rw [hbyte, hstored.2 a ha]
    · exact fun hoff => absurd hlink (by simp [hoff])
    · rw [hst] at hmoved
      exact hmoved
    · rw [hframe, hst]
  · obtain ⟨attr, ht, -⟩ := h.1.2
    obtain ⟨u, hu, hr, hother, hmoved, hframe⟩ := setReg_leaves rt 0#64 s
    refine ⟨u, ?completes, ?_, hother, fun hon => absurd hon hlink, fun _ a => ?_, hmoved, ?_⟩
    case completes =>
      have hal : aligned (s.effAddr base offset) n = true := by simp [aligned, ha]
      rw [hexec, storeConditional, if_neg hlink, if_pos hal, ht]
      exact hu
    · rw [hr, if_neg hlink]
    · exact State.physByte_congr (by rw [hframe]) (by rw [hframe]) a
    · rw [hframe]

end

/-- Settles O51: each form is one access, of four bytes or of eight. -/
theorem linkedAndConditional : Obligations.LinkedAndConditional := by
  intro s rt offset base pa va
  refine ⟨fun h => ⟨fun ha => ?ll, fun ha h64 => ?lld⟩, fun hs h => ⟨fun ha => ?sc, fun ha h64 => ?scd⟩⟩
  case ll => exact loadsLinked_of_loadLinked (by decide) ha h rfl fun x hx => by rw [sextBytes_eq, hx]; rfl
  case lld =>
    refine loadsLinked_of_loadLinked (by decide) ha h (wide_of h64) fun x hx => ?_
    rw [sextBytes_eight, ← hx, BitVec.ofNat_toNat, BitVec.setWidth_eq]
  case sc => exact storesConditionally_of_storeConditional (by decide) ha hs.1 h rfl
  case scd => exact storesConditionally_of_storeConditional (by decide) ha hs.1 h (wide_of h64)

end Sys2Proof.Machine
end

section
/-! SUPPORT. The left and right loads and stores past the data cache: which bytes they access, how the bytes read are merged with
the register, and the statements on them (O48, O50; 40_load_store.md R273 to R280, R285; 20_memory.md R122). -/

namespace Sys2Proof.Machine

/-! ## The bytes accessed (R285) -/

section

variable {w : Nat} {va : DWord} {pa : PAddr}

theorem leftCount_eq (be : Bool) (va : DWord) (hw : 0 < w) : leftCount be w va = leftBytes be w (va.toNat % w) := by
  have hb := Nat.mod_lt va.toNat hw
  cases be
  · rfl
  · simp only [leftCount, blockByte, leftBytes, if_true]
    omega

theorem rightCount_eq (be : Bool) (va : DWord) (hw : 0 < w) : rightCount be w va = rightBytes be w (va.toNat % w) := by
  have hb := Nat.mod_lt va.toNat hw
  cases be
  · rfl
  · simp only [rightCount, blockByte, rightBytes, if_true]
    omega

theorem leftBytes_le (be : Bool) {b : Nat} (h : b < w) : leftBytes be w b ≤ w := by
  unfold leftBytes
  split <;> omega

theorem rightBytes_le (be : Bool) {b : Nat} (h : b < w) : rightBytes be w b ≤ w := by
  unfold rightBytes
  split <;> omega

/-- The block of `w` bytes around an address begins at the same offset in the physical doubleword. -/
theorem withOffset_alignDown (hw : w ∣ 8) (h : pa.extractLsb' 0 12 = va.extractLsb' 0 12) :
    withOffset pa (alignDown w va) = pa - BitVec.ofNat 36 (va.toNat % w) := by
  have hle : va.toNat % w ≤ va.toNat % 8 := Nat.mod_mod_of_dvd va.toNat hw ▸ Nat.mod_le _ _
  have hlow := congrArg BitVec.toNat h
  simp only [BitVec.extractLsb'_toNat, Nat.shiftRight_zero] at hlow
  have hdown : (alignDown w va).toNat = va.toNat - va.toNat % w := by
    unfold alignDown
    bv_omega
  apply BitVec.eq_of_toNat_eq
  rw [withOffset_toNat, hdown]
  bv_omega

theorem withOffset_leftStart (be : Bool) (hw : w ∣ 8) (h : pa.extractLsb' 0 12 = va.extractLsb' 0 12) :
    withOffset pa (leftStart be w va) = if be then pa else pa - BitVec.ofNat 36 (va.toNat % w) := by
  cases be
  · exact withOffset_alignDown hw h
  · exact withOffset_self h

theorem withOffset_rightStart (be : Bool) (hw : w ∣ 8) (h : pa.extractLsb' 0 12 = va.extractLsb' 0 12) :
    withOffset pa (rightStart be w va) = if be then pa - BitVec.ofNat 36 (va.toNat % w) else pa := by
  cases be
  · exact withOffset_self h
  · exact withOffset_alignDown hw h

end

/-! ## Merging with the register -/

section

variable {m : Nat}

/-- The mask of the bits below `k`. -/
theorem onesBelow_toNat (hm : 0 < m) {k : Nat} (h : k ≤ m) : ((1#m <<< k) - 1#m).toNat = 2 ^ k - 1 := by
  have hone : 1 < 2 ^ m := Nat.one_lt_two_pow hm.ne'
  have hpos : 0 < 2 ^ k := by positivity
  rw [BitVec.toNat_sub, BitVec.toNat_shiftLeft, BitVec.toNat_ofNat, Nat.mod_eq_of_lt hone, Nat.shiftLeft_eq, Nat.one_mul]
  obtain rfl | hlt := h.eq_or_lt
  · rw [Nat.mod_self, Nat.add_zero, Nat.mod_eq_of_lt (by omega)]
  · have hk : 2 ^ k < 2 ^ m := Nat.pow_lt_pow_right (by decide) hlt
    rw [Nat.mod_eq_of_lt hk, show 2 ^ m - 1 + 2 ^ k = 2 ^ k - 1 + 2 ^ m by omega, Nat.add_mod_right, Nat.mod_eq_of_lt (by omega)]

/-- `v` at the most significant end, the rest of the register kept. -/
theorem mergeLeft_toNat {n : Nat} (old v : BitVec m) (hm : 0 < m) (hn : 8 * n ≤ m) (hv : v.toNat < 2 ^ (8 * n)) :
    (mergeLeft n old v).toNat = v.toNat * 2 ^ (m - 8 * n) + old.toNat % 2 ^ (m - 8 * n) := by
  have hfits : v.toNat * 2 ^ (m - 8 * n) < 2 ^ m :=
    calc _ < 2 ^ (8 * n) * 2 ^ (m - 8 * n) := by gcongr
      _ = 2 ^ m := by rw [← pow_add, Nat.add_sub_cancel' hn]
  rw [mergeLeft, BitVec.toNat_or, BitVec.toNat_shiftLeft, Nat.shiftLeft_eq, Nat.mod_eq_of_lt hfits, BitVec.toNat_and,
    onesBelow_toNat hm (Nat.sub_le ..), Nat.and_two_pow_sub_one_eq_mod, Nat.mul_comm,
    ← Nat.two_pow_add_eq_or_of_lt (Nat.mod_lt _ (by positivity))]

/-- `v` at the least significant end, the rest of the register kept. -/
theorem mergeRight_toNat {n : Nat} (old v : BitVec m) (hm : 0 < m) (hn : 8 * n ≤ m) (hv : v.toNat < 2 ^ (8 * n)) :
    (mergeRight n old v).toNat = old.toNat / 2 ^ (8 * n) * 2 ^ (8 * n) + v.toNat := by
  have hkept : old &&& ~~~((1#m <<< (8 * n)) - 1#m) = (old >>> (8 * n)) <<< (8 * n) := by
    apply BitVec.eq_of_getLsbD_eq
    intro i hi
    have hmask : ((1#m <<< (8 * n)) - 1#m).getLsbD i = decide (i < 8 * n) := by
      rw [BitVec.getLsbD, onesBelow_toNat hm hn, Nat.testBit_two_pow_sub_one]
    rw [BitVec.getLsbD_and, BitVec.getLsbD_not, hmask, BitVec.getLsbD_shiftLeft, BitVec.getLsbD_ushiftRight]
    by_cases hlt : i < 8 * n
    · simp [hlt]
    · simp [hlt, hi, Nat.add_sub_cancel' (Nat.le_of_not_lt hlt)]
  have hfits : old.toNat / 2 ^ (8 * n) * 2 ^ (8 * n) < 2 ^ m := (Nat.div_mul_le_self ..).trans_lt old.isLt
  rw [mergeRight, hkept, BitVec.toNat_or, BitVec.toNat_shiftLeft, BitVec.toNat_ushiftRight, Nat.shiftRight_eq_div_pow,
    Nat.shiftLeft_eq, Nat.mod_eq_of_lt hfits, Nat.mul_comm, ← Nat.two_pow_add_eq_or_of_lt hv]

end

theorem sext32_eq_sextWord (x : Word) : sext32 x = sextWord x.toNat := by
  rw [sext32, BitVec.signExtend, BitVec.toInt_eq_toNat_bmod]
  rfl

theorem low32_toNat_of_lt {n : Nat} {x : DWord} (hn : n ≤ 4) (hx : x.toNat < 2 ^ (8 * n)) : (low32 x).toNat = x.toNat := by
  rw [low32_toNat, Nat.mod_eq_of_lt (hx.trans_le (Nat.pow_le_pow_right (by decide) (by omega)))]

/-- The word forms merge with the low word of the register (log entry 12). -/
theorem sext32_mergeLeft {n : Nat} (old : DWord) {x : DWord} (hn : n ≤ 4) (hx : x.toNat < 2 ^ (8 * n)) :
    sext32 (mergeLeft n (low32 old) (low32 x)) =
      sextWord ((x.toNat * 2 ^ (32 - 8 * n) + old.toNat % 2 ^ 32 % 2 ^ (32 - 8 * n) : Nat)) := by
  have hlow := low32_toNat_of_lt hn hx
  rw [sext32_eq_sextWord, mergeLeft_toNat _ _ (by decide) (by omega) (hlow ▸ hx), hlow, low32_toNat]

theorem sext32_mergeRight {n : Nat} (old : DWord) {x : DWord} (hn : n ≤ 4) (hx : x.toNat < 2 ^ (8 * n)) :
    sext32 (mergeRight n (low32 old) (low32 x)) =
      sextWord ((old.toNat % 2 ^ 32 / 2 ^ (8 * n) * 2 ^ (8 * n) + x.toNat : Nat)) := by
  have hlow := low32_toNat_of_lt hn hx
  rw [sext32_eq_sextWord, mergeRight_toNat _ _ (by decide) (by omega) (hlow ▸ hx), hlow, low32_toNat]

theorem mergeLeft_eq_ofNat {n : Nat} (old : DWord) {x : DWord} (hn : n ≤ 8) (hx : x.toNat < 2 ^ (8 * n)) :
    mergeLeft n old x = BitVec.ofNat 64 (x.toNat * 2 ^ (64 - 8 * n) + old.toNat % 2 ^ (64 - 8 * n)) := by
  rw [← mergeLeft_toNat _ _ (by decide) (by omega) hx, BitVec.ofNat_toNat, BitVec.setWidth_eq]

theorem mergeRight_eq_ofNat {n : Nat} (old : DWord) {x : DWord} (hn : n ≤ 8) (hx : x.toNat < 2 ^ (8 * n)) :
    mergeRight n old x = BitVec.ofNat 64 (old.toNat / 2 ^ (8 * n) * 2 ^ (8 * n) + x.toNat) := by
  rw [← mergeRight_toNat _ _ (by decide) (by omega) hx, BitVec.ofNat_toNat, BitVec.setWidth_eq]

/-- The most significant bytes of a register, as a store takes them. -/
theorem setWidth_ushiftRight_eq_ofNat {m : Nat} (x : BitVec m) (k : Nat) :
    (x >>> k).setWidth 64 = BitVec.ofNat 64 (x.toNat / 2 ^ k) := by
  apply BitVec.eq_of_toNat_eq
  rw [BitVec.toNat_setWidth, BitVec.toNat_ushiftRight, Nat.shiftRight_eq_div_pow, BitVec.toNat_ofNat]

/-! ## The forms as one access -/

/-- An access past the cache keeps the offset in the smallest page. -/
theorem State.pastCache_low {s : State} {k : AccessKind} {va : DWord} {pa : PAddr} (h : s.pastCache k va pa) :
    pa.extractLsb' 0 12 = va.extractLsb' 0 12 := by
  obtain ⟨attr, ht, -⟩ := h.2
  exact (State.translateWith_ok ht).2

section

variable {i : Instr} {s : State} {rt : RegNum} {va start : DWord} {pa at' : PAddr} {m n : Nat} {v : DWord}

/-- A load past the cache of the `n` bytes at `at'`, in the doubleword of `va`, merged by `f` into a GPR. -/
theorem loads_part {f : Nat → DWord → DWord} (h : s.loadsAt va pa) (hn : n ≤ 8) (hcount : m = n)
    (hat : withOffset pa start = at') (hexec : exec i s = loadGpr rt (s.loadFrom va start m) s (f m))
    (hf : ∀ x : DWord, x.toNat < 2 ^ (8 * n) → x.toNat = s.memNat at' n → f n x = v) : Loads i s rt v := by
  subst hcount hat
  obtain ⟨x, hl, hx⟩ := State.loadFrom_of start m hn h
  have hlt : x.toNat < 2 ^ (8 * m) := by
    rw [hx, Nat.pow_mul]
    exact s.memNat_lt _ m
  refine Loads.of_setReg ?_
  rw [hexec, hl, loadGpr_ok, hf x hlt hx]

/-- A store past the cache of `n` bytes at `at'`, in the doubleword of `va`. -/
theorem stores_part {f : Nat → DWord} (hw : Memory.wf s.mem) (h : s.storesAt va pa) (hn : n ≤ 8) (hcount : m = n)
    (hat : withOffset pa start = at') (hexec : exec i s = storeUnaligned va start m (f m) s) (hf : f n = v) :
    Stores i s at' n v := by
  subst hcount hat hf
  obtain ⟨t, ht, hframe, hst⟩ := State.storeTo_of start m (f m) hn hw h
  exact Stores.of_stored (by rw [hexec, storeUnaligned, ht, storeThen_ok]; rfl) hframe hst

end

/-- Settles O48: each form is one access of the bytes on its side of the address, merged with the register. -/
theorem unalignedLoads : Obligations.UnalignedLoads := by
  intro s rt offset base pa va h
  have hlow := State.pastCache_low h.1
  have hb4 : va.toNat % 4 < 4 := Nat.mod_lt _ (by decide)
  have hb8 : va.toNat % 8 < 8 := Nat.mod_lt _ (by decide)
  refine ⟨⟨?lwl, ?lwr⟩, fun h64 => ⟨?ldl, ?ldr⟩⟩
  case lwl =>
    have hn := leftBytes_le s.dataBe hb4
    refine loads_part (f := fun n x => sext32 (mergeLeft n (s.rget32 rt) (low32 x))) h (hn.trans (by decide))
      (leftCount_eq _ _ (by decide)) (withOffset_leftStart _ (by decide) hlow) rfl fun x hlt hx => ?_
    rw [← hx]
    exact sext32_mergeLeft _ hn hlt
  case lwr =>
    have hn := rightBytes_le s.dataBe hb4
    refine loads_part (f := fun n x => sext32 (mergeRight n (s.rget32 rt) (low32 x))) h (hn.trans (by decide))
      (rightCount_eq _ _ (by decide)) (withOffset_rightStart _ (by decide) hlow) rfl fun x hlt hx => ?_
    rw [← hx]
    exact sext32_mergeRight _ hn hlt
  case ldl =>
    have hn := leftBytes_le s.dataBe hb8
    refine loads_part (f := fun n x => mergeLeft n (s.rget rt) x) h hn (leftCount_eq _ _ (by decide))
      (withOffset_leftStart _ (by decide) hlow) (wide_of h64) fun x hlt hx => ?_
    rw [← hx]
    exact mergeLeft_eq_ofNat _ hn hlt
  case ldr =>
    have hn := rightBytes_le s.dataBe hb8
    refine loads_part (f := fun n x => mergeRight n (s.rget rt) x) h hn (rightCount_eq _ _ (by decide))
      (withOffset_rightStart _ (by decide) hlow) (wide_of h64) fun x hlt hx => ?_
    rw [← hx]
    exact mergeRight_eq_ofNat _ hn hlt

/-- Settles O50: each form is one access of the bytes on its side of the address, that enters the write buffer. -/
theorem unalignedStores : Obligations.UnalignedStores := by
  intro s rt offset base pa va hs h
  have hlow := State.pastCache_low h.1
  have hb4 : va.toNat % 4 < 4 := Nat.mod_lt _ (by decide)
  have hb8 : va.toNat % 8 < 8 := Nat.mod_lt _ (by decide)
  refine ⟨⟨?swl, ?swr⟩, fun h64 => ⟨?sdl, ?sdr⟩⟩
  case swl =>
    have hn := leftBytes_le s.dataBe hb4
    refine stores_part (f := fun n => (s.rget32 rt >>> (32 - 8 * n)).setWidth 64) hs.1 h (hn.trans (by decide))
      (leftCount_eq _ _ (by decide)) (withOffset_leftStart _ (by decide) hlow) rfl ?_
    rw [setWidth_ushiftRight_eq_ofNat, State.rget32, low32_toNat]
  case swr =>
    have hn := rightBytes_le s.dataBe hb4
    exact stores_part (f := fun _ => s.rget rt) hs.1 h (hn.trans (by decide)) (rightCount_eq _ _ (by decide))
      (withOffset_rightStart _ (by decide) hlow) rfl rfl
  case sdl =>
    refine stores_part (f := fun n => s.rget rt >>> (64 - 8 * n)) hs.1 h (leftBytes_le _ hb8) (leftCount_eq _ _ (by decide))
      (withOffset_leftStart _ (by decide) hlow) (wide_of h64) ?_
    rw [← setWidth_ushiftRight_eq_ofNat, BitVec.setWidth_eq]
  case sdr =>
    exact stores_part (f := fun _ => s.rget rt) hs.1 h (rightBytes_le _ hb8) (rightCount_eq _ _ (by decide))
      (withOffset_rightStart _ (by decide) hlow) (wide_of h64) rfl

end Sys2Proof.Machine
end

section
/-! SUPPORT. The computational instructions as integer arithmetic: the sums, differences and shifts of bit vectors read as integers,
when a sum or difference overflows, and the statements on them (O15 to O19; 41_computational.md R301 to R340). -/

namespace Sys2Proof.Machine

/-! ## Bit vectors as integers -/

section
variable {n : Nat} (x y : BitVec n)

theorem add_eq_ofInt : x + y = BitVec.ofInt n (x.toInt + y.toInt) := by
  rw [BitVec.ofInt_add, BitVec.ofInt_toInt, BitVec.ofInt_toInt]

theorem sub_eq_ofInt : x - y = BitVec.ofInt n (x.toInt - y.toInt) :=
  BitVec.eq_of_toInt_eq (by rw [BitVec.toInt_sub, BitVec.toInt_ofInt])

theorem shiftLeft_eq_ofInt (k : Nat) : x <<< k = BitVec.ofInt n (x.toInt * 2 ^ k) := by
  have hpow : BitVec.twoPow n k = BitVec.ofInt n (2 ^ k) := by
    apply BitVec.eq_of_toNat_eq
    rw [BitVec.toNat_twoPow, ← BitVec.toNat_ofNat, ← BitVec.ofInt_natCast, Nat.cast_pow, Nat.cast_ofNat]
  rw [BitVec.shiftLeft_eq_mul_twoPow, BitVec.ofInt_mul, BitVec.ofInt_toInt, hpow]

theorem sshiftRight_eq_ofInt (k : Nat) : x.sshiftRight k = BitVec.ofInt n (x.toInt / 2 ^ k) := by
  rw [BitVec.sshiftRight, Int.shiftRight_eq_div_pow, Nat.cast_pow, Nat.cast_ofNat]

/-- A logical shift of the unsigned value. -/
theorem ushiftRight_eq_ofNat (k : Nat) : x >>> k = BitVec.ofNat n (x.toNat / 2 ^ k) := by
  rw [← Nat.shiftRight_eq_div_pow, ← BitVec.toNat_ushiftRight, BitVec.ofNat_toNat, BitVec.setWidth_eq]

end

/-! ## Words sign-extended -/

theorem sext32_ofInt (z : Int) : sext32 (BitVec.ofInt 32 z) = sextWord z := by
  rw [sext32, BitVec.signExtend, BitVec.toInt_ofInt]
  rfl

theorem sext32_ofNat (k : Nat) : sext32 (BitVec.ofNat 32 k) = sextWord k := by
  rw [← BitVec.ofInt_natCast, sext32_ofInt]

/-- An immediate sign-extended to a word has its value. -/
theorem sextImm32_toInt (imm : BitVec 16) : (sextImm32 imm).toInt = imm.toInt := BitVec.toInt_signExtend_of_le (by decide)

/-- An immediate sign-extended to a doubleword has its value. -/
theorem sextImm_toInt (imm : BitVec 16) : (sextImm imm).toInt = imm.toInt := BitVec.toInt_signExtend_of_le (by decide)

/-- A negative immediate sign-extended is at the top of the unsigned range (R305). -/
theorem sextImm_toNat (imm : BitVec 16) : ((sextImm imm).toNat : Int) = imm.toInt % 2 ^ 64 := by
  rw [sextImm_eq, BitVec.toNat_ofInt, Int.toNat_of_nonneg (Int.emod_nonneg _ (by decide))]
  rfl

/-! ## Integer Overflow (R301) -/

/-- `z` is the value of a bit vector of `bits` bits, as `ComputesOrOverflows` asks. -/
def FitsIn (bits : Nat) (z : Int) : Prop := -(2 ^ (bits - 1)) ≤ z ∧ z < 2 ^ (bits - 1)

theorem fitsIn_toInt {n : Nat} (x : BitVec n) : FitsIn n x.toInt := ⟨x.le_toInt, x.toInt_lt⟩

section
variable {m : Nat}

theorem fitsIn_succ {z : Int} : FitsIn (m + 1) z ↔ -(2 ^ m) ≤ z ∧ z < 2 ^ m := Iff.rfl

/-- A sum needs at most one bit more than its terms. -/
theorem FitsIn.add {a b : Int} (ha : FitsIn (m + 1) a) (hb : FitsIn (m + 1) b) : FitsIn (m + 2) (a + b) := by
  rw [fitsIn_succ] at *
  omega

theorem FitsIn.sub {a b : Int} (ha : FitsIn (m + 1) a) (hb : FitsIn (m + 1) b) : FitsIn (m + 2) (a - b) := by
  rw [fitsIn_succ] at *
  omega

/-- What fits wraps to itself. -/
theorem FitsIn.bmod_eq {z : Int} (h : FitsIn (m + 1) z) : z.bmod (2 ^ (m + 1)) = z := by
  rw [fitsIn_succ] at h
  apply Int.bmod_eq_of_le <;> push_cast <;> omega

/-- The two top bits of a number differ when it does not fit in one bit less. -/
theorem topBits_ne_iff (t : BitVec (m + 2)) :
    (t.getLsbD (m + 1) != t.getLsbD m) = true ↔ ¬FitsIn (m + 1) t.toInt := by
  have htop : t.getLsbD (m + 1) = decide (2 ^ (m + 1) ≤ t.toNat) := t.getLsbD_last
  have hnext : t.getLsbD m = decide (2 ^ m ≤ t.toNat % 2 ^ (m + 1)) := by
    simpa using (t.setWidth (m + 1)).getLsbD_last
  have hint := t.toInt_eq_toNat_cond
  have hlt := t.isLt
  have hcast : ((2 ^ m : Nat) : Int) = 2 ^ m := Nat.cast_pow 2 m
  rw [pow_succ 2 (m + 1)] at hint hlt
  rw [htop, hnext, bne_iff_ne, ne_eq, decide_eq_decide, not_iff_not, fitsIn_succ, ← hcast]
  by_cases hneg : 2 ^ (m + 1) ≤ t.toNat
  · rw [if_neg (by omega)] at hint
    rw [hint, Nat.mod_eq_sub_mod hneg, Nat.mod_eq_of_lt (by omega)]
    omega
  · rw [if_pos (by omega)] at hint
    rw [hint, Nat.mod_eq_of_lt (by omega)]
    omega

variable (x y : BitVec (m + 1))

/-- The check reads the sum in one bit more, where it is exact. -/
theorem addOverflows_iff : addOverflows x y = true ↔ ¬FitsIn (m + 1) (x.toInt + y.toInt) := by
  have hsum : (x.signExtend (m + 2) + y.signExtend (m + 2)).toInt = x.toInt + y.toInt := by
    rw [BitVec.toInt_add, BitVec.toInt_signExtend_of_le (Nat.le_succ _), BitVec.toInt_signExtend_of_le (Nat.le_succ _)]
    exact ((fitsIn_toInt x).add (fitsIn_toInt y)).bmod_eq
  rw [← hsum]
  exact topBits_ne_iff _

theorem subOverflows_iff : subOverflows x y = true ↔ ¬FitsIn (m + 1) (x.toInt - y.toInt) := by
  have hdiff : (x.signExtend (m + 2) - y.signExtend (m + 2)).toInt = x.toInt - y.toInt := by
    rw [BitVec.toInt_sub, BitVec.toInt_signExtend_of_le (Nat.le_succ _), BitVec.toInt_signExtend_of_le (Nat.le_succ _)]
    exact ((fitsIn_toInt x).sub (fitsIn_toInt y)).bmod_eq
  rw [← hdiff]
  exact topBits_ne_iff _

end

theorem FitsIn.sextWord_eq {z : Int} (h : FitsIn 32 z) : sextWord z = BitVec.ofInt 64 z := by
  rw [sextWord, h.bmod_eq]

/-! ## Completion -/

section
variable {i : Instr} {s : State} {r : RegNum}

/-- An instruction that completes with a value in GPR `r`, said another way. -/
theorem Computes.of_setReg_eq {v w : DWord} (h : exec i s = setReg r w s) (hv : w = v) : Computes i s r v :=
  of_setReg (hv ▸ h)

/-- The same of a 64-bit operation. -/
theorem Computes.of_wide {v w : DWord} (h : exec i s = wide s (setReg r w s)) (h64 : s.is64bitOps = true) (hv : w = v) :
    Computes i s r v := of_setReg_eq (h.trans (wide_of h64)) hv

/-- An instruction that checks for overflow before it completes. -/
theorem computesOrOverflows_of_ite {bits : Nat} {z : Int} {overflows : Bool} {w : DWord}
    (h : exec i s = if overflows then raise .overflow s else setReg r w s) (hov : overflows = true ↔ ¬FitsIn bits z)
    (hw : FitsIn bits z → w = BitVec.ofInt 64 z) : ComputesOrOverflows i s r bits z := by
  constructor
  · intro hfits
    exact .of_setReg_eq (h.trans (if_neg fun ho => hov.1 ho hfits)) (hw hfits)
  · intro hfits hd
    exact h.trans ((if_pos (hov.2 hfits)).trans (raise_of hd))

variable {x y : Word} {a b : DWord}

theorem computesOrOverflows_of_addWordTrap (h : exec i s = addWordTrap r x y s) :
    ComputesOrOverflows i s r 32 (x.toInt + y.toInt) :=
  computesOrOverflows_of_ite h (addOverflows_iff x y) fun hfits => by rw [add_eq_ofInt, sext32_ofInt, hfits.sextWord_eq]

theorem computesOrOverflows_of_subWordTrap (h : exec i s = subWordTrap r x y s) :
    ComputesOrOverflows i s r 32 (x.toInt - y.toInt) :=
  computesOrOverflows_of_ite h (subOverflows_iff x y) fun hfits => by rw [sub_eq_ofInt, sext32_ofInt, hfits.sextWord_eq]

theorem computesOrOverflows_of_addDwordTrap (h : exec i s = wide s (addDwordTrap r a b s)) (h64 : s.is64bitOps = true) :
    ComputesOrOverflows i s r 64 (a.toInt + b.toInt) :=
  computesOrOverflows_of_ite (h.trans (wide_of h64)) (addOverflows_iff a b) fun _ => add_eq_ofInt a b

theorem computesOrOverflows_of_subDwordTrap (h : exec i s = wide s (subDwordTrap r a b s)) (h64 : s.is64bitOps = true) :
    ComputesOrOverflows i s r 64 (a.toInt - b.toInt) :=
  computesOrOverflows_of_ite (h.trans (wide_of h64)) (subOverflows_iff a b) fun _ => sub_eq_ofInt a b

end

/-! ## Sums and differences -/

theorem sext32_add (x y : Word) : sext32 (x + y) = sextWord (x.toInt + y.toInt) := by rw [add_eq_ofInt, sext32_ofInt]

theorem sext32_sub (x y : Word) : sext32 (x - y) = sextWord (x.toInt - y.toInt) := by rw [sub_eq_ofInt, sext32_ofInt]

/-- Settles O15: the check of the trapping forms is that the sum or difference does not fit in 32 bits. -/
theorem wordAddSubtract : Obligations.WordAddSubtract := by
  intro s rd rs rt imm
  refine ⟨?add, ?sub, ?addi, ?addu, ?subu, ?addiu⟩
  case add => exact computesOrOverflows_of_addWordTrap rfl
  case sub => exact computesOrOverflows_of_subWordTrap rfl
  case addi =>
    rw [← sextImm32_toInt]
    exact computesOrOverflows_of_addWordTrap rfl
  case addu => exact .of_setReg_eq rfl (sext32_add _ _)
  case subu => exact .of_setReg_eq rfl (sext32_sub _ _)
  case addiu =>
    rw [← sextImm32_toInt]
    exact .of_setReg_eq rfl (sext32_add _ _)

/-- Settles O16: the check of the trapping forms is that the sum or difference does not fit in 64 bits. -/
theorem doublewordAddSubtract : Obligations.DoublewordAddSubtract := by
  intro s rd rs rt imm h64
  refine ⟨?dadd, ?dsub, ?daddi, ?daddu, ?dsubu, ?daddiu⟩
  case dadd => exact computesOrOverflows_of_addDwordTrap rfl h64
  case dsub => exact computesOrOverflows_of_subDwordTrap rfl h64
  case daddi =>
    rw [← sextImm_toInt]
    exact computesOrOverflows_of_addDwordTrap rfl h64
  case daddu => exact .of_wide rfl h64 (add_eq_ofInt _ _)
  case dsubu => exact .of_wide rfl h64 (sub_eq_ofInt _ _)
  case daddiu =>
    rw [← sextImm_toInt]
    exact .of_wide rfl h64 (add_eq_ofInt _ _)

/-! ## Comparisons -/

theorem boolWord_slt (x y : DWord) : boolWord (x.slt y) = if x.toInt < y.toInt then 1#64 else 0#64 := by
  simp only [boolWord, BitVec.slt_eq_decide, decide_eq_true_eq]

theorem boolWord_ult (x y : DWord) : boolWord (x.ult y) = if x.toNat < y.toNat then 1#64 else 0#64 := by
  simp only [boolWord, BitVec.ult_eq_decide, decide_eq_true_eq]

/-- Settles O17: each compares all 64 bits, as signed or as unsigned numbers. -/
theorem setOnLessThan : Obligations.SetOnLessThan := by
  intro s rd rs rt imm
  refine ⟨?slt, ?slti, ?sltu, ?sltiu⟩
  case slt => exact .of_setReg_eq rfl (boolWord_slt _ _)
  case slti =>
    rw [← sextImm_toInt]
    exact .of_setReg_eq rfl (boolWord_slt _ _)
  case sltu => exact .of_setReg_eq rfl (boolWord_ult _ _)
  case sltiu =>
    simp only [← sextImm_toNat, Nat.cast_lt]
    exact .of_setReg_eq rfl (boolWord_ult _ _)

/-! ## Logical operations -/

section
variable (x y : DWord)

theorem and_eq_ofNat : x &&& y = BitVec.ofNat 64 (x.toNat &&& y.toNat) := by
  rw [BitVec.ofNat_and, BitVec.ofNat_toNat, BitVec.ofNat_toNat, BitVec.setWidth_eq, BitVec.setWidth_eq]

theorem or_eq_ofNat : x ||| y = BitVec.ofNat 64 (x.toNat ||| y.toNat) := by
  rw [BitVec.ofNat_or, BitVec.ofNat_toNat, BitVec.ofNat_toNat, BitVec.setWidth_eq, BitVec.setWidth_eq]

theorem xor_eq_ofNat : x ^^^ y = BitVec.ofNat 64 (x.toNat ^^^ y.toNat) := by
  rw [BitVec.ofNat_xor, BitVec.ofNat_toNat, BitVec.ofNat_toNat, BitVec.setWidth_eq, BitVec.setWidth_eq]

theorem not_or_eq_ofNat : ~~~(x ||| y) = BitVec.ofNat 64 (2 ^ 64 - 1 - (x.toNat ||| y.toNat)) := by
  rw [← BitVec.toNat_or, ← BitVec.toNat_not, BitVec.ofNat_toNat, BitVec.setWidth_eq]

end

/-- An immediate zero-extended to a doubleword has its value. -/
theorem zextImm_toNat (imm : BitVec 16) : (zextImm imm).toNat = imm.toNat := BitVec.toNat_setWidth_of_le (by decide)

/-- The value of LUI (R309). -/
theorem sext32_append_zero (imm : BitVec 16) : sext32 (imm ++ 0#16) = BitVec.ofInt 64 (imm.toInt * 2 ^ 16) := by
  rw [sext32, BitVec.signExtend, BitVec.toInt_append_zero, Int.mul_comm]

/-- Settles O18: each is the operation on the unsigned values. -/
theorem logicalOperations : Obligations.LogicalOperations := by
  intro s rd rs rt imm
  refine ⟨?and, ?or, ?xor, ?nor, ?andi, ?ori, ?xori, ?lui⟩
  case and => exact .of_setReg_eq rfl (and_eq_ofNat _ _)
  case or => exact .of_setReg_eq rfl (or_eq_ofNat _ _)
  case xor => exact .of_setReg_eq rfl (xor_eq_ofNat _ _)
  case nor => exact .of_setReg_eq rfl (not_or_eq_ofNat _ _)
  case andi =>
    rw [← zextImm_toNat]
    exact .of_setReg_eq rfl (and_eq_ofNat _ _)
  case ori =>
    rw [← zextImm_toNat]
    exact .of_setReg_eq rfl (or_eq_ofNat _ _)
  case xori =>
    rw [← zextImm_toNat]
    exact .of_setReg_eq rfl (xor_eq_ofNat _ _)
  case lui => exact .of_setReg_eq rfl (sext32_append_zero imm)

/-! ## Shifts -/

section
variable (x : Word) (k : Nat)

theorem sext32_shiftLeft : sext32 (x <<< k) = sextWord (x.toInt * 2 ^ k) := by rw [shiftLeft_eq_ofInt, sext32_ofInt]

theorem sext32_ushiftRight : sext32 (x >>> k) = sextWord (x.toNat / 2 ^ k : Nat) := by
  rw [ushiftRight_eq_ofNat, sext32_ofNat]

theorem sext32_sshiftRight : sext32 (x.sshiftRight k) = sextWord (x.toInt / 2 ^ k) := by
  rw [sshiftRight_eq_ofInt, sext32_ofInt]

end

theorem State.amount5_eq (s : State) (rs : RegNum) : s.amount5 rs = (s.rget rs).toNat % 32 := by simp [State.amount5]

theorem State.amount6_eq (s : State) (rs : RegNum) : s.amount6 rs = (s.rget rs).toNat % 64 := by simp [State.amount6]

/-- Settles O19: a left shift multiplies, a right shift divides, by a power of two. -/
theorem shifts : Obligations.Shifts := by
  intro s rd rt rs sa
  rw [← State.amount5_eq, ← State.amount6_eq]
  refine ⟨?sll, ?srl, ?sra, ?sllv, ?srlv, ?srav,
    fun h64 => ⟨?dsll, ?dsrl, ?dsra, ?dsll32, ?dsrl32, ?dsra32, ?dsllv, ?dsrlv, ?dsrav⟩⟩
  case sll | sllv => exact .of_setReg_eq rfl (sext32_shiftLeft _ _)
  case srl | srlv => exact .of_setReg_eq rfl (sext32_ushiftRight _ _)
  case sra | srav => exact .of_setReg_eq rfl (sext32_sshiftRight _ _)
  case dsll | dsll32 | dsllv => exact .of_wide rfl h64 (shiftLeft_eq_ofInt _ _)
  case dsrl | dsrl32 | dsrlv => exact .of_wide rfl h64 (ushiftRight_eq_ofNat _ _)
  case dsra | dsra32 | dsrav => exact .of_wide rfl h64 (sshiftRight_eq_ofInt _ _)

end Sys2Proof.Machine
end

section
/-! SUPPORT. Multiply and divide as integer arithmetic: the halves of a product, the quotient and remainder of bit vectors, how an
instruction completes with HI and LO, and the statements on them (O20 to O23; 42_multiply_divide.md R351 to R368). -/

namespace Sys2Proof.Machine

/-! ## Fields, quotients and remainders as integers -/

theorem natCast_div_two_pow (p k : Nat) : ((p / 2 ^ k : Nat) : Int) = p / 2 ^ k := by
  rw [Int.natCast_ediv, Nat.cast_pow, Nat.cast_ofNat]

/-- A field above the low `k` bits, inside the wrap, is a field of the integer. -/
theorem emod_two_pow_ediv_emod (z : Int) {k w n : Nat} (h : k + w ≤ n) :
    z % 2 ^ n / 2 ^ k % 2 ^ w = z / 2 ^ k % 2 ^ w := by
  obtain ⟨j, rfl⟩ := Nat.exists_eq_add_of_le h
  have hpow : (2 ^ (k + w + j) : Int) = 2 ^ k * (2 ^ w * 2 ^ j) := by rw [pow_add, pow_add, mul_assoc]
  rw [Int.emod_def z, hpow, mul_assoc, Int.sub_mul_ediv_left _ _ (by positivity), mul_assoc, Int.sub_mul_emod_self_left]

theorem extractLsb'_ofInt (z : Int) {k w n : Nat} (h : k + w ≤ n) :
    (BitVec.ofInt n z).extractLsb' k w = BitVec.ofInt w (z / 2 ^ k) := by
  have hpos (y : Int) (m : Nat) : 0 ≤ y % 2 ^ m := Int.emod_nonneg y (by positivity)
  rw [extractLsb'_eq_iff, BitVec.toNat_ofInt, BitVec.toNat_ofInt]
  zify
  rw [Int.toNat_of_nonneg (hpos z n), Int.toNat_of_nonneg (hpos _ w), emod_two_pow_ediv_emod z h]

theorem extractLsb'_zero_ofInt (z : Int) {w n : Nat} (h : w ≤ n) : (BitVec.ofInt n z).extractLsb' 0 w = BitVec.ofInt w z := by
  rw [extractLsb'_ofInt z (by omega), pow_zero, Int.ediv_one]

section
variable {n : Nat} (x y : BitVec n)

theorem sdiv_eq_ofInt : x.sdiv y = BitVec.ofInt n (x.toInt.tdiv y.toInt) :=
  BitVec.eq_of_toInt_eq (by rw [BitVec.toInt_sdiv, BitVec.toInt_ofInt])

theorem srem_eq_ofInt : x.srem y = BitVec.ofInt n (x.toInt.tmod y.toInt) := by
  rw [← BitVec.toInt_srem, BitVec.ofInt_toInt]

theorem udiv_eq_ofNat : x / y = BitVec.ofNat n (x.toNat / y.toNat) := by
  rw [← BitVec.toNat_udiv, BitVec.ofNat_toNat, BitVec.setWidth_eq]

theorem umod_eq_ofNat : x % y = BitVec.ofNat n (x.toNat % y.toNat) := by
  rw [← BitVec.toNat_umod, BitVec.ofNat_toNat, BitVec.setWidth_eq]

theorem ne_zero_of_toInt {d : BitVec n} (h : d.toInt ≠ 0) : d ≠ 0#n := by
  rintro rfl
  exact h BitVec.toInt_zero

theorem ne_zero_of_toNat {d : BitVec n} (h : d.toNat ≠ 0) : d ≠ 0#n := by
  rintro rfl
  exact h rfl

/-- A signed product at a width that takes the operands sign-extended. -/
theorem signExtend_mul_signExtend (m : Nat) : x.signExtend m * y.signExtend m = BitVec.ofInt m (x.toInt * y.toInt) := by
  rw [BitVec.ofInt_mul, BitVec.signExtend, BitVec.signExtend]

/-- An unsigned product at a width that takes the operands zero-extended. -/
theorem setWidth_mul_setWidth (m : Nat) : x.setWidth m * y.setWidth m = BitVec.ofInt m (x.toNat * y.toNat : Nat) := by
  rw [BitVec.ofInt_natCast, BitVec.ofNat_mul, BitVec.ofNat_toNat, BitVec.ofNat_toNat]

end

/-! ## Products and the accumulator -/

theorem State.signedProduct_eq (s : State) (rs rt : RegNum) :
    s.signedProduct rs rt = BitVec.ofInt 64 ((s.rget32 rs).toInt * (s.rget32 rt).toInt) := signExtend_mul_signExtend _ _ 64

theorem State.unsignedProduct_eq (s : State) (rs rt : RegNum) :
    s.unsignedProduct rs rt = BitVec.ofInt 64 ((s.rget32 rs).toNat * (s.rget32 rt).toNat : Nat) := setWidth_mul_setWidth _ _ 64

theorem State.accumulator_eq (s : State) :
    s.accumulator = BitVec.ofInt 64 (s.hi.toNat % 2 ^ 32 * 2 ^ 32 + s.lo.toNat % 2 ^ 32 : Nat) := by
  have htoNat : s.accumulator.toNat = s.hi.toNat % 2 ^ 32 * 2 ^ 32 + s.lo.toNat % 2 ^ 32 := by
    rw [State.accumulator, BitVec.toNat_append, ← Nat.shiftLeft_add_eq_or_of_lt (BitVec.isLt _), Nat.shiftLeft_eq, low32_toNat,
      low32_toNat]
  rw [← htoNat, BitVec.ofInt_natCast, BitVec.ofNat_toNat, BitVec.setWidth_eq]

/-! ## Completion with HI and LO -/

section
variable {i : Instr} {s : State}

/-- An instruction that completes with a 64-bit result, the wrapped integer `z`, over HI and LO (R351, R366). -/
theorem ComputesProduct.of_setProduct {r : RegNum} {p : DWord} {z : Int} (h : exec i s = setProduct r p s)
    (hp : p = BitVec.ofInt 64 z) : ComputesProduct i s r (sextWord (z / 2 ^ 32)) (sextWord z) := by
  have hlo : sext32 (low32 p) = sextWord z := by rw [hp, low32, extractLsb'_zero_ofInt z (by decide), sext32_ofInt]
  have hhi : sext32 (p.extractLsb' 32 32) = sextWord (z / 2 ^ 32) := by
    rw [hp, extractLsb'_ofInt z (by decide), sext32_ofInt]
  rw [← hlo, ← hhi]
  exact .of_setReg h

/-- An instruction that completes with a 128-bit product, the wrapped integer `z`, over HI and LO (R356, R366). -/
theorem ComputesProduct.of_setProduct128 {r : RegNum} {p : BitVec 128} {z : Int}
    (h : exec i s = wide s (setProduct128 r p s)) (h64 : s.is64bitOps = true) (hp : p = BitVec.ofInt 128 z) :
    ComputesProduct i s r (BitVec.ofInt 64 (z / 2 ^ 64)) (BitVec.ofInt 64 z) := by
  rw [← extractLsb'_zero_ofInt z (by decide : 64 ≤ 128), ← extractLsb'_ofInt z (by decide : 64 + 64 ≤ 128), ← hp]
  exact .of_setReg (h.trans (wide_of h64))

/-- An instruction that completes with HI and LO written and no GPR. -/
theorem computesHiLo_of_setHiLo {hi lo : DWord} (h : exec i s = .next (s.setHiLo hi lo).advance) : ComputesHiLo i s hi lo :=
  ⟨_, h, rfl, rfl, ⟨rfl, rfl⟩, State.sameBytes_of rfl rfl, rfl⟩

section
variable {n : Nat} {d : BitVec n} {q r : DWord}
  (h : exec i s = if d = 0#n then divideByZero s else setQuotient q r s)

include h

/-- A divide by another divisor than zero: the remainder in HI, the quotient in LO (R354). -/
theorem computesHiLo_of_divide {hi lo : DWord} (hd : d ≠ 0#n) (hr : r = hi) (hq : q = lo) : ComputesHiLo i s hi lo := by
  subst hr hq
  exact computesHiLo_of_setHiLo (h.trans (if_neg hd))

/-- A divide by zero completes (R368, U20). -/
theorem exists_computesHiLo_of_divide_zero (hd : d = 0#n) : ∃ hi lo, ComputesHiLo i s hi lo :=
  ⟨_, _, computesHiLo_of_setHiLo (h.trans (if_pos hd))⟩

end

end

/-! ## Statements -/

/-- Settles O20: each form is the product of the extended operands, cut into two halves. -/
theorem multiplyProducts : Obligations.MultiplyProducts := by
  intro s rd rs rt
  refine ⟨?mult, ?multu, fun h64 => ?dmult, fun h64 => ?dmultu⟩
  case mult => exact .of_setProduct rfl (s.signedProduct_eq rs rt)
  case multu =>
    intro p
    rw [natCast_div_two_pow]
    exact .of_setProduct rfl (s.unsignedProduct_eq rs rt)
  case dmult => exact .of_setProduct128 rfl h64 (signExtend_mul_signExtend _ _ 128)
  case dmultu =>
    intro p
    rw [← BitVec.ofInt_natCast, ← BitVec.ofInt_natCast, natCast_div_two_pow]
    exact .of_setProduct128 rfl h64 (setWidth_mul_setWidth _ _ 128)

/-- Settles O21: the sum of the accumulator and the product wraps as the integer sum does. -/
theorem multiplyAccumulate : Obligations.MultiplyAccumulate := by
  intro s rd rs rt
  refine ⟨?madd, ?maddu⟩
  case madd =>
    refine .of_setProduct rfl ?_
    rw [s.accumulator_eq, s.signedProduct_eq, BitVec.ofInt_add]
  case maddu =>
    refine .of_setProduct rfl ?_
    rw [s.accumulator_eq, s.unsignedProduct_eq, BitVec.ofInt_add]

/-- Settles O22: each form answers by its test of the divisor for zero. -/
theorem divides : Obligations.Divides := by
  intro s rs rt
  refine ⟨fun hd => ?div, fun hd => ?divu, fun h64 hd => ?ddiv, fun h64 hd => ?ddivu,
    fun hd => ?byZero, fun h64 hd => ?wideByZero⟩
  case div =>
    refine computesHiLo_of_divide rfl (ne_zero_of_toInt hd) ?_ ?_
    · rw [srem_eq_ofInt, sext32_ofInt]
    · rw [sdiv_eq_ofInt, sext32_ofInt]
  case divu =>
    refine computesHiLo_of_divide rfl (ne_zero_of_toNat hd) ?_ ?_
    · rw [umod_eq_ofNat, sext32_ofNat]
    · rw [udiv_eq_ofNat, sext32_ofNat]
  case ddiv =>
    refine computesHiLo_of_divide ?_ (ne_zero_of_toInt hd) (srem_eq_ofInt _ _) (sdiv_eq_ofInt _ _)
    exact wide_of h64
  case ddivu =>
    refine computesHiLo_of_divide ?_ (ne_zero_of_toNat hd) (umod_eq_ofNat _ _) (udiv_eq_ofNat _ _)
    exact wide_of h64
  case byZero => exact ⟨exists_computesHiLo_of_divide_zero rfl hd, exists_computesHiLo_of_divide_zero rfl hd⟩
  case wideByZero =>
    exact ⟨exists_computesHiLo_of_divide_zero (wide_of h64) hd, exists_computesHiLo_of_divide_zero (wide_of h64) hd⟩

/-- Settles O23: each is one write, of a GPR or of HI and LO. -/
theorem hiLoMoves : Obligations.HiLoMoves := by
  intro s rd rs
  refine ⟨?mfhi, ?mflo, ?mthi, ?mtlo⟩
  case mfhi | mflo => exact .of_setReg rfl
  case mthi | mtlo => exact computesHiLo_of_setHiLo rfl

end Sys2Proof.Machine
end

section
/-! SUPPORT. Jumps and branches: their targets and conditions as numbers, how a transfer of control completes outside a delay slot
and stops in one, and the statements on them (O24 to O26, O28; 43_jump_branch.md R380 to R403). -/

namespace Sys2Proof.Machine

/-! ## Targets and conditions as numbers -/

/-- The target of J and JAL in the 256 MB region of the delay slot (R384). -/
theorem jumpTarget_eq (pc : DWord) (target : BitVec 26) :
    jumpTarget pc target = BitVec.ofNat 64 ((pc + 4#64).toNat / 2 ^ 28 * 2 ^ 28 + 4 * target.toNat) := by
  have hlow : (target ++ 0#2).toNat = 4 * target.toNat := by
    rw [BitVec.toNat_append, BitVec.toNat_ofNat, Nat.zero_mod, Nat.or_zero, Nat.shiftLeft_eq, Nat.mul_comm]
  have hhigh : ((pc + 4#64).extractLsb' 28 36).toNat = (pc + 4#64).toNat / 2 ^ 28 := by
    rw [BitVec.extractLsb'_toNat, Nat.shiftRight_eq_div_pow]
    omega
  have htoNat : (jumpTarget pc target).toNat = (pc + 4#64).toNat / 2 ^ 28 * 2 ^ 28 + 4 * target.toNat := by
    rw [jumpTarget, BitVec.append_assoc, BitVec.toNat_cast, BitVec.toNat_append,
      ← Nat.shiftLeft_add_eq_or_of_lt (BitVec.isLt _), Nat.shiftLeft_eq, hhigh, hlow]
  rw [← htoNat, BitVec.ofNat_toNat, BitVec.setWidth_eq]

section
variable (s : State) (rs : RegNum)

theorem State.lez_iff : s.lez rs = true ↔ (s.rget rs).toInt ≤ 0 := decide_eq_true_iff

theorem State.gtz_iff : s.gtz rs = true ↔ 0 < (s.rget rs).toInt := decide_eq_true_iff

/-- The sign is bit 63 (R392). -/
theorem State.ltz_iff : s.ltz rs = true ↔ (s.rget rs).toInt < 0 := by
  rw [State.ltz, ← decide_eq_true_iff (p := (s.rget rs).toInt < 0), ← BitVec.msb_eq_toInt, BitVec.msb_eq_getLsbD_last]

theorem State.gez_iff : s.gez rs = true ↔ 0 ≤ (s.rget rs).toInt := by
  rw [← not_lt, ← s.ltz_iff rs, Bool.not_eq_true, ← Bool.not_eq_true']
  rfl

end

/-! ## Outside a delay slot -/

/-- A link before a transfer leaves everything but its register, the pc and the branch state. -/
theorem State.sameButGpr_of_setGpr (s : State) (r : RegNum) (v pc : DWord) (slot : Option DWord) :
    s.sameButGpr { s.setGpr r v with pc := pc, delaySlot := slot } r := by
  refine ⟨fun q hq => s.rget_setGpr_other v hq, ?_, State.sameBytes_of (s.setGpr_mem r v) (s.setGpr_wbuf r v)⟩
  unfold State.setGpr
  split <;> rfl

section
variable {i : Instr} {s : State}

theorem linksTo_of_branchTo {r : RegNum} {target : DWord} (h : exec i s = .next ((s.setGpr r s.linkPc).branchTo target)) :
    LinksTo i s r target := by
  refine ⟨_, h, s.rget_setGpr_same r _, ?_, rfl, s.sameButGpr_of_setGpr ..⟩
  rw [State.branchTo_pc, State.setGpr_pc]

variable {c : Prop} {taken : Bool} (hc : taken = true ↔ c)

include hc

/-- An instruction that completes in one of two states by a condition. -/
theorem exec_of_ite {u v : State} (h : exec i s = .next (if taken then u else v)) :
    (c → exec i s = .next u) ∧ (¬c → exec i s = .next v) :=
  ⟨fun hyes => by rw [h, if_pos (hc.2 hyes)], fun hno => by rw [h, if_neg (mt hc.1 hno)]⟩

variable {offset : BitVec 16} (hs : s.delaySlot = none)

include hs

/-- An ordinary branch on a condition (R380, R381). -/
theorem branchesIf_of_branch (h : exec i s = branch taken offset s) : BranchesIf i s c offset := by
  rw [branch_of taken offset hs, branchTarget_eq] at h
  exact (exec_of_ite hc h).imp (fun ht hyes => .of_branchTo (ht hyes)) (fun hn hno => .of_advance (hn hno) hs)

/-- A branch-likely on a condition (R383). -/
theorem branchesLikelyIf_of_branchLikely (h : exec i s = branchLikely taken offset s) : BranchesLikelyIf i s c offset := by
  rw [branchLikely_of taken offset hs, branchTarget_eq] at h
  exact (exec_of_ite hc h).imp (fun ht hyes => .of_branchTo (ht hyes)) (fun hn hno => .of_skipSlot (hn hno))

/-- A linking branch: the branch is from the state that holds the link (R394). -/
theorem linkingBranch_of_branch (h : exec i s = branch taken offset (s.setGpr 31#5 s.linkPc)) :
    LinkingBranch i s c offset (s.pc + 4#64) := by
  have hslot : (s.setGpr 31#5 s.linkPc).delaySlot = none := (s.setGpr_delaySlot ..).trans hs
  rw [branch_of taken offset hslot, State.setGpr_pc, branchTarget_eq] at h
  refine (exec_of_ite hc h).imp (fun ht hyes => linksTo_of_branchTo (ht hyes)) fun hn hno => ?_
  refine ⟨_, hn hno, s.rget_setGpr_same 31#5 _, ?_, rfl, s.sameButGpr_of_setGpr ..⟩
  rw [State.advance_pc, State.nextPc, hslot, State.setGpr_pc, Option.getD_none]

/-- A linking branch-likely (R402). -/
theorem linkingBranch_of_branchLikely (h : exec i s = branchLikely taken offset (s.setGpr 31#5 s.linkPc)) :
    LinkingBranch i s c offset (s.pc + 8#64) := by
  have hslot : (s.setGpr 31#5 s.linkPc).delaySlot = none := (s.setGpr_delaySlot ..).trans hs
  rw [branchLikely_of taken offset hslot, State.setGpr_pc, branchTarget_eq] at h
  refine (exec_of_ite hc h).imp (fun ht hyes => linksTo_of_branchTo (ht hyes)) fun hn hno => ?_
  refine ⟨_, hn hno, s.rget_setGpr_same 31#5 _, ?_, rfl, s.sameButGpr_of_setGpr ..⟩
  rw [State.skipSlot_pc, State.setGpr_pc]

end

/-- Settles O24: each jump passes the check for a delay slot, and JAL and JALR link before they go to their targets. -/
theorem jumpTargets : Obligations.JumpTargets := by
  intro s target rd rs hs region
  have htarget : jumpTarget s.pc target = region := jumpTarget_eq s.pc target
  rw [← htarget]
  refine ⟨?j, ?jal, ?jr, ?jalr⟩
  case j | jr => exact .of_branchTo (noSlot_of hs)
  case jal | jalr => exact linksTo_of_branchTo (noSlot_of hs)

/-- Settles O25: each form is `branch` or `branchLikely` on the bit of its condition. -/
theorem conditionalBranches : Obligations.ConditionalBranches := by
  intro s rs rt offset hs
  refine ⟨?beq, ?bne, ?blez, ?bgtz, ?bltz, ?bgez, ?beql, ?bnel, ?blezl, ?bgtzl, ?bltzl, ?bgezl⟩
  case beq => exact branchesIf_of_branch beq_iff_eq hs rfl
  case bne => exact branchesIf_of_branch bne_iff_ne hs rfl
  case blez => exact branchesIf_of_branch (s.lez_iff rs) hs rfl
  case bgtz => exact branchesIf_of_branch (s.gtz_iff rs) hs rfl
  case bltz => exact branchesIf_of_branch (s.ltz_iff rs) hs rfl
  case bgez => exact branchesIf_of_branch (s.gez_iff rs) hs rfl
  case beql => exact branchesLikelyIf_of_branchLikely beq_iff_eq hs rfl
  case bnel => exact branchesLikelyIf_of_branchLikely bne_iff_ne hs rfl
  case blezl => exact branchesLikelyIf_of_branchLikely (s.lez_iff rs) hs rfl
  case bgtzl => exact branchesLikelyIf_of_branchLikely (s.gtz_iff rs) hs rfl
  case bltzl => exact branchesLikelyIf_of_branchLikely (s.ltz_iff rs) hs rfl
  case bgezl => exact branchesLikelyIf_of_branchLikely (s.gez_iff rs) hs rfl

/-- Settles O26: each form reads its condition from `s`, and branches from the state that holds the link. -/
theorem linkingBranches : Obligations.LinkingBranches := by
  intro s rs offset hs
  refine ⟨?bltzal, ?bgezal, ?bltzall, ?bgezall⟩
  case bltzal => exact linkingBranch_of_branch (s.ltz_iff rs) hs rfl
  case bgezal => exact linkingBranch_of_branch (s.gez_iff rs) hs rfl
  case bltzall => exact linkingBranch_of_branchLikely (s.ltz_iff rs) hs rfl
  case bgezall => exact linkingBranch_of_branchLikely (s.gez_iff rs) hs rfl

/-! ## In a delay slot -/

theorem noSlot_of_some {s : State} {a : DWord} (k : Out) (h : s.delaySlot = some a) :
    noSlot s k = .refused .delaySlotControl := by simp [noSlot, h]

/-- Settles O28: the check for a delay slot comes first, but for those of the coprocessor and of debug mode, which pass. -/
theorem transferInDelaySlotStops : Obligations.TransferInDelaySlotStops := by
  intro i s target hi hs husable hdebug
  have hstop (k : Out) : noSlot s k = .refused .delaySlotControl := noSlot_of_some k hs
  have hneeds {z : BitVec 2} (hz : coprocessorOf i = some z) (k : Out) : needs z s k = k := needs_of (husable z hz)
  cases i with
  | j | jal | jr | jalr | beq | bne | blez | bgtz | bltz | bgez | beql | bnel | blezl | bgtzl | bltzl | bgezl => exact hstop _
  | bltzal | bgezal | bltzall | bgezall => exact noSlot_of_some _ ((s.setGpr_delaySlot ..).trans hs)
  | bc0f | bc0t | bc0fl | bc0tl | bc1f | bc1t | bc1fl | bc1tl | eret => exact (hneeds rfl _).trans (hstop _)
  | deret => exact (hneeds rfl _).trans ((if_pos (hdebug rfl)).trans (hstop _))
  | _ => cases hi

end Sys2Proof.Machine
end

section
/-! SUPPORT. SYSCALL, BREAK and the traps: a trap instruction raises or completes by one bit, and that bit is its comparison of
numbers (O29; 44_special_trap.md R422 to R436). -/

namespace Sys2Proof.Machine

/-- A trap instruction on a condition (R424). -/
theorem trapsIf_of_trapIf {i : Instr} {s : State} {c : Prop} {taken : Bool} (hc : taken = true ↔ c)
    (h : exec i s = trapIf taken s) : TrapsIf i s c :=
  ⟨fun hyes hd => h.trans ((if_pos (hc.2 hyes)).trans (raise_of hd)),
    fun hno => .of_advance (h.trans (if_neg (mt hc.1 hno)))⟩

/-! ## A register against an immediate -/

section
variable (x : DWord) (imm : BitVec 16)

theorem sextImm_sle_iff : (sextImm imm).sle x = true ↔ imm.toInt ≤ x.toInt := by
  rw [BitVec.sle_iff_toInt_le, sextImm_toInt]

theorem slt_sextImm_iff : x.slt (sextImm imm) = true ↔ x.toInt < imm.toInt := by
  rw [BitVec.slt_iff_toInt_lt, sextImm_toInt]

theorem sextImm_ule_iff : (sextImm imm).ule x = true ↔ imm.toInt % 2 ^ 64 ≤ (x.toNat : Int) := by
  rw [BitVec.ule_iff_toNat_le, ← sextImm_toNat, Nat.cast_le]

theorem ult_sextImm_iff : x.ult (sextImm imm) = true ↔ (x.toNat : Int) < imm.toInt % 2 ^ 64 := by
  rw [BitVec.ult_iff_toNat_lt, ← sextImm_toNat, Nat.cast_lt]

theorem eq_sextImm_iff : x = sextImm imm ↔ x.toInt = imm.toInt := by
  rw [← BitVec.toInt_inj, sextImm_toInt]

end

/-- Settles O29: SYSCALL and BREAK are their entries, and each trap instruction is `trapIf` on the bit of its comparison. -/
theorem trapsAndCalls : Obligations.TrapsAndCalls := by
  intro s rs rt code imm
  refine ⟨?calls, ?tge, ?tgeu, ?tlt, ?tltu, ?teq, ?tne, ?tgei, ?tgeiu, ?tlti, ?tltiu, ?teqi, ?tnei⟩
  case calls => exact fun _ hd => ⟨raise_of hd, raise_of hd⟩
  case tge => exact trapsIf_of_trapIf BitVec.sle_iff_toInt_le rfl
  case tgeu => exact trapsIf_of_trapIf BitVec.ule_iff_toNat_le rfl
  case tlt => exact trapsIf_of_trapIf BitVec.slt_iff_toInt_lt rfl
  case tltu => exact trapsIf_of_trapIf BitVec.ult_iff_toNat_lt rfl
  case teq => exact trapsIf_of_trapIf beq_iff_eq rfl
  case tne => exact trapsIf_of_trapIf bne_iff_ne rfl
  case tgei => exact trapsIf_of_trapIf (sextImm_sle_iff _ imm) rfl
  case tgeiu => exact trapsIf_of_trapIf (sextImm_ule_iff _ imm) rfl
  case tlti => exact trapsIf_of_trapIf (slt_sextImm_iff _ imm) rfl
  case tltiu => exact trapsIf_of_trapIf (ult_sextImm_iff _ imm) rfl
  case teqi => exact trapsIf_of_trapIf (beq_iff_eq.trans (eq_sextImm_iff _ imm)) rfl
  case tnei => exact trapsIf_of_trapIf (bne_iff_ne.trans (eq_sextImm_iff _ imm).not) rfl

end Sys2Proof.Machine
end

section
/-! SUPPORT. ColdReset, the timer latch, example words of the encoding maps, and the instructions that leave the state but for the
pc and one register. -/

-- One proof at a time: proofs elaborated side by side hold more memory.
set_option Elab.async false

namespace Sys2Proof.Machine

/-! ## Example words -/

/-- Settles O3: each word runs through the decoder to its instruction. -/
theorem exampleWordsDecode : Obligations.ExampleWordsDecode := by
  refine ⟨?lw, ?add, ?madd, ?bgezal, ?mtc0, ?eret, ?cache, ?addFmt⟩
  all_goals decide

/-! ## ColdReset -/

/-- Settles O8: the reset state holds each value as a constant; its caches list no line, so each line is the empty one. -/
theorem resetValues : Obligations.ResetValues := by
  have hline (set : BitVec 8) (way : BitVec 2) : (State.reset.icache.line set way).valid = false := rfl
  refine ⟨?pc, ?delaySlot, ?erl, ?bev, ?sr, ?mode, ?random, ?wired, ?pageMask, ?config, ?tagLo, ?tagHi, ?debug, ?lines, ?wbuf, ?power⟩
  case lines => exact fun set way => ⟨hline set way, hline set way⟩
  all_goals decide

/-- Settles O7: memory, the caches and the buffer are empty, the fixed fields are those of the mode pins, and Random is 47. -/
theorem resetMeetsInvariants : Obligations.ResetMeetsInvariants := by
  refine ⟨⟨?mem, Cache.wf_empty, Cache.wf_empty, Nat.zero_le 4, fun _ he => absurd he List.not_mem_nil⟩, ?fixed, ?random⟩
  case mem => exact ⟨⟨List.Pairwise.nil, fun _ hp => absurd hp List.not_mem_nil⟩, fun _ hp => absurd hp List.not_mem_nil⟩
  case fixed => exact (State.fixedFields_iff _).2 ⟨rfl, resetCp0_fixed resetStraps, rfl⟩
  case random => exact ⟨le_refl 47, fun _ => Nat.zero_le 47⟩

/-! ## The timer (61_interrupts_platform.md R707) -/

/-- What the tick does to Count and the timer latch; the rest of the tick leaves them. -/
theorem tick_timer (s : State) :
    (tick s).cp0 = (tickCount s.params.countPerInstr s).cp0 ∧
      (tick s).plat.timerInt = (tickCount s.params.countPerInstr s).plat.timerInt := by
  unfold tick
  rw [tickBuffer_eq]
  exact ⟨rfl, rfl⟩

/-- Count is one below Compare exactly when the next count takes its value. -/
theorem sub_toNat_eq_one_iff (x y : Word) : (y - x).toNat = 1 ↔ x + 1#32 = y := by
  have hone : (y - x).toNat = 1 ↔ y - x = 1#32 := BitVec.toNat_inj (y := 1#32)
  rw [hone, sub_eq_iff_eq_add', eq_comm]

/-- Settles O13: one count passes through Compare only by taking its value. -/
theorem timerLatchSetAtCompare : Obligations.TimerLatchSetAtCompare := by
  intro s hone
  obtain ⟨hcp0, htimer⟩ := tick_timer s
  rw [hcp0, htimer, hone, ← sub_toNat_eq_one_iff]
  refine ⟨rfl, ?_⟩
  simp only [tickCount, Bool.or_eq_true, Bool.and_eq_true, decide_eq_true_eq]
  rw [or_iff_left (by decide)]
  exact or_congr_right (by omega)

/-! ## PREF, CTC0 and CFC0 -/

/-- Settles O31: each is one completion, after the usability check for the two of coprocessor 0. -/
theorem prefetchAndControlMoves : Obligations.PrefetchAndControlMoves := fun _ _ _ _ _ _ =>
  ⟨.of_advance rfl, fun hu => ⟨.of_advance (needs_of hu), _, .of_setReg (needs_of hu)⟩⟩

/-! ## The coprocessor branches (45_coprocessor.md R464 to R471) -/

/-- Settles O27: each branches on the bit of its condition once its coprocessor is usable. -/
theorem coprocessorBranches : Obligations.CoprocessorBranches := by
  intro s offset hs
  have hempty : s.cpCond0 = true ↔ s.wbuf = [] := List.isEmpty_iff
  have hfull : (!s.cpCond0) = true ↔ s.wbuf ≠ [] := by rw [Bool.not_eq_true', ← Bool.not_eq_true, hempty]
  have hclear : (!s.fcc) = true ↔ s.fcr31.getLsbD 23 = false := by
    rw [Bool.not_eq_true']; rfl
  exact ⟨fun hu => ⟨branchesIf_of_branch hclear hs (needs_of hu), branchesIf_of_branch Iff.rfl hs (needs_of hu),
      branchesLikelyIf_of_branchLikely hclear hs (needs_of hu), branchesLikelyIf_of_branchLikely Iff.rfl hs (needs_of hu)⟩,
    fun hu => ⟨branchesIf_of_branch hfull hs (needs_of hu), branchesIf_of_branch hempty hs (needs_of hu),
      branchesLikelyIf_of_branchLikely hfull hs (needs_of hu), branchesLikelyIf_of_branchLikely hempty hs (needs_of hu)⟩⟩

/-! ## ERET -/

/-- A bit cleared is the word under the mask without it. -/
theorem putBit_false_eq {n : Nat} (x : BitVec n) (i : Nat) : putBit x i false = x &&& ~~~(1#n <<< i) := by
  apply BitVec.eq_of_getLsbD_eq
  intro k hk
  rw [putBit, getLsbD_putBits _ _ _ hk]
  simp only [BitVec.getLsbD_and, BitVec.getLsbD_not, BitVec.getLsbD_shiftLeft, BitVec.getLsbD_one, hk]
  grind

/-- Settles O34: by ERL, the return is to ErrorEPC or to EPC, with the level's bit cleared. -/
theorem eretReturns : Obligations.EretReturns := by
  intro s hu hs
  have he : exec .eret s = .next s.eret := (needs_of hu).trans (noSlot_of hs)
  cases herl : s.erl with
  | true =>
    rw [State.eret, if_pos herl] at he
    exact ⟨_, he, fun _ => ⟨rfl, putBit_false_eq ..⟩, fun h => absurd h (by simp), rfl, rfl, rfl⟩
  | false =>
    rw [State.eret, if_neg (by simp [herl])] at he
    exact ⟨_, he, fun h => absurd h (by simp), fun _ => ⟨rfl, putBit_false_eq ..⟩, rfl, rfl, rfl⟩

end Sys2Proof.Machine
end

section
/-! SUPPORT. WAIT and the steps in Halt and Doze (O36); the CP0 registers by number, their reads and masked writes (O37, O38); the
TLB instructions (O40, O41) (46_cp0_instructions.md R490 to R501; 61_interrupts_platform.md R721, R722). -/

-- One proof at a time: proofs elaborated side by side hold more memory.
set_option Elab.async false

namespace Sys2Proof.Machine

/-! ## WAIT (46_cp0_instructions.md R501) -/

section
variable (s : State)

@[simp] theorem tick_pc : (tick s).pc = s.pc := by rw [tick_eq]
@[simp] theorem tick_delaySlot : (tick s).delaySlot = s.delaySlot := by rw [tick_eq]
@[simp] theorem tick_gpr : (tick s).gpr = s.gpr := by rw [tick_eq]
@[simp] theorem tick_breaks : (tick s).plat.breaks = s.plat.breaks := by rw [tick_eq]

end

section
variable (s t : State)

theorem finish_pc : (finish s t).pc = t.pc := rfl
theorem finish_delaySlot : (finish s t).delaySlot = t.delaySlot := rfl
theorem finish_gpr : (finish s t).gpr = t.gpr := rfl
theorem finish_power : (finish s t).plat.power = t.plat.power := rfl

end

/-- What a step in Halt or Doze does: nothing but to wake (61_interrupts_platform.md R722). -/
theorem step_of_sleeping {s : State} (he : s.env.inputs = []) (hp : s.plat.power ≠ .normal) :
    step s = .next (finish (tick s)
      (if (tick s).wakes then { tick s with plat := { (tick s).plat with power := .normal } } else tick s)) := by
  rw [step_of_noEvent he, processorStep, runProcessor, if_pos (by rwa [tick_power])]
  rfl

theorem State.wakes_iff (s : State) :
    s.wakes = true ↔ s.hardIp ≠ 0#6 ∨ s.plat.nmiPending = true ∨ s.plat.breaks ≠ 0#4 := by
  simp [State.wakes, or_assoc]

/-- Settles O36: WAIT is the emptying of the buffer and the entry of the power state, and a step in it wakes or does nothing. -/
theorem waitSleepsUntilWoken : Obligations.WaitSleepsUntilWoken := by
  intro s
  constructor
  · intro hu hdrains
    have he : exec .wait s = .next s.drainAll.advance.sleep := by
      refine (needs_of hu).trans ?_
      rw [State.flushed_of hdrains]
      rfl
    exact ⟨_, he, ⟨rfl, rfl⟩, rfl, s.drainAll_physByte, rfl, rfl⟩
  · intro he hp
    have hwakes := (tick s).wakes_iff
    rw [tick_nmiPending, tick_breaks] at hwakes
    rw [step_of_sleeping he hp, ← hwakes]
    refine ⟨_, rfl, ?_, ?_, ?_, ?_⟩
    all_goals cases hw : (tick s).wakes
    · exact (finish_pc ..).trans (tick_pc s)
    · exact (finish_pc ..).trans (tick_pc s)
    · exact (finish_delaySlot ..).trans (tick_delaySlot s)
    · exact (finish_delaySlot ..).trans (tick_delaySlot s)
    · exact (finish_gpr ..).trans (tick_gpr s)
    · exact (finish_gpr ..).trans (tick_gpr s)
    · have hpower : (finish (tick s) (tick s)).plat.power ≠ .normal := by rwa [finish_power, tick_power]
      exact iff_of_false hpower (by simp)
    · exact iff_of_true (finish_power ..) rfl

/-! ## Reads of the CP0 registers (46_cp0_instructions.md R490, R492) -/

/-- The registers by their numbers, in order. -/
theorem cp0Values_getElem? (s : State) (r : Cop0RegNum) : (cp0Values s)[r.toNat]? = some (r, s.readCp0 r) := by
  have hall : ∀ k : Fin 32, (cp0Values s)[k.val]? = some (⟨k⟩, s.readCp0 ⟨k⟩) := by
    intro k
    fin_cases k <;> rfl
  exact hall r.toFin

theorem readCp0_of_mem_cp0Values {s : State} {p : Cop0RegNum × DWord} (h : p ∈ cp0Values s) : s.readCp0 p.1 = p.2 := by
  obtain ⟨k, hk⟩ := List.mem_iff_getElem?.1 h
  have hlt : k < 32 := (List.getElem?_eq_some_iff.1 hk).1
  have hget := cp0Values_getElem? s (BitVec.ofNat 5 k)
  rw [BitVec.toNat_ofNat, Nat.mod_eq_of_lt hlt, hk, Option.some.injEq] at hget
  subst hget
  rfl

theorem sext32_low32 (x : DWord) : sext32 (low32 x) = sextWord x.toNat := by
  rw [← sext32_ofNat]
  exact congrArg sext32 (BitVec.eq_of_toNat_eq (by rw [low32_toNat, BitVec.toNat_ofNat]))

/-- Settles O37: both moves read the register's own value, of which MFC0 extends the low word. -/
theorem cop0Reads : Obligations.Cop0Reads := by
  intro s rt hu p hp
  rw [← readCp0_of_mem_cp0Values hp, ← sext32_low32]
  exact ⟨.of_setReg (needs_of hu), fun h64 => .of_setReg ((wide_of h64).trans (needs_of hu))⟩

/-! ## Masked writes of the CP0 registers (46_cp0_instructions.md R491, R493) -/

/-- `t` shows `v` in CP0 register `r` and the registers of `s` in every other number. -/
def State.showsInstead (s t : State) (r : Cop0RegNum) (v : DWord) : Prop :=
  cp0Values t = (cp0Values s).set r.toNat (r, v)

theorem State.showsInstead.readCp0_eq {s t : State} {r : Cop0RegNum} {v : DWord} (h : s.showsInstead t r v) (q : Cop0RegNum) :
    t.readCp0 q = if q = r then v else s.readCp0 q := by
  have hq := cp0Values_getElem? t q
  rw [h, List.getElem?_set, cp0Values_getElem? s q] at hq
  split
  · next hqr => subst hqr; simpa [cp0Values, q.isLt] using hq.symm
  · next hqr =>
    rw [if_neg fun he => hqr (BitVec.eq_of_toNat_eq he.symm)] at hq
    simpa using hq.symm

/-- Sign extension goes through a masked write. -/
theorem sext32_writeMasked (mask x y : Word) :
    sext32 (writeMasked mask x y) = writeMasked (sext32 mask) (sext32 x) (sext32 y) := by
  apply BitVec.eq_of_getLsbD_eq
  intro i hi
  simp only [sext32, writeMasked, BitVec.getLsbD_signExtend, BitVec.getLsbD_or, BitVec.getLsbD_and, BitVec.getLsbD_not,
    BitVec.msb_or, BitVec.msb_and, BitVec.msb_not, hi]
  split <;> simp_all

theorem writeMasked_allOnes {n : Nat} (x y : BitVec n) : writeMasked (BitVec.allOnes n) x y = y := by
  simp [writeMasked]

/-- The interrupt sources show in Cause beside what was written of it. -/
theorem State.causeWord_write (s : State) (w : Word) :
    { s with cp0 := { s.cp0 with cause := writeMasked maskCause s.cp0.cause w } : State}.causeWord =
      writeMasked maskCause s.causeWord w := by
  have hmask : ∀ i < 32, maskCause.getLsbD i = decide (i = 8 ∨ i = 9) := by decide
  apply BitVec.eq_of_getLsbD_eq
  intro i hi
  rw [State.getLsbD_causeWord _ hi]
  simp only [writeMasked, BitVec.getLsbD_or, BitVec.getLsbD_and, BitVec.getLsbD_not, hmask i hi, State.getLsbD_causeWord _ hi, hi]
  split
  · next h => 
    have : ¬(i = 8 ∨ i = 9) := by omega
    simp [this]; rfl
  · rfl

section
variable (s : State) (v : DWord)

/-- A 32-bit register written under a mask, both sign-extended. -/
theorem State.showsInstead_word {t : State} {r : Cop0RegNum} {mask x : Word}
    (h : s.showsInstead t r (sext32 (writeMasked mask x (low32 v)))) :
    s.showsInstead t r (writeMasked (sext32 mask) (sext32 x) (sext32 (low32 v))) :=
  sext32_writeMasked mask x _ ▸ h

theorem State.showsInstead_all {t : State} {r : Cop0RegNum} {x : DWord} (h : s.showsInstead t r v) :
    s.showsInstead t r (writeMasked (BitVec.allOnes 64) x v) :=
  (writeMasked_allOnes x v).symm ▸ h

theorem State.writeCp0_cause_showsInstead :
    s.showsInstead (s.writeCp0 13#5 v) 13#5 (sext32 (writeMasked maskCause s.causeWord (low32 v))) :=
  s.causeWord_write (low32 v) ▸ rfl

theorem State.writeCp0_llAddr_showsInstead :
    s.showsInstead (s.writeCp0 17#5 v) 17#5 (sext32 (writeMasked (BitVec.allOnes 32) s.cp0.llAddr (low32 v))) :=
  (writeMasked_allOnes s.cp0.llAddr _).symm ▸ rfl

/-- The first six registers of `cp0Masks`, up to EntryHi. -/
theorem State.writeCp0_showsInstead_translation : ∀ p ∈ cp0Masks.take 6, s.showsInstead (s.writeCp0 p.1 v) p.1
    (writeMasked p.2.1 (s.readCp0 p.1) (if p.2.2 then v else sext32 (low32 v))) := by
  simp only [cp0Masks, List.take_succ_cons, List.take_zero, List.forall_mem_cons, List.not_mem_nil, IsEmpty.forall_iff,
    implies_true, and_true]
  exact ⟨s.showsInstead_word v (mask := maskIndex) rfl, rfl, rfl, rfl, s.showsInstead_word v (mask := maskPageMask) rfl, rfl⟩

/-- The next five, from Cause to XContext. -/
theorem State.writeCp0_showsInstead_control : ∀ p ∈ (cp0Masks.drop 6).take 5, s.showsInstead (s.writeCp0 p.1 v) p.1
    (writeMasked p.2.1 (s.readCp0 p.1) (if p.2.2 then v else sext32 (low32 v))) := by
  simp only [cp0Masks, List.drop_succ_cons, List.drop_zero, List.take_succ_cons, List.take_zero, List.forall_mem_cons,
    List.not_mem_nil, IsEmpty.forall_iff, implies_true, and_true]
  exact ⟨s.showsInstead_word v (mask := maskCause) (s.writeCp0_cause_showsInstead v), s.showsInstead_all v rfl,
    s.showsInstead_word v (mask := maskConfig) rfl,
    s.showsInstead_word v (mask := BitVec.allOnes 32) (s.writeCp0_llAddr_showsInstead v), rfl⟩

/-- The last five, from DEPC to DESAVE. -/
theorem State.writeCp0_showsInstead_debug : ∀ p ∈ (cp0Masks.drop 6).drop 5, s.showsInstead (s.writeCp0 p.1 v) p.1
    (writeMasked p.2.1 (s.readCp0 p.1) (if p.2.2 then v else sext32 (low32 v))) := by
  simp only [cp0Masks, List.drop_succ_cons, List.drop_zero, List.forall_mem_cons, List.not_mem_nil, IsEmpty.forall_iff,
    implies_true, and_true]
  exact ⟨s.showsInstead_all v rfl, s.showsInstead_word v (mask := maskTagLo) rfl, s.showsInstead_word v (mask := maskTagHi) rfl,
    s.showsInstead_all v rfl, s.showsInstead_all v rfl⟩

end

/-- A register of `cp0Masks` after a write: the bits of its mask from the value, the others kept. -/
theorem State.writeCp0_showsInstead (s : State) (v : DWord) :
    ∀ p ∈ cp0Masks, s.showsInstead (s.writeCp0 p.1 v) p.1
      (writeMasked p.2.1 (s.readCp0 p.1) (if p.2.2 then v else sext32 (low32 v))) := by
  intro p hp
  rw [← List.take_append_drop 6 cp0Masks, ← List.take_append_drop 5 (cp0Masks.drop 6), List.mem_append, List.mem_append] at hp
  rcases hp with h | h | h
  · exact s.writeCp0_showsInstead_translation v p h
  · exact s.writeCp0_showsInstead_control v p h
  · exact s.writeCp0_showsInstead_debug v p h

/-- Such a write changes the CP0 registers alone. -/
theorem State.writeCp0_eq_of_mask (s : State) (v : DWord) :
    ∀ p ∈ cp0Masks, s.writeCp0 p.1 v = { s with cp0 := (s.writeCp0 p.1 v).cp0 } := by
  simp only [cp0Masks, List.forall_mem_cons, List.not_mem_nil, IsEmpty.forall_iff, implies_true, and_true]
  exact ⟨rfl, rfl, rfl, rfl, rfl, rfl, rfl, rfl, rfl, rfl, rfl, rfl, rfl, rfl, rfl, rfl⟩

/-- Random, BadVAddr, PRId and the reserved numbers ignore a write (46_cp0_instructions.md R491, D6). -/
theorem State.writeCp0_ignored (s : State) (v : DWord) :
    ∀ r ∈ [1#5, 7#5, 8#5, 15#5, 18#5, 19#5, 21#5, 22#5, 25#5, 26#5, 27#5], s.writeCp0 r v = s := by
  simp only [List.forall_mem_cons, List.not_mem_nil, IsEmpty.forall_iff, implies_true, and_true]
  exact ⟨rfl, rfl, rfl, rfl, rfl, rfl, rfl, rfl, rfl, rfl, rfl⟩

theorem writesCp0_of {i : Instr} {s : State} {v x : DWord} {p : Cop0RegNum × DWord × Bool} (hp : p ∈ cp0Masks)
    (h : exec i s = .next (s.writeCp0 p.1 v).advance) (hx : (if p.2.2 then v else sext32 (low32 v)) = x) :
    WritesCp0 i s p.1 p.2.1 x := by
  have hshows : s.showsInstead (s.writeCp0 p.1 v).advance p.1 (writeMasked p.2.1 (s.readCp0 p.1) x) :=
    hx ▸ s.writeCp0_showsInstead v p hp
  rw [s.writeCp0_eq_of_mask v p hp] at h hshows
  exact ⟨_, h, (hshows.readCp0_eq p.1).trans (if_pos rfl), fun q hq => (hshows.readCp0_eq q).trans (if_neg hq), ⟨rfl, rfl⟩,
    State.sameBytes_of rfl rfl, rfl⟩

/-- Settles O38: both moves are one write, of the sign-extended low word or of the whole register. -/
theorem cop0WritesByMask : Obligations.Cop0WritesByMask := by
  refine fun s rt hu => ⟨fun p hp => ⟨?mtc0, fun h64 => ?dmtc0⟩, fun r hr => ⟨.of_advance ?_, fun h64 => .of_advance ?_⟩⟩
  case mtc0 =>
    refine writesCp0_of hp (v := sext32 (s.rget32 rt)) (needs_of hu) ?_
    rw [low32_sext32, ite_self]
    exact sext32_low32 _
  case dmtc0 =>
    refine writesCp0_of hp (v := s.rget rt) ((wide_of h64).trans (needs_of hu)) ?_
    rw [sext32_low32]
  · refine (needs_of hu).trans ?_
    rw [s.writeCp0_ignored _ r hr]
  · refine ((wide_of h64).trans (needs_of hu)).trans ?_
    rw [s.writeCp0_ignored _ r hr]

/-! ## The TLB (46_cp0_instructions.md R495 to R498) -/

theorem pageIs_pageOfEntryLo (lo : DWord) : pageIs (pageOfEntryLo lo) lo := by
  refine ⟨?_, ?_, rfl, rfl⟩ <;> simp [pageOfEntryLo, BitVec.extractLsb'_toNat, Nat.shiftRight_eq_div_pow]

theorem extractLsb'_toNat_eq (x : BitVec n) (lo len : Nat) : (x.extractLsb' lo len).toNat = x.toNat / 2 ^ lo % 2 ^ len := by
  rw [BitVec.extractLsb'_toNat, Nat.shiftRight_eq_div_pow]

theorem legalMask_iff (m : BitVec 12) : legalMask m = true ↔ m.toNat ∈ [0x000, 0x003, 0x00F, 0x03F, 0x0FF, 0x3FF, 0xFFF] := by
  have hall : [0x000, 0x003, 0x00F, 0x03F, 0x0FF, 0x3FF, 0xFFF] = pageSizes.map Prod.fst := rfl
  rw [hall, List.mem_map]
  constructor
  · exact fun h => ⟨_, (mem_pageSizes m _).2 ⟨h, rfl⟩, rfl⟩
  · rintro ⟨⟨k, n⟩, hk, rfl⟩
    exact ((mem_pageSizes m n).1 hk).1

/-- A TLB write with a legal mask puts the entry the registers describe. -/
theorem writesTlb_of {i : Instr} {s : State} {k : Fin 48} {n : BitVec 6} (h : exec i s = writeTlb n s) (hn : n.toNat = k.val)
    (hm : legalMask s.newTlbEntry.mask = true) : WritesTlb i s k := by
  have hk : n.toNat < 48 := hn ▸ k.isLt
  have he : exec i s = .next (s.setTlb k s.newTlbEntry).advance := by
    rw [h, writeTlb, dif_pos hk, if_pos hm]
    congr
  refine ⟨_, he, ?entry, fun j hj => ?others, ⟨rfl, rfl⟩, State.sameBytes_of rfl rfl, rfl⟩
  case entry =>
    have hget : (s.setTlb k s.newTlbEntry).advance.tlb[k.val] = s.newTlbEntry := Vector.getElem_set_self ..
    rw [hget]
    have hr := s.cp0.entryHi.isLt
    refine ⟨extractLsb'_toNat_eq .., ?_, extractLsb'_toNat_eq .., ?_, Bool.and_eq_true_iff, pageIs_pageOfEntryLo _,
      pageIs_pageOfEntryLo _⟩
    · exact (extractLsb'_toNat_eq ..).trans (by omega)
    · exact (extractLsb'_toNat_eq ..).trans (by omega)
  case others => exact Vector.getElem_set_ne k.isLt j.isLt fun hkj => hj (Fin.ext hkj.symm)

/-- A TLB write below 48 either writes or, with a mask that is no page size, stops. -/
theorem writesTlb_or_stops {i : Instr} {s : State} {k : Fin 48} {n : BitVec 6} (h : exec i s = writeTlb n s) (hn : n.toNat = k.val) :
    let mask := s.cp0.pageMask.toNat / 2 ^ 13 % 2 ^ 12
    let legal := mask ∈ [0x000, 0x003, 0x00F, 0x03F, 0x0FF, 0x3FF, 0xFFF]
    (legal → WritesTlb i s k) ∧ (¬legal → exec i s = .refused .tlbBadMask) := by
  intro mask legal
  have hlegal : legalMask s.newTlbEntry.mask = true ↔ legal := by
    rw [legalMask_iff, State.newTlbEntry, extractLsb'_toNat_eq]
  refine ⟨fun hl => writesTlb_of h hn (hlegal.2 hl), fun hl => ?_⟩
  rw [h, writeTlb, dif_pos (hn ▸ k.isLt), if_neg (mt hlegal.1 hl)]

theorem State.indexField_toNat (s : State) : s.indexField.toNat = s.cp0.index.toNat % 2 ^ 6 := by
  simp [State.indexField]

/-- Settles O40: both are one write, at the number of Index or of Random. -/
theorem tlbWrites : Obligations.TlbWrites := fun s hu =>
  ⟨fun _ hk => writesTlb_or_stops (needs_of hu) (s.indexField_toNat.trans hk), fun _ hk => writesTlb_or_stops (needs_of hu) hk⟩

/-! ### TLBR -/

theorem append_toNat {m n : Nat} (x : BitVec m) (y : BitVec n) : (x ++ y).toNat = x.toNat * 2 ^ n + y.toNat := by
  rw [BitVec.toNat_append, ← Nat.shiftLeft_add_eq_or_of_lt y.isLt, Nat.shiftLeft_eq]

theorem TlbPage.entryLo_toNat (p : TlbPage) (g : Bool) :
    (p.entryLo g).toNat = p.pfn.toNat * 2 ^ 6 + p.c.toNat * 2 ^ 3 + p.d.toNat * 2 ^ 2 + p.v.toNat * 2 + g.toNat := by
  simp only [TlbPage.entryLo, append_toNat, BitVec.toNat_ofBool, BitVec.toNat_ofNat]
  omega

theorem mul_add_div_mod {hi k lo : Nat} (h : lo < k) : (hi * k + lo) / k = hi ∧ (hi * k + lo) % k = lo := by
  rw [Nat.add_comm, Nat.add_mul_div_right _ _ (by omega), Nat.add_mul_mod_self_right, Nat.div_eq_of_lt h, Nat.mod_eq_of_lt h]
  exact ⟨Nat.zero_add _, rfl⟩

/-- The fields of a number written as an EntryLo register is. -/
theorem entryLo_fields {n pfn c d v g : Nat} (hn : n = pfn * 2 ^ 6 + c * 2 ^ 3 + d * 2 ^ 2 + v * 2 + g) (hpfn : pfn < 2 ^ 24)
    (hc : c < 2 ^ 3) (hd : d < 2) (hv : v < 2) (hg : g < 2) :
    pfn = n / 2 ^ 6 % 2 ^ 24 ∧ c = n / 2 ^ 3 % 2 ^ 3 ∧ n / 2 ^ 2 % 2 = d ∧ n / 2 ^ 1 % 2 = v ∧ n / 2 ^ 0 % 2 = g ∧ n < 2 ^ 30 := by
  have hnested : n = (((pfn * 2 ^ 3 + c) * 2 + d) * 2 + v) * 2 + g := hn.trans (by ring)
  have hlt : n < 2 ^ 30 := by omega
  have h1 : n / 2 ^ 1 = ((pfn * 2 ^ 3 + c) * 2 + d) * 2 + v := hnested ▸ (mul_add_div_mod hg).1
  have h2 : n / 2 ^ 2 = (pfn * 2 ^ 3 + c) * 2 + d := by
    rw [show n / 2 ^ 2 = n / 2 ^ 1 / 2 from (Nat.div_div_eq_div_mul ..).symm, h1, (mul_add_div_mod hv).1]
  have h3 : n / 2 ^ 3 = pfn * 2 ^ 3 + c := by
    rw [show n / 2 ^ 3 = n / 2 ^ 2 / 2 from (Nat.div_div_eq_div_mul ..).symm, h2, (mul_add_div_mod hd).1]
  have h6 : n / 2 ^ 6 = pfn := by
    rw [show n / 2 ^ 6 = n / 2 ^ 3 / 2 ^ 3 from (Nat.div_div_eq_div_mul n (2 ^ 3) (2 ^ 3)).symm, h3, (mul_add_div_mod hc).1]
  rw [h1, h2, h3, h6, pow_zero, Nat.div_one]
  exact ⟨(Nat.mod_eq_of_lt hpfn).symm, (mul_add_div_mod hc).2.symm, (mul_add_div_mod hd).2, (mul_add_div_mod hv).2,
    hnested ▸ (mul_add_div_mod hg).2, hlt⟩

/-- An EntryLo register loaded from an entry shows its page and G, in its low 30 bits. -/
theorem TlbPage.entryLo_shows (p : TlbPage) (g : Bool) :
    pageIs p (p.entryLo g) ∧ (p.entryLo g).getLsbD 0 = g ∧ (p.entryLo g).toNat < 2 ^ 30 := by
  have hbit (b : Bool) (k : Nat) (h : (p.entryLo g).toNat / 2 ^ k % 2 = b.toNat) : (p.entryLo g).getLsbD k = b := by
    rw [Bool.eq_iff_iff, getLsbD_iff_div, h]
    cases b <;> decide
  obtain ⟨hpfn, hc, hd, hv, hg, hlt⟩ := entryLo_fields (p.entryLo_toNat g) p.pfn.isLt p.c.isLt p.d.toNat_lt p.v.toNat_lt g.toNat_lt
  exact ⟨⟨hpfn, hc, (hbit _ _ hd).symm, (hbit _ _ hv).symm⟩, hbit _ _ hg, hlt⟩

theorem execTlbr_of {s : State} {k : Fin 48} (hu : s.usable 0#2 = true) (hk : s.cp0.index.toNat % 2 ^ 6 = k.val) :
    exec .tlbr s = .next (State.advance { s with cp0 := s.cp0.loadTlb s.tlb[k.val] }) := by
  have hn : s.indexField.toNat = k.val := s.indexField_toNat.trans hk
  refine (needs_of hu).trans ?_
  rw [dif_pos (hn ▸ k.isLt)]
  congr

/-! ### TLBP -/

theorem execTlbp_of_matches {s : State} {l : List (Fin 48)} (hu : s.usable 0#2 = true)
    (hl : s.tlbMatches (s.cp0.entryHi.extractLsb' 62 2) (s.cp0.entryHi.extractLsb' 13 27) = l) :
    exec .tlbp s =
      match l with
      | [] => .next (State.advance { s with cp0 := { s.cp0 with index := s.indexMissed } })
      | [i] => .next (State.advance { s with cp0 := { s.cp0 with index := indexFound i } })
      | _ :: _ :: _ => .refused .tlbMultiMatch := by
  have he : exec .tlbp s = execTlbp s := rfl
  rw [he, execTlbp, needs_of hu]
  simp only [hl]
  match l with
  | [] | [_] | _ :: _ :: _ => rfl

/-- Index after a probe that found nothing: P is set and only the index field is free (U23). -/
theorem State.indexMissed_shows (s : State) : s.indexMissed.getLsbD 31 = true ∧ s.indexMissed.toNat % 2 ^ 31 < 2 ^ 6 := by
  have hn : s.indexMissed.toNat = 2 ^ 31 + ((s.fresh .index).extractLsb' 0 6).toNat := by
    simp only [State.indexMissed, append_toNat, BitVec.toNat_ofNat]
    rfl
  have hlt := ((s.fresh .index).extractLsb' 0 6).isLt
  constructor
  · rw [← BitVec.testBit_toNat, Nat.testBit_eq_decide_div_mod_eq, decide_eq_true_iff]
    omega
  · omega

/-- Settles O41: TLBR loads the four registers of the entry; TLBP answers by how many entries match EntryHi. -/
theorem tlbReadAndProbe : Obligations.TlbReadAndProbe := by
  intro s hu
  refine ⟨fun k hk => ?read, fun k hk hother => ?found, fun hnone => ?missed, fun j k hjk hj hk => ?several⟩
  case read =>
    obtain ⟨heven, hgeven, hlteven⟩ := s.tlb[k.val].even.entryLo_shows s.tlb[k.val].g
    obtain ⟨hodd, hgodd, hltodd⟩ := s.tlb[k.val].odd.entryLo_shows s.tlb[k.val].g
    refine ⟨_, execTlbr_of hu hk, ⟨rfl, ?_, ?_, heven, hodd, hgeven, hgodd, hlteven, hltodd⟩, ⟨rfl, rfl⟩, rfl⟩
    · simp only [State.advance_cp0, Cp0.loadTlb, append_toNat, BitVec.toNat_ofNat]
      omega
    · simp only [State.advance_cp0, Cp0.loadTlb, append_toNat, BitVec.toNat_ofNat]
      omega
  case found =>
    have hl := eq_singleton_of_nodup (s.tlbMatches_nodup ..) (State.mem_tlbMatches.2 hk) fun j hj =>
      not_not.1 fun hne => hother j hne (State.mem_tlbMatches.1 hj)
    exact ⟨_, execTlbp_of_matches hu hl, rfl, ⟨rfl, rfl⟩, rfl⟩
  case missed =>
    have hl := List.eq_nil_iff_forall_not_mem.2 fun j hj => hnone j (State.mem_tlbMatches.1 hj)
    exact ⟨_, execTlbp_of_matches hu hl, s.indexMissed_shows.1, s.indexMissed_shows.2, ⟨rfl, rfl⟩, rfl⟩
  case several =>
    have hj := State.mem_tlbMatches.2 hj
    have hk := State.mem_tlbMatches.2 hk
    cases hl : s.tlbMatches (s.cp0.entryHi.extractLsb' 62 2) (s.cp0.entryHi.extractLsb' 13 27) with
    | nil => simp [hl] at hj
    | cons i l =>
      cases l with
      | nil =>
        rw [hl, List.mem_singleton] at hj hk
        exact absurd (hj.trans hk.symm) hjk
      | cons => exact execTlbp_of_matches hu hl

end Sys2Proof.Machine
end

section
/-! SUPPORT. Taking a general exception: the fields of Cause, the vector, and the address registers (O32, O33; 60_exceptions.md R622,
R630 to R632, R647). -/

-- One proof at a time: proofs elaborated side by side hold more memory.
set_option Elab.async false

namespace Sys2Proof.Machine

/-! ## Fields beside the one written -/

theorem extractLsb'_putBits_other {n m : Nat} (x : BitVec n) (lo : Nat) (v : BitVec m) {start len : Nat} (hn : start + len ≤ n)
    (h : start + len ≤ lo ∨ lo + m ≤ start) : (putBits x lo v).extractLsb' start len = x.extractLsb' start len := by
  apply BitVec.eq_of_getLsbD_eq
  intro i hi
  rw [BitVec.getLsbD_extractLsb', BitVec.getLsbD_extractLsb', getLsbD_putBits _ _ _ (by omega), if_neg (by omega)]

theorem putBit_true_eq {n : Nat} (x : BitVec n) (i : Nat) : putBit x i true = x ||| 1#n <<< i := by
  apply BitVec.eq_of_getLsbD_eq
  intro k hk
  rw [putBit, getLsbD_putBits _ _ _ hk]
  simp only [BitVec.getLsbD_or, BitVec.getLsbD_shiftLeft, BitVec.getLsbD_one, hk]
  grind

/-! ## Cause after an exception (60_exceptions.md R630) -/

/-- Cause: ExcCode and CE are written, and BD unless EXL was set. -/
theorem State.causeAfter_eq (s : State) (x : Exc) :
    ∃ ce : BitVec 2, (∀ z, x = .copUnusable z → ce = z) ∧
      s.causeAfter x =
        if s.exl then putBits (putBits s.cp0.cause 2 x.code) 28 ce
        else putBit (putBits (putBits s.cp0.cause 2 x.code) 28 ce) 31 s.delaySlot.isSome := by
  cases x with
  | copUnusable z => exact ⟨z, fun _ h => by cases h; rfl, rfl⟩
  | _ => exact ⟨_, fun _ h => (by cases h), rfl⟩

theorem State.causeAfter_code (s : State) (x : Exc) : (s.causeAfter x).extractLsb' 2 5 = x.code := by
  obtain ⟨ce, -, he⟩ := s.causeAfter_eq x
  rw [he]
  split
  · rw [extractLsb'_putBits_other _ _ _ (by decide) (by decide), extractLsb'_putBits _ _ (by decide)]
  · rw [putBit, extractLsb'_putBits_other _ _ _ (by decide) (by decide), extractLsb'_putBits_other _ _ _ (by decide) (by decide),
      extractLsb'_putBits _ _ (by decide)]

theorem State.causeAfter_ce (s : State) (z : BitVec 2) : (s.causeAfter (.copUnusable z)).extractLsb' 28 2 = z := by
  obtain ⟨ce, hce, he⟩ := s.causeAfter_eq (.copUnusable z)
  rw [he, hce z rfl]
  split
  · exact extractLsb'_putBits _ _ (by decide)
  · rw [putBit, extractLsb'_putBits_other _ _ _ (by decide) (by decide), extractLsb'_putBits _ _ (by decide)]

theorem State.causeAfter_bd (s : State) (x : Exc) :
    (s.causeAfter x).getLsbD 31 = if s.exl then s.cp0.cause.getLsbD 31 else s.delaySlot.isSome := by
  obtain ⟨ce, -, he⟩ := s.causeAfter_eq x
  rw [he]
  split
  · rw [getLsbD_putBits _ _ _ (by decide), getLsbD_putBits _ _ _ (by decide)]
    rfl
  · exact getLsbD_putBit_same _ _ (by decide)

theorem State.causeAfter_kept (s : State) (x : Exc) : s.causeAfter x &&& 0x4FFFFF83#32 = s.cp0.cause &&& 0x4FFFFF83#32 := by
  obtain ⟨ce, -, he⟩ := s.causeAfter_eq x
  have hfields : putBits (putBits s.cp0.cause 2 x.code) 28 ce &&& 0x4FFFFF83#32 = s.cp0.cause &&& 0x4FFFFF83#32 := by
    rw [putBits_and_of_disjoint _ _ _ (by decide), putBits_and_of_disjoint _ _ _ (by decide)]
  rw [he]
  split
  · exact hfields
  · rw [putBit_and_of_disjoint _ _ _ (by decide), hfields]

/-! ## The vector (60_exceptions.md R622, R647) -/

/-- The X bit that a TLB refill goes by, by the range of the address. -/
theorem State.refillIs64_eq (s : State) (va : DWord) :
    s.refillIs64 va =
      if va.toNat < 2 ^ 62 then s.ux
      else if va.toNat < 2 ^ 63 ∨ (0xFFFFFFFFC0000000 ≤ va.toNat ∧ va.toNat < 0xFFFFFFFFE0000000) then s.sx
      else s.kx := by
  have ha := va.isLt
  have huser : va.extractLsb' 62 2 = 0#2 ↔ va.toNat < 2 ^ 62 := by
    rw [extractLsb'_eq_iff, BitVec.toNat_ofNat]; omega
  have hxs : va.extractLsb' 62 2 = 1#2 ↔ 2 ^ 62 ≤ va.toNat ∧ va.toNat < 2 ^ 63 := by
    rw [extractLsb'_eq_iff, BitVec.toNat_ofNat]; omega
  have hcks : va.extractLsb' 29 35 = 0x7FFFFFFFE#35 ↔ 0xFFFFFFFFC0000000 ≤ va.toNat ∧ va.toNat < 0xFFFFFFFFE0000000 := by
    rw [extractLsb'_eq_iff, BitVec.toNat_ofNat]; omega
  simp only [State.refillIs64, Bool.or_eq_true, decide_eq_true_eq, huser, hxs, hcks]
  split
  · rfl
  · next h => simp only [not_lt.1 h, true_and]

theorem State.vectorOffset_eq (s : State) (x : Exc) : s.vectorOffset x = BitVec.ofNat 64 (vectorOffsetOf s x) := by
  cases x with
  | tlbRefill k va =>
    simp only [State.vectorOffset, vectorOffsetOf, s.refillIs64_eq va, apply_ite (BitVec.ofNat 64)]
  | _ => rfl

/-! ## The address registers (60_exceptions.md R632) -/

theorem recordBadAddr_of_none {x : Exc} (h : x.badAddr? = none) (s : State) (c : Cp0) : s.recordBadAddr x c = c := by
  rw [State.recordBadAddr, h]

/-- A bad address is recorded in the six address registers alone. -/
theorem recordBadAddr_eq (x : Exc) (s : State) (c : Cp0) :
    s.recordBadAddr x c = { c with
      badVAddr := (s.recordBadAddr x c).badVAddr, entryLo0 := (s.recordBadAddr x c).entryLo0
      entryLo1 := (s.recordBadAddr x c).entryLo1, context := (s.recordBadAddr x c).context
      xContext := (s.recordBadAddr x c).xContext, entryHi := (s.recordBadAddr x c).entryHi } := by
  unfold State.recordBadAddr
  split
  · rfl
  · dsimp only
    split <;> rfl

theorem Exc.badAddr?_of_tlbAddr? {x : Exc} {va : DWord} (h : x.tlbAddr? = some va) : x.badAddr? = some va := by
  cases x with
  | addressError => cases h
  | _ => exact h

/-- The fields that a TLB exception records of its address. -/
theorem recordBadAddr_of_tlb {x : Exc} {va : DWord} (h : x.tlbAddr? = some va) (s : State) (c : Cp0) :
    (s.recordBadAddr x c).badVAddr = va ∧
    (s.recordBadAddr x c).context = putBits c.context 4 (va.extractLsb' 13 19) ∧
    (s.recordBadAddr x c).xContext = putBits (putBits c.xContext 4 (va.extractLsb' 13 27)) 31 (va.extractLsb' 62 2) ∧
    (s.recordBadAddr x c).entryHi = putBits (putBits c.entryHi 13 (va.extractLsb' 13 27)) 62 (va.extractLsb' 62 2) := by
  rw [State.recordBadAddr, Exc.badAddr?_of_tlbAddr? h]
  simp [h]

/-- Settles O33: a TLB exception writes one field of each register, and an exception without a bad address none. -/
theorem badAddressRecorded : Obligations.BadAddressRecorded := by
  refine fun s k va => ⟨fun x hx => ?tlb, rfl, fun x hx => ?none⟩
  case tlb =>
    have hva : x.tlbAddr? = some va := by
      simp only [List.mem_cons, List.not_mem_nil, or_false] at hx
      rcases hx with rfl | rfl | rfl <;> rfl
    obtain ⟨hbad, hcontext, hxcontext, hentryHi⟩ := recordBadAddr_of_tlb hva s s.cp0
    simp only [takeException_cp0, State.cp0After, hbad, hcontext, hxcontext, hentryHi]
    refine ⟨trivial, extractLsb'_putBits _ _ (by decide), putBits_and_of_disjoint _ _ _ (by decide), ?_,
      extractLsb'_putBits _ _ (by decide), ?_, ?_, extractLsb'_putBits _ _ (by decide), ?_⟩
    · rw [extractLsb'_putBits_other _ _ _ (by decide) (by decide), extractLsb'_putBits _ _ (by decide)]
    · rw [putBits_and_of_disjoint _ _ _ (by decide), putBits_and_of_disjoint _ _ _ (by decide)]
    · rw [extractLsb'_putBits_other _ _ _ (by decide) (by decide), extractLsb'_putBits _ _ (by decide)]
    · rw [putBits_and_of_disjoint _ _ _ (by decide), putBits_and_of_disjoint _ _ _ (by decide)]
  case none =>
    simp [State.cp0After, recordBadAddr_of_none hx]

/-- The entry of an exception changes the CP0 registers, the pc and the branch state. -/
theorem cp0After_eq (s : State) (x : Exc) :
    s.cp0After x = { s.cp0 with
      cause := (s.cp0After x).cause, epc := (s.cp0After x).epc, status := (s.cp0After x).status
      badVAddr := (s.cp0After x).badVAddr, entryLo0 := (s.cp0After x).entryLo0, entryLo1 := (s.cp0After x).entryLo1
      context := (s.cp0After x).context, xContext := (s.cp0After x).xContext, entryHi := (s.cp0After x).entryHi } := by
  rw [State.cp0After, recordBadAddr_eq]

/-- Settles O32: each register of the entry by its own rule. -/
theorem exceptionEntry : Obligations.ExceptionEntry := by
  refine fun x s => ⟨s.causeAfter_code x, ?ce, fun hexl => ⟨?epc, ?bd⟩, fun hexl => ⟨?epcKept, ?bdKept⟩, s.causeAfter_kept x,
    putBit_true_eq .., ?mode, ?pc, rfl, rfl, cp0After_eq s x⟩
  case ce => rintro z rfl; exact s.causeAfter_ce z
  case epc => exact if_neg (by simp [hexl])
  case bd => exact (s.causeAfter_bd x).trans (if_neg (by simp [hexl]))
  case epcKept => exact if_pos hexl
  case bdKept => exact (s.causeAfter_bd x).trans (if_pos hexl)
  case mode => exact State.mode_of_exl (getLsbD_putBit_same _ _ (by decide))
  case pc => rw [takeException_pc, s.vectorOffset_eq, State.vectorBase]

end Sys2Proof.Machine
end

section
/-! SUPPORT. The step that takes an interrupt (O12), SoftReset and NMI (O14) (60_exceptions.md R625, R641, R642;
61_interrupts_platform.md R702, R708). -/

-- One proof at a time: proofs elaborated side by side hold more memory.
set_option Elab.async false

namespace Sys2Proof.Machine

/-! ## An interrupt -/

/-- A word that executes with an interrupt pending: its own exception if it took one, else the Interrupt exception. -/
theorem runInterrupted_of_next {w : Word} {s t : State} (h : isSdbbp w = false) (ht : execWord w s.prepared = .next t) :
    runInterrupted w s = .next (if t.excTaken then t else takeException .interrupt s) := by
  rw [runInterrupted, if_neg (by simp [h]), ht]
  exact (apply_ite Host.Outcome.next _ _ _).symm

/-- Settles O12: with nothing else due before it, the word fetched runs as one with an interrupt pending. -/
theorem stepTakesInterrupt : Obligations.StepTakesInterrupt := by
  intro s u w i he hp hn hf hw hdecode hsdbbp hdue hlate hint
  have hstep {t : State} (ht : exec i u.prepared = .next t) :
      step s = .next (finish (tick s) (if t.excTaken then t else takeException .interrupt u)) := by
    rw [step_eq_runPc he hp hf (.inl hn), runPc_of hw, runWord_of hdue hlate, if_pos hint,
      runInterrupted_of_next hsdbbp ((execWord_of_decode _ hdecode).trans ht)]
    rfl
  refine ⟨fun t ht hexc => ?_, fun t ht hexc => ?_⟩
  · rw [hstep ht, if_neg (by simp [hexc])]
  · rw [hstep ht, if_pos hexc]

/-! ## What a fetch leaves -/

section
variable {s t : State} (h : s.sameButFetch t)

include h

theorem State.sameButFetch.pc_eq : t.pc = s.pc := by rw [h]
theorem State.sameButFetch.delaySlot_eq : t.delaySlot = s.delaySlot := by rw [h]
theorem State.sameButFetch.gpr_eq : t.gpr = s.gpr := by rw [h]
theorem State.sameButFetch.cp0_eq : t.cp0 = s.cp0 := by rw [h]
theorem State.sameButFetch.nmiPending_eq : t.plat.nmiPending = s.plat.nmiPending := by rw [h]
theorem State.sameButFetch.breaks_eq : t.plat.breaks = s.plat.breaks := by rw [h]
theorem State.sameButFetch.stalled_eq : t.plat.stalled = s.plat.stalled := by rw [h]
theorem State.sameButFetch.stepPending_eq : t.stepPending = s.stepPending := by rw [h]

end

/-! ## SoftReset and NMI -/

/-- The reset entry writes ErrorEPC, and sets ERL, SR and BEV in Status. -/
theorem State.resetEntry_cp0_eq (s : State) :
    s.resetEntry.cp0 = { s.cp0 with
      errorEpc := if s.delaySlot.isSome then s.pc - 4#64 else s.pc
      status := s.cp0.status ||| 0x00500004#32 } := by
  have hstatus : putBit (putBit (putBit s.cp0.status 2 true) 20 true) 22 true = s.cp0.status ||| 0x00500004#32 := by
    rw [putBit_true_eq, putBit_true_eq, putBit_true_eq, BitVec.or_assoc, BitVec.or_assoc]
    rfl
  rw [← hstatus]
  rfl

theorem State.resetEntry_cp0_of {s u : State} (hd : u.delaySlot = s.delaySlot) (hpc : u.pc = s.pc)
    (hstatus : u.cp0.status = s.cp0.status) :
    u.resetEntry.cp0 = { u.cp0 with
      errorEpc := if s.delaySlot.isSome then s.pc - 4#64 else s.pc
      status := s.cp0.status ||| 0x00500004#32 } := by
  rw [State.resetEntry_cp0_eq, hd, hpc, hstatus]

section
variable (s₀ s : State)

/-! What the step of an NMI, begun in `s₀`, leaves of the state it is taken in. -/

theorem finish_takeNmi_pc : (finish s₀ (takeNmi s)).pc = 0xFFFFFFFFBFC00000#64 := rfl
theorem finish_takeNmi_delaySlot : (finish s₀ (takeNmi s)).delaySlot = none := rfl
theorem finish_takeNmi_nmiPending : (finish s₀ (takeNmi s)).plat.nmiPending = false := rfl
theorem finish_takeNmi_cp0 : (finish s₀ (takeNmi s)).cp0 = s.resetEntry.cp0 := rfl
theorem finish_takeNmi_gpr : (finish s₀ (takeNmi s)).gpr = s.gpr := rfl
theorem finish_takeNmi_hi : (finish s₀ (takeNmi s)).hi = s.hi := rfl
theorem finish_takeNmi_lo : (finish s₀ (takeNmi s)).lo = s.lo := rfl
theorem finish_takeNmi_fgr : (finish s₀ (takeNmi s)).fgr = s.fgr := rfl
theorem finish_takeNmi_fcr31 : (finish s₀ (takeNmi s)).fcr31 = s.fcr31 := rfl
theorem finish_takeNmi_tlb : (finish s₀ (takeNmi s)).tlb = s.tlb := rfl
theorem finish_takeNmi_icache : (finish s₀ (takeNmi s)).icache = s.icache := rfl
theorem finish_takeNmi_dcache : (finish s₀ (takeNmi s)).dcache = s.dcache := rfl
theorem finish_takeNmi_sameBytes : s.sameBytes (finish s₀ (takeNmi s)) := State.sameBytes_of rfl rfl

end

section
variable (s : State)

theorem tick_hi : (tick s).hi = s.hi := by rw [tick_eq]
theorem tick_lo : (tick s).lo = s.lo := by rw [tick_eq]
theorem tick_fgr : (tick s).fgr = s.fgr := by rw [tick_eq]
theorem tick_fcr31 : (tick s).fcr31 = s.fcr31 := by rw [tick_eq]
theorem tick_tlb : (tick s).tlb = s.tlb := by rw [tick_eq]
theorem tick_icache : (tick s).icache = s.icache := by rw [tick_eq]
theorem tick_dcache : (tick s).dcache = s.dcache := by rw [tick_eq]
theorem tick_status : (tick s).cp0.status = s.cp0.status := by rw [tick_eq]

end

section
variable {s : State} (he : s.env.inputs = []) (hp : s.plat.power = .normal) (hf : s.plat.fetched = none)
  (hn : s.plat.nmiPending = true) (hd : s.debugMode = false)

include he hp hf hn hd

/-- A step with a waiting NMI and the pipeline running takes it at once. -/
theorem step_eq_runNmi (hs : s.plat.stalled = false) : step s = .next (finish (tick s) (runNmi (tick s).unstalled)) := by
  have hst : (tick s).plat.stalled = false := by rw [tick_eq]; exact hs
  rw [step_of_noEvent he, processorStep, runProcessor]
  simp [hp, hf, hn, hd, hst, ended]

/-- A step with a waiting NMI and a stalled fetch goes on with the fetch. -/
theorem step_eq_runStalledNmi (hs : s.plat.stalled = true) : step s = ended (tick s) (runStalledNmi (tick s).unstalled) := by
  have hst : (tick s).plat.stalled = true := by rw [tick_eq]; exact hs
  rw [step_of_noEvent he, processorStep, runProcessor]
  simp [hp, hf, hn, hd, hst]

end

/-- A fetch that has no answer leaves the NMI waiting. -/
theorem runStalledNmi_of_stall {s u : State} (h : s.fetchWord = .stall u) : runStalledNmi s = .next u.stall := by
  simp only [runStalledNmi, h]

/-- Once the fetch has its answer the NMI is taken. -/
theorem runStalledNmi_of_ok {s u : State} {w : Word} (h : s.fetchWord = .ok w u) : runStalledNmi s = .next (runNmi u) := by
  simp only [runStalledNmi, h]

/-- An NMI with no debug exception beside it. -/
theorem runNmi_eq_takeNmi {s : State} (hd : s.debugDue = 0#32) (hs : s.atSdbbp = false) : runNmi s = takeNmi s := by
  simp [runNmi, hd, hs]

/-- Settles O14: each entry is the reset entry of its state, and a fetch without an answer leaves the NMI waiting. -/
theorem resetClassEntry : Obligations.ResetClassEntry := by
  refine ⟨fun s spoiled es he => ?soft, fun s he hp hn hf hd => ⟨fun hs hdue hsdbbp => ?running, fun u hs hu => ?waits,
    fun w u hs hw hdue hsdbbp => ?answered⟩⟩
  case soft =>
    exact ⟨_, step_of_event he (by simp), rfl, rfl, State.resetEntry_cp0_eq { s with env := { s.env with inputs := es } },
      rfl, rfl, rfl, rfl, rfl, rfl⟩
  case running =>
    refine ⟨_, step_eq_runNmi he hp hf hn hd hs, ?_⟩
    rw [runNmi_eq_takeNmi (s := (tick s).unstalled) hdue hsdbbp]
    let u := (tick s).unstalled
    have hcp0 := (finish_takeNmi_cp0 (tick s) u).trans
      (State.resetEntry_cp0_of (s := s) (tick_delaySlot s) (tick_pc s) (tick_status s))
    have hbytes : s.sameBytes (finish (tick s) (takeNmi u)) := fun a =>
      (finish_takeNmi_sameBytes (tick s) u a).trans (tick_physByte s a)
    exact ⟨finish_takeNmi_pc .., finish_takeNmi_delaySlot .., finish_takeNmi_nmiPending .., hcp0, (finish_takeNmi_gpr _ u).trans (tick_gpr s), (finish_takeNmi_hi _ u).trans (tick_hi s),
      (finish_takeNmi_lo _ u).trans (tick_lo s), (finish_takeNmi_fgr _ u).trans (tick_fgr s),
      (finish_takeNmi_fcr31 _ u).trans (tick_fcr31 s), (finish_takeNmi_tlb _ u).trans (tick_tlb s),
      (finish_takeNmi_icache _ u).trans (tick_icache s), (finish_takeNmi_dcache _ u).trans (tick_dcache s), hbytes⟩
  case waits =>
    have hfetch : (tick s).unstalled.sameButFetch u := Res.all_stall (State.fetchWord_sameButFetch _) hu
    refine ⟨finish (tick s) u.stall, ?_, ?_⟩
    · rw [step_eq_runStalledNmi he hp hf hn hd hs, runStalledNmi_of_stall hu]
      rfl
    · exact ⟨hfetch.pc_eq.trans (tick_pc s), hfetch.delaySlot_eq.trans (tick_delaySlot s),
        hfetch.nmiPending_eq.trans ((tick_nmiPending s).trans hn), rfl, hfetch.cp0_eq, hfetch.gpr_eq.trans (tick_gpr s)⟩
  case answered =>
    rw [step_eq_runStalledNmi he hp hf hn hd hs, runStalledNmi_of_ok hw, runNmi_eq_takeNmi hdue hsdbbp]
    rfl

end Sys2Proof.Machine
end

section
/-! SUPPORT. The debug exception: SDBBP and DERET, the entry beside another exception, and the single step and the breaks, which wait
for an instruction boundary (O35; 60_exceptions.md R660 to R665; 47_debug_other.md R520, R521). -/

-- One proof at a time: proofs elaborated side by side hold more memory.
set_option Elab.async false

namespace Sys2Proof.Machine

/-! ## The status bits due -/

theorem State.debugDue_eq (s : State) : s.debugDue = dueBits s := by
  have hbits : ∀ (b : BitVec 4) (d : Bool),
      (0#26 ++ b ++ 0#1 ++ BitVec.ofBool d : BitVec 32) = BitVec.ofNat 32 (4 * b.toNat + if d then 1 else 0) := by decide
  rw [State.debugDue, hbits, dueBits, State.stepDue]
  cases s.debugMode <;> simp

theorem debugMode_of_dueBits {s : State} (h : dueBits s ≠ 0#32) : s.debugMode = false := by
  by_contra hd
  exact h (if_pos (by simpa using hd))

theorem dueBits_of {s : State} (h : s.debugMode = false) :
    dueBits s = BitVec.ofNat 32 (4 * s.plat.breaks.toNat + if s.stepPending && s.delaySlot.isNone then 1 else 0) :=
  if_neg (by simp [h])

theorem dueBits_congr {s t : State} (hd : t.debugMode = s.debugMode) (hb : t.plat.breaks = s.plat.breaks)
    (hs : t.stepPending = s.stepPending) (hslot : t.delaySlot = s.delaySlot) : dueBits t = dueBits s := by
  rw [dueBits, dueBits, hd, hb, hs, hslot]

theorem dueBits_tick (s : State) : dueBits (tick s).unstalled = dueBits s :=
  dueBits_congr (tick_debugMode s) (tick_breaks s) (by rw [tick_eq]; rfl) (tick_delaySlot s)

/-- What is due is due still after the fetch. -/
theorem State.sameButFetch.dueBits_eq {s t : State} (h : s.sameButFetch t) : dueBits t = dueBits s :=
  dueBits_congr h.debugMode_eq h.breaks_eq h.stepPending_eq h.delaySlot_eq

/-- The bits of Debug that tell what a debug exception was (11_cp0_registers.md R102). -/
def isDebugStatus (bits : BitVec 32) : Prop := bits &&& 0x0000703F#32 = bits

theorem isDebugStatus.or {x y : BitVec 32} (hx : isDebugStatus x) (hy : isDebugStatus y) : isDebugStatus (x ||| y) := by
  rw [isDebugStatus, BitVec.and_or_distrib_right, hx, hy]

theorem isDebugStatus_oes : isDebugStatus debugOes := by rfl
theorem isDebugStatus_trs : isDebugStatus debugTrs := by rfl
theorem isDebugStatus_nis : isDebugStatus debugNis := by rfl
theorem isDebugStatus_dbp : isDebugStatus debugDbp := by rfl

theorem isDebugStatus_dueBits (s : State) : isDebugStatus (dueBits s) := by
  have hbits : ∀ (b : BitVec 4) (d : Bool), isDebugStatus (0#26 ++ b ++ 0#1 ++ BitVec.ofBool d) := by
    unfold isDebugStatus
    decide
  rw [← s.debugDue_eq]
  exact hbits ..

/-! ## The entry -/

section
variable (s : State) {bits : BitVec 32}

theorem State.debugAfter_status (h : isDebugStatus bits) : s.debugAfter bits &&& 0x0000703F#32 = bits := by
  rw [State.debugAfter, putBit_and_of_disjoint _ _ _ (by decide), BitVec.and_or_distrib_right, BitVec.and_or_distrib_right,
    and_and_of_disjoint _ (by decide), h]
  simp

theorem State.debugAfter_kept (h : isDebugStatus bits) :
    s.debugAfter bits &&& 0x3FFF8FC0#32 = s.cp0.debug &&& 0x3FFF8FC0#32 := by
  have hbits : bits &&& 0x3FFF8FC0#32 = 0#32 := by
    rw [← h]
    exact and_and_of_disjoint _ (by decide)
  rw [State.debugAfter, putBit_and_of_disjoint _ _ _ (by decide), BitVec.and_or_distrib_right, BitVec.and_or_distrib_right,
    BitVec.and_assoc, hbits]
  simp

theorem State.debugAfter_dm (bits : BitVec 32) : (s.debugAfter bits).getLsbD 30 = true := by
  rw [State.debugAfter, getLsbD_putBit_other _ _ (by decide) (by decide)]
  simp

/-- The entry of the debug exception, from a state whose other CP0 registers may have been written. -/
theorem takeDebug_enters {s v : State} {c : Cp0} (hpc : v.pc = s.pc) (hslot : v.delaySlot = s.delaySlot)
    (hparams : v.params = s.params) (hc : v.cp0 = c) (hdebug : c.debug = s.cp0.debug) (h : isDebugStatus bits) :
    entersDebugWith s (takeDebug bits v) bits c := by
  subst hc
  refine ⟨?_, v.debugAfter_dm bits, ?_, v.debugAfter_status h, ?_, ?_, rfl, rfl⟩
  · rw [← hpc, ← hslot]; rfl
  · rw [← hslot]; exact getLsbD_putBit_same _ _ (by decide)
  · rw [← hdebug]; exact v.debugAfter_kept h
  · rw [← hparams]; rfl

theorem takeException_debug (x : Exc) : (takeException x s).cp0.debug = s.cp0.debug := by rw [takeException_cp0, cp0After_eq]

theorem takeDebugWith_gpr (bits : BitVec 32) (x : Exc) : (takeDebugWith bits x s).gpr = s.gpr := rfl

theorem takeDebugWith_plat (bits : BitVec 32) (x : Exc) : (takeDebugWith bits x s).plat = s.plat := rfl

theorem takeDebugWith_enters (x : Exc) (h : isDebugStatus bits) : entersDebugBeside s (takeDebugWith bits x s) bits x := by
  have henters (status : BitVec 32) (hstatus : isDebugStatus status) :
      entersDebugWith s (takeDebug (bits ||| status) { takeException x s with pc := s.pc, delaySlot := s.delaySlot })
        (bits ||| status) (takeException x s).cp0 :=
    takeDebug_enters rfl rfl rfl rfl (takeException_debug s x) (h.or hstatus)
  cases x with
  | tlbRefill k va => exact henters _ isDebugStatus_trs
  | _ => exact henters _ isDebugStatus_oes

/-- The registers of an exception without an address come from CP0, the pc, the delay slot and the free values alone. -/
theorem cp0After_congr {s t : State} {x : Exc} (hx : x.badAddr? = none) (hcp0 : t.cp0 = s.cp0) (hpc : t.pc = s.pc)
    (hslot : t.delaySlot = s.delaySlot) (hfree : t.free = s.free) : t.cp0After x = s.cp0After x := by
  have hcause : t.causeAfter x = s.causeAfter x := by
    unfold State.causeAfter State.fresh State.exl
    rw [hcp0, hslot, hfree]
  have hbad (u : State) : u.recordBadAddr x u.cp0 = u.cp0 := by rw [State.recordBadAddr, hx]
  rw [State.cp0After, State.cp0After, hbad, hbad, hcause, State.exl, State.exl, State.restartPc, State.restartPc, hcp0, hpc, hslot]

/-- The late bus error reported beside the debug exception leaves what the entry reads. -/
theorem takeDebugWith_settleLate_enters (h : isDebugStatus bits) :
    entersDebugBeside s (takeDebugWith bits .busErrorData s.settleLate) bits .busErrorData := by
  have hcp0 : (takeException .busErrorData s.settleLate).cp0 = (takeException .busErrorData s).cp0 :=
    cp0After_congr rfl s.settleLate_cp0 s.settleLate_pc s.settleLate_delaySlot s.settleLate_free
  exact takeDebug_enters s.settleLate_pc s.settleLate_delaySlot s.settleLate_params hcp0 (takeException_debug s _)
    (h.or isDebugStatus_oes)

theorem takeDebugWithNmi_enters (h : isDebugStatus bits) : entersDebugWithNmi s (takeDebugWithNmi bits s) bits :=
  ⟨rfl, takeDebug_enters rfl rfl rfl s.resetEntry_cp0_eq rfl (h.or isDebugStatus_nis)⟩

/-- The debug exception at a boundary, with what coincides with it there. -/
theorem enterDebug_enters (h : isDebugStatus bits) :
    entersDebugAtBoundary s (enterDebug bits s) bits ∧ (s.lateError = none → (enterDebug bits s).gpr = s.gpr) := by
  unfold entersDebugAtBoundary enterDebug
  split
  · next hlate =>
    refine ⟨takeDebugWith_settleLate_enters s h, fun hnone => ?_⟩
    simp [hnone] at hlate
  · split
    · exact ⟨takeDebugWith_enters s _ h, fun _ => takeDebugWith_gpr ..⟩
    · exact ⟨takeDebug_enters rfl rfl rfl rfl rfl h, fun _ => rfl⟩

end

/-- No debug exception is due after a step that has entered one. -/
theorem finish_noneDue {s t : State} (hp : s.plat.power = .normal) (hst : t.plat.stalled = false) (hd : t.debugMode = true) :
    noneDue (finish s t) := by
  simp [noneDue, finish, hp, hst, hd]

/-! ## The step where a debug exception is due -/

section
variable {s : State} (hdue : dueBits s ≠ 0#32)

include hdue

/-- What is due leaves while the fetch has no answer. -/
theorem finish_stall_due {u : State} (hu : (tick s).unstalled.sameButFetch u) :
    dueBits (finish (tick s) u.stall) = dueBits s := by
  have hdm : s.debugMode = false := debugMode_of_dueBits hdue
  have hum : u.debugMode = false := hu.debugMode_eq.trans ((tick_debugMode s).trans hdm)
  refine dueBits_congr (hum.trans hdm.symm) ?_ ?_ (hu.delaySlot_eq.trans (tick_delaySlot s))
  · have : (finish (tick s) u.stall).plat.breaks = u.plat.breaks := if_neg (by simp [State.debugMode] at hum ⊢; simp [hum])
    exact this.trans (hu.breaks_eq.trans (tick_breaks s))
  · have : (finish (tick s) u.stall).stepPending = (tick s).stepPending := by simp [finish, State.stall]
    rw [this, tick_eq]

end

/-! ## What is due at a boundary -/

section
variable {s u : State}

/-- A boundary is reached by a fetch. -/
theorem sameButFetch_of_reachesBoundary (h : reachesBoundary s u) : (tick s).unstalled.sameButFetch u := by
  rcases h with ⟨w, hw⟩ | ⟨rfl, -⟩
  · exact Res.all_ok (State.fetchWord_sameButFetch _) hw
  · exact State.sameButFetch_refl _

theorem debugDue_of_sameButFetch (h : (tick s).unstalled.sameButFetch u) : u.debugDue = dueBits s := by
  rw [u.debugDue_eq, h.dueBits_eq, dueBits_tick]

/-- At a boundary the debug exception that is due is entered. -/
theorem runPc_of_reachesBoundary (hdue : dueBits s ≠ 0#32) (h : reachesBoundary s u) :
    runPc (tick s).unstalled = .next (enterDebug (dueBits s) u) := by
  have hu : u.debugDue = dueBits s := debugDue_of_sameButFetch (sameButFetch_of_reachesBoundary h)
  rcases h with ⟨w, hw⟩ | ⟨rfl, ⟨f, hf⟩ | ⟨r, hr⟩⟩
  · rw [runPc_of hw, runWord_debug w (hu ▸ hdue), hu]
  · simp only [runPc, hf, afterDebug, hu, if_pos hdue]
  · simp only [runPc, hr, afterDebug, hu, if_pos hdue]

/-- A waiting NMI is taken at a boundary. -/
theorem runStalledNmi_of_reachesBoundary (h : reachesBoundary s u) : runStalledNmi (tick s).unstalled = .next (runNmi u) := by
  rcases h with ⟨w, hw⟩ | ⟨rfl, ⟨f, hf⟩ | ⟨r, hr⟩⟩
  · exact runStalledNmi_of_ok hw
  · simp only [runStalledNmi, hf]
  · simp only [runStalledNmi, hr]

/-- An exception of the fetch coincides with the debug exception that is due. -/
theorem runPc_of_exc {x : Exc} (hdue : dueBits s ≠ 0#32) (h : (tick s).unstalled.fetchWord = .exc x u) :
    runPc (tick s).unstalled = .next (takeDebugWith (dueBits s) x u) := by
  have hfetch : (tick s).unstalled.sameButFetch u := Res.all_exc (State.fetchWord_sameButFetch _) h
  have hu : u.debugDue = dueBits s := debugDue_of_sameButFetch hfetch
  have hdm : u.debugMode = false := hfetch.debugMode_eq.trans ((tick_debugMode s).trans (debugMode_of_dueBits hdue))
  simp [runPc, h, hu, hdue, hdm]

theorem runNmi_of_due (hu : u.debugDue = dueBits s) (hdue : dueBits s ≠ 0#32) :
    runNmi u = takeDebugWithNmi (dueBits s) u := by
  rw [runNmi, hu, if_pos hdue]

/-- SDBBP fetched with a late bus error arrived or an interrupt pending is the debug breakpoint beside it. -/
theorem runWord_sdbbp {w : Word} {code : BitVec 20} (hu : u.debugDue = 0#32) (hdm : u.debugMode = false)
    (hw : decode w = .ok (.sdbbp code)) (h : u.interruptPending = true ∨ u.lateError.any (·.arrived) = true) :
    runWord w u = .next (enterDebug debugDbp u) := by
  have hsdbbp : isSdbbp w = true := by simp only [isSdbbp, hw]
  have hwaits (d : LoadDest) : waitsFor (.sdbbp code) u.fr d = false := rfl
  rw [runWord, if_neg (not_not.2 hu)]
  by_cases hlate : u.lateError.any (·.arrived) = true
  · obtain ⟨e, he, harrived⟩ : ∃ e, u.lateError = some e ∧ e.arrived = true := by
      cases hl : u.lateError with
      | none => simp [hl] at hlate
      | some e => exact ⟨e, rfl, by simpa [hl] using hlate⟩
    have hat : lateErrorAt w u = some u.settleLate := by simp [lateErrorAt, he, hw, hwaits, harrived]
    simp [afterLateError, hat, hdm, hsdbbp, enterDebug, hlate]
  · have hat : lateErrorAt w u = none := by
      refine lateErrorAt_eq_none.2 fun e he => ⟨by simpa [he] using hlate, fun i hi => ?_⟩
      rw [hw] at hi
      cases hi
      exact hwaits _
    have hint : u.interruptPending = true := h.resolve_right hlate
    rw [afterLateError_of _ hat, runInstr, if_pos hint, runInterrupted, if_pos hsdbbp, enterDebug, if_neg hlate, if_pos hint]

end

/-! ## Breaks from outside (60_exceptions.md R662) -/

/-- A break adds the bit of its kind to those that wait. -/
theorem dueBits_debugBreak (s : State) (k : BreakKind) :
    dueBits (debugBreak k s) = if s.params.probePresent && !s.debugMode then dueBits s ||| k.bit else dueBits s := by
  have hbits : ∀ (k : BreakKind) (b : BitVec 4) (d : Bool),
      BitVec.ofNat 32 (4 * (b ||| k.bit.extractLsb' 2 4).toNat + if d then 1 else 0) =
        BitVec.ofNat 32 (4 * b.toNat + if d then 1 else 0) ||| k.bit := by
    intro k
    cases k <;> decide
  cases hc : s.params.probePresent && !s.debugMode with
  | false => rw [debugBreak, hc]; rfl
  | true =>
    have hdm : s.debugMode = false := by simp_all
    have hbreak : debugBreak k s = { s with plat := { s.plat with breaks := s.plat.breaks ||| k.bit.extractLsb' 2 4 } } :=
      if_pos hc
    have hdm' : (debugBreak k s).debugMode = false := by rw [hbreak]; exact hdm
    rw [dueBits_of hdm', dueBits_of hdm, hbreak]
    exact hbits ..

/-! ## The obligation -/

/-- SDBBP and DERET, in debug mode and outside it. -/
theorem sdbbp_and_deret (s : State) (code : BitVec 20) :
    (s.debugMode = false →
      ∃ t, exec (.sdbbp code) s = .next t ∧ entersDebug s t 0x2#32 ∧
        t = { s with pc := t.pc, delaySlot := none, excTaken := true, cp0 := t.cp0 }) ∧
    (s.debugMode = true → exec (.sdbbp code) s = .refused .sdbbpInDebug) ∧
    (s.usable 0#2 = true → s.debugMode = true → s.delaySlot = none →
      ∃ t, exec .deret s = .next t ∧ t.pc = s.cp0.depc ∧ t.cp0.debug = s.cp0.debug &&& 0xBFFFFFFF#32 ∧
        t = { s with pc := t.pc, delaySlot := none, cp0 := { s.cp0 with debug := t.cp0.debug } }) ∧
    (s.usable 0#2 = true → s.debugMode = false → exec .deret s = .refused .deretOutsideDebug) := by
  refine ⟨fun hd => ?_, fun hd => if_pos hd, fun hu hd hs => ?_, fun hu hd => ?_⟩
  · exact ⟨_, if_neg (by simp [hd]), takeDebug_enters rfl rfl rfl rfl rfl isDebugStatus_dbp, rfl⟩
  · exact ⟨_, (needs_of hu).trans ((if_pos hd).trans (noSlot_of hs)), rfl, putBit_false_eq .., rfl⟩
  · exact (needs_of hu).trans (if_neg (by simp [hd]))

section
variable {s : State} (he : s.env.inputs = []) (hp : s.plat.power = .normal) (hf : s.plat.fetched = none)

include he hp hf

/-- While the fetch has no answer everything that is due waits. -/
theorem step_leaves_due {u : State} (hdue : dueBits s ≠ 0#32) (hu : (tick s).unstalled.fetchWord = .stall u)
    (hn : s.plat.nmiPending = false ∨ s.plat.stalled = true) :
    ∃ t, step s = .next t ∧ dueBits t = dueBits s ∧ t.plat.stalled = true ∧ t.pc = s.pc ∧ t.delaySlot = s.delaySlot ∧
      t.gpr = s.gpr ∧ t.cp0 = (tick s).cp0 := by
  have hfetch : (tick s).unstalled.sameButFetch u := Res.all_stall (State.fetchWord_sameButFetch _) hu
  refine ⟨finish (tick s) u.stall, ?_, finish_stall_due hdue hfetch, rfl, hfetch.pc_eq.trans (tick_pc s),
    hfetch.delaySlot_eq.trans (tick_delaySlot s), hfetch.gpr_eq.trans (tick_gpr s), hfetch.cp0_eq⟩
  cases hnmi : s.plat.nmiPending with
  | false => rw [step_eq_runPc he hp hf (.inl hnmi), runPc_stall hu]; rfl
  | true =>
    have hst : s.plat.stalled = true := hn.resolve_left (by simp [hnmi])
    rw [step_eq_runStalledNmi he hp hf hnmi (debugMode_of_dueBits hdue) hst, runStalledNmi_of_stall hu]
    rfl

end

/-- A step that ends in a debug exception entered from a state of the fetch leaves none due. -/
theorem noneDue_of_enters {s u v t : State} {bits : BitVec 32} {c : Cp0} (hp : s.plat.power = .normal)
    (hu : (tick s).unstalled.sameButFetch u) (hplat : t.plat.stalled = u.plat.stalled) (h : entersDebugWith v t bits c) :
    noneDue (finish (tick s) t) :=
  finish_noneDue ((tick_power s).trans hp) (hplat.trans hu.stalled_eq) h.2.1

theorem enterDebug_plat (bits : BitVec 32) (s : State) : (enterDebug bits s).plat = s.plat := by
  unfold enterDebug
  split
  · exact (takeDebugWith_plat ..).trans s.settleLate_plat
  · split
    · exact takeDebugWith_plat ..
    · rfl

/-- The entry at a boundary, whichever exception coincides, sets DM. -/
theorem entersDebugAtBoundary_enters {s t : State} {bits : BitVec 32} (h : entersDebugAtBoundary s t bits) :
    ∃ bits' c, entersDebugWith s t bits' c := by
  unfold entersDebugAtBoundary at h
  split at h
  · exact ⟨_, _, h⟩
  · split at h <;> exact ⟨_, _, h⟩

section
variable {s u : State} (he : s.env.inputs = []) (hp : s.plat.power = .normal) (hf : s.plat.fetched = none)
  (hdue : dueBits s ≠ 0#32)

include he hp hf hdue

/-- A waiting NMI coincides with the debug exception, at once or once the stalled fetch has reached a boundary. -/
theorem step_enters_withNmi (hn : s.plat.nmiPending = true)
    (h : (s.plat.stalled = false ∧ u = (tick s).unstalled) ∨ (s.plat.stalled = true ∧ reachesBoundary s u)) :
    ∃ t, step s = .next t ∧ entersDebugWithNmi u t (dueBits s) ∧ noneDue t ∧ t.gpr = s.gpr := by
  have hdm := debugMode_of_dueBits hdue
  have hstep : (tick s).unstalled.sameButFetch u ∧ step s = .next (finish (tick s) (runNmi u)) := by
    rcases h with ⟨hst, rfl⟩ | ⟨hst, hr⟩
    · exact ⟨State.sameButFetch_refl _, step_eq_runNmi he hp hf hn hdm hst⟩
    · refine ⟨sameButFetch_of_reachesBoundary hr, ?_⟩
      rw [step_eq_runStalledNmi he hp hf hn hdm hst, runStalledNmi_of_reachesBoundary hr]
      rfl
  obtain ⟨hfetch, hstep⟩ := hstep
  rw [runNmi_of_due (debugDue_of_sameButFetch hfetch) hdue] at hstep
  have henters := takeDebugWithNmi_enters u (isDebugStatus_dueBits s)
  exact ⟨_, hstep, henters, noneDue_of_enters hp hfetch rfl henters.2, hfetch.gpr_eq.trans (tick_gpr s)⟩

/-- An exception of the fetch coincides with the debug exception. -/
theorem step_enters_besideFetch {x : Exc} (hn : s.plat.nmiPending = false) (h : (tick s).unstalled.fetchWord = .exc x u) :
    ∃ t, step s = .next t ∧ entersDebugBeside u t (dueBits s) x ∧ noneDue t ∧ t.gpr = s.gpr := by
  have hfetch : (tick s).unstalled.sameButFetch u := Res.all_exc (State.fetchWord_sameButFetch _) h
  have hstep : step s = .next (finish (tick s) (takeDebugWith (dueBits s) x u)) := by
    rw [step_eq_runPc he hp hf (.inl hn), runPc_of_exc hdue h]
    rfl
  have henters := takeDebugWith_enters u x (isDebugStatus_dueBits s)
  exact ⟨_, hstep, henters, noneDue_of_enters hp hfetch rfl henters, hfetch.gpr_eq.trans (tick_gpr s)⟩

/-- At a boundary with no NMI the debug exception is entered with what coincides there. -/
theorem step_enters_atBoundary (hn : s.plat.nmiPending = false) (h : reachesBoundary s u) :
    ∃ t, step s = .next t ∧ entersDebugAtBoundary u t (dueBits s) ∧ noneDue t ∧ (u.lateError = none → t.gpr = s.gpr) := by
  have hfetch := sameButFetch_of_reachesBoundary h
  have hstep : step s = .next (finish (tick s) (enterDebug (dueBits s) u)) := by
    rw [step_eq_runPc he hp hf (.inl hn), runPc_of_reachesBoundary hdue h]
    rfl
  obtain ⟨henters, hgpr⟩ := enterDebug_enters u (isDebugStatus_dueBits s)
  obtain ⟨_, _, hwith⟩ := entersDebugAtBoundary_enters henters
  refine ⟨_, hstep, henters, noneDue_of_enters hp hfetch ?_ hwith, fun hl => ?_⟩
  · rw [enterDebug_plat]
  · exact (hgpr hl).trans (hfetch.gpr_eq.trans (tick_gpr s))

end

/-- SDBBP fetched with nothing due before it but a late bus error arrived or an interrupt pending. -/
theorem step_enters_atSdbbp {s u : State} {w : Word} {code : BitVec 20} (he : s.env.inputs = []) (hp : s.plat.power = .normal)
    (hf : s.plat.fetched = none) (hdue : dueBits s = 0#32) (hd : s.debugMode = false) (hn : s.plat.nmiPending = false)
    (h : (tick s).unstalled.fetchWord = .ok w u) (hw : decode w = .ok (.sdbbp code))
    (hbeside : u.interruptPending = true ∨ u.lateError.any (·.arrived) = true) :
    ∃ t, step s = .next t ∧ entersDebugAtBoundary u t 0x2#32 ∧ (u.lateError = none → t.gpr = s.gpr) := by
  have hfetch : (tick s).unstalled.sameButFetch u := Res.all_ok (State.fetchWord_sameButFetch _) h
  have hstep : step s = .next (finish (tick s) (enterDebug debugDbp u)) := by
    rw [step_eq_runPc he hp hf (.inl hn), runPc_of h, runWord_sdbbp ((debugDue_of_sameButFetch hfetch).trans hdue)
      (hfetch.debugMode_eq.trans ((tick_debugMode s).trans hd)) hw hbeside]
    rfl
  obtain ⟨henters, hgpr⟩ := enterDebug_enters u isDebugStatus_dbp
  exact ⟨_, hstep, henters, fun hl => (hgpr hl).trans (hfetch.gpr_eq.trans (tick_gpr s))⟩

/-- A break from outside. -/
theorem step_break {s : State} {es : List ExtEvent} {k : BreakKind} (he : s.env.inputs = .debugBreak k :: es) :
    ∃ t, step s = .next t ∧ t = { s with env := { s.env with inputs := es }, plat := { s.plat with breaks := t.plat.breaks } } ∧
      (s.debugMode = false → s.params.probePresent = true → dueBits t = dueBits s ||| k.bit) ∧
      (s.debugMode = true ∨ s.params.probePresent = false → t.plat.breaks = s.plat.breaks) := by
  have hdue := dueBits_debugBreak { s with env := { s.env with inputs := es } } k
  refine ⟨_, step_of_event he (by simp), ?_, fun hd hpr => hdue.trans (if_pos ?_), fun h => ?_⟩
  · dsimp only [applyEvent, debugBreak]
    split <;> rfl
  · exact Bool.and_eq_true_iff.2 ⟨hpr, by rw [Bool.not_eq_true']; exact hd⟩
  · have hc : ¬(s.params.probePresent && !s.debugMode) = true := by rcases h with h | h <;> simp [h]
    have hkeeps : debugBreak k { s with env := { s.env with inputs := es } } = { s with env := { s.env with inputs := es } } :=
      if_neg hc
    have hbreaks := congrArg (fun u : State => u.plat.breaks) hkeeps
    exact hbreaks

/-- Settles O35: SDBBP and DERET by debug mode; a step where something is due by what the fetch answers and whether an NMI waits; a
break by its kind. -/
theorem debugEntryAndReturn : Obligations.DebugEntryAndReturn := by
  refine ⟨sdbbp_and_deret, fun s he hp hf => ⟨fun hdue u hu hn => step_leaves_due he hp hf hdue hu hn, fun hdue hn hst => ?_,
    fun u hdue hn hst hr => step_enters_withNmi he hp hf hdue hn (.inr ⟨hst, hr⟩),
    fun x u hdue hn hx => step_enters_besideFetch he hp hf hdue hn hx,
    fun u hdue hn hr => step_enters_atBoundary he hp hf hdue hn hr,
    fun u w code hdue hd hn hw hdecode hbeside => step_enters_atSdbbp he hp hf hdue hd hn hw hdecode hbeside⟩, ?_⟩
  · exact step_enters_withNmi (u := (tick s).unstalled) he hp hf hdue hn (.inl ⟨hst, rfl⟩)
  · intro s es p hp he
    have hkind : p.2 = p.1.bit := by
      simp only [List.mem_cons, List.not_mem_nil, or_false] at hp
      rcases hp with rfl | rfl | rfl | rfl | rfl | rfl <;> rfl
    rw [hkind]
    exact step_break he

end Sys2Proof.Machine
end

section
/-! SUPPORT. The floating-point registers under the writes of the loads, the moves and the operations, and the moves, loads and stores
of coprocessor 1 (O53, O54; 45_coprocessor.md R454 to R463; 10_state.md R31 to R38). -/

-- One proof at a time: proofs elaborated side by side hold more memory.
set_option Elab.async false

namespace Sys2Proof.Machine

/-! ## Reading a floating-point register after a write -/

theorem State.fr_congr {s t : State} (h : t.cp0 = s.cp0) : t.fr = s.fr := by rw [State.fr, State.fr, h]

theorem State.fprValid_iff (s : State) (f : FpRegNum) : s.fprValid f = true ↔ s.fr = true ∨ f.getLsbD 0 = false := by
  simp [State.fprValid]

theorem fpPartner_ne {f : FpRegNum} (h : f.getLsbD 0 = false) : fpPartner f ≠ f := by
  revert f
  decide

/-- Outside a pair: neither its even FGR nor the odd partner. -/
theorem fpEven_ne {f g : FpRegNum} (hf : f.getLsbD 0 = false) (hne : g ≠ f) (hp : g ≠ fpPartner f) : fpEven g ≠ fpEven f := by
  have hself : ∀ f : FpRegNum, f.getLsbD 0 = false → fpEven f = f := by decide
  have hpair : ∀ g : FpRegNum, g = fpEven g ∨ g = fpPartner (fpEven g) := by decide
  intro he
  rw [hself f hf] at he
  rcases hpair g with h | h
  · exact hne (h.trans he)
  · exact hp (h.trans (he ▸ rfl))

section
variable (s : State) (f : FpRegNum)

/-- The low word of an FGR after a load or MTC1. -/
theorem State.fget_loadFgr_low (v : Word) : ((s.loadFgr f v).fget f).extractLsb' 0 32 = v := by
  unfold State.loadFgr State.setFgrLow
  split
  all_goals
    rw [State.fget_setFgr_same]
    exact BitVec.extractLsb'_append_eq_right

theorem State.fget_loadFgr_other {g : FpRegNum} (v : Word) (h : g ≠ f) : (s.loadFgr f v).fget g = s.fget g := by
  unfold State.loadFgr
  split
  · exact State.fget_setFgr_other _ _ h
  · exact State.fget_setFgrLow_other _ h

theorem State.loadFgr_frame (v : Word) : s.loadFgr f v = { s with fgr := (s.loadFgr f v).fgr } := by
  unfold State.loadFgr
  split <;> rfl

theorem State.fget_setFgrLow_low (v : Word) : low32 ((s.setFgrLow f v).fget f) = v := by
  rw [State.setFgrLow, State.fget_setFgr_same]
  exact BitVec.extractLsb'_append_eq_right

variable {f}

/-- The doubleword of a valid FPR number. -/
theorem State.fpr64_eq_fprDword (u : FreeUse) (h : s.fprValid f = true) : s.fpr64 f u = fprDword s f := by
  unfold State.fpr64 fprDword
  split
  · rfl
  · next hfr =>
    rw [s.fprValid_iff, or_iff_right hfr] at h
    rw [if_neg (by rw [h]; decide)]
    rfl

theorem State.fprDword_setFpr64 (v : DWord) (h : s.fprValid f = true) : fprDword (s.setFpr64 f v) f = v := by
  have hfr : (s.setFpr64 f v).fr = s.fr := State.fr_congr (s.setFpr64_cp0 f v)
  rw [fprDword, hfr]
  unfold State.setFpr64
  split
  · exact State.fget_setFgr_same ..
  · next hno =>
    rw [s.fprValid_iff, or_iff_right hno] at h
    have hne : f ||| 1#5 ≠ f := fpPartner_ne h
    rw [if_neg (by rw [h]; decide), State.fget_setFgrLow_other _ hne]
    refine (congrArg₂ _ (State.fget_setFgrLow_low _ (fpPartner f) _) (State.fget_setFgrLow_low ..)).trans ?_
    exact BitVec.extractLsb'_append_extractLsb'_eq_extractLsb' (by rfl) |>.trans (by simp)

theorem State.setFpr64_frame (f : FpRegNum) (v : DWord) : s.setFpr64 f v = { s with fgr := (s.setFpr64 f v).fgr } := by
  unfold State.setFpr64
  split
  · rfl
  · split <;> rfl

end

/-! ## Completion with a floating-point register written -/

section
variable {s u : State} {c : Word} (h : u = { s with fgr := u.fgr, fcr31 := c })

include h

/-- An instruction that goes on from a state with nothing changed but the FGRs and FCR31. -/
theorem advance_of_fprFrame :
    s.movedOn u.advance ∧ s.sameBytes u.advance ∧
      u.advance = { s with fgr := u.fgr, fcr31 := c, pc := u.advance.pc, delaySlot := u.advance.delaySlot } := by
  rw [h]
  exact ⟨⟨rfl, rfl⟩, State.sameBytes_of rfl rfl, rfl⟩

theorem sameButFpr_of_fprFrame {f : FpRegNum}
    (hother : ∀ g, g ≠ f → (s.fr = true ∨ fpEven g ≠ fpEven f) → u.fget g = s.fget g) : s.sameButFpr u.advance f := by
  refine ⟨hother, ?_, (advance_of_fprFrame h).2.1⟩
  rw [h]
  rfl

end

/-! ## The moves -/

/-- FCR31 traps by E or by a Cause bit that meets its Enable (10_state.md R45). -/
theorem fcr31Traps_iff (x : Word) :
    fcr31Traps x = true ↔ x.getLsbD 17 = true ∨ ∃ k, k < 5 ∧ x.getLsbD (12 + k) = true ∧ x.getLsbD (7 + k) = true := by
  rw [fcr31Traps, Bool.or_eq_true, bne_iff_ne, and_ne_zero_iff]
  refine or_congr_right (exists_congr fun k => and_congr_right fun hk => ?_)
  simp [hk]

/-- Settles O53: each move is one write, and CTC1 the exception if the value written traps. -/
theorem fpMoves : Obligations.FpMoves := by
  intro s rt f hu
  refine ⟨?mtc1, ?mfc1, fun h64 hvalid => ⟨?dmtc1, ?dmfc1⟩, ⟨fun hno => ?ctc1, fun htraps hd => ?ctc1Traps⟩, ?cfc1, ?fcr0⟩
  case mtc1 =>
    obtain ⟨hmoved, hbytes, hframe⟩ := advance_of_fprFrame (s.loadFgr_frame f (s.rget32 rt))
    exact ⟨_, needs_of hu, s.fget_loadFgr_low f _, fun g hg => s.fget_loadFgr_other f _ hg, hmoved, hbytes, hframe⟩
  case mfc1 =>
    rw [← sext32_low32]
    exact .of_setReg (needs_of hu)
  case dmtc1 =>
    rw [← s.fprValid_iff] at hvalid
    have hframe := s.setFpr64_frame f (s.rget rt)
    exact ⟨_, (wide_of h64).trans (needs_of hu), s.fprDword_setFpr64 _ hvalid, (advance_of_fprFrame hframe).1,
      sameButFpr_of_fprFrame hframe fun g hg hpair => State.fget_setFpr64_other _ hg hpair, s.setFpr64_fcr31 ..⟩
  case dmfc1 =>
    rw [← s.fpr64_eq_fprDword .operandA ((s.fprValid_iff f).2 hvalid)]
    exact .of_setReg ((wide_of h64).trans (needs_of hu))
  case ctc1 =>
    have hwrites : exec (.ctc1 rt 31#5) s = writeFcr31 (fcr31Legal (s.rget32 rt)) s := needs_of hu
    exact ⟨_, hwrites.trans (if_neg (mt (fcr31Traps_iff _).1 hno)), rfl, ⟨rfl, rfl⟩, State.sameBytes_of rfl rfl, rfl⟩
  case ctc1Traps =>
    have hwrites : exec (.ctc1 rt 31#5) s = writeFcr31 (fcr31Legal (s.rget32 rt)) s := needs_of hu
    exact hwrites.trans ((if_pos ((fcr31Traps_iff _).2 htraps)).trans (raise_of hd))
  case cfc1 => exact .of_setReg (needs_of hu)
  case fcr0 => exact .of_setReg (needs_of hu)

/-! ## The loads and stores -/

/-- An instruction that goes on from the emptied buffer with nothing else changed but the FGRs. -/
theorem advance_of_loaded {s u : State} (h : u = { s.drainAll with fgr := u.fgr }) :
    s.movedOn u.advance ∧ s.sameBytes u.advance ∧
      u.advance = { s with
        fgr := u.fgr, pc := u.advance.pc, delaySlot := u.advance.delaySlot, wbuf := u.wbuf, mem := u.mem } := by
  rw [h]
  exact ⟨⟨rfl, rfl⟩, s.drainAll_physByte, rfl⟩

/-- Settles O54: each load is one answered access to its register, each store one access that enters the write buffer. -/
theorem fpLoadsAndStores : Obligations.FpLoadsAndStores := by
  refine fun s ft offset base pa hu => ⟨fun hat ha => ?lwc1, fun hat ha hvalid => ?ldc1, fun hform hat => ⟨fun ha => ?swc1,
    fun ha hvalid => ?sdc1⟩⟩
  case lwc1 =>
    obtain ⟨v, hload, hv⟩ := State.load_of 4 (by decide) ha hat
    have he : exec (.lwc1 ft offset base) s = .next (s.drainAll.loadFgr ft (low32 v)).advance := by
      refine (needs_of hu).trans ?_
      rw [hload]
      rfl
    have hlow : (low32 v).toNat = s.memNat pa 4 := by
      rw [low32_toNat_of_lt (n := 4) le_rfl (by rw [hv]; exact s.memNat_lt pa 4), hv]
    obtain ⟨hmoved, hbytes, hframe⟩ := advance_of_loaded (s := s) (s.drainAll.loadFgr_frame ft (low32 v))
    refine ⟨_, he, ?_, fun g hg => s.drainAll.fget_loadFgr_other ft _ hg, hmoved, hbytes, hframe⟩
    rw [← hlow]
    exact congrArg BitVec.toNat (s.drainAll.fget_loadFgr_low ft (low32 v))
  case ldc1 =>
    obtain ⟨v, hload, hv⟩ := State.load_of 8 (by decide) ha hat
    have he : exec (.ldc1 ft offset base) s = .next (s.drainAll.setFpr64 ft v).advance := by
      refine (needs_of hu).trans ?_
      rw [hload]
      rfl
    obtain ⟨hmoved, hbytes, hframe⟩ := advance_of_loaded (s := s) (s.drainAll.setFpr64_frame ft v)
    refine ⟨_, he, ?_, fun g hg hpair => ?_, hmoved, hbytes, hframe⟩
    · rw [← hv]
      exact congrArg BitVec.toNat (s.drainAll.fprDword_setFpr64 v ((s.fprValid_iff ft).2 hvalid))
    · refine State.fget_setFpr64_other (s := s.drainAll) v hg ?_
      cases hfr : s.fr with
      | true => exact .inl hfr
      | false =>
        have hno : s.fr ≠ true := by simp [hfr]
        exact .inr (fpEven_ne (hvalid.resolve_left hno) hg (hpair.resolve_left hno))
  case swc1 =>
    obtain ⟨t, hstore, hframe, hbytes⟩ := State.store_of 4 (s.fget ft) (by decide) ha hform.1 hat
    refine .of_stored ((needs_of hu).trans ?_) hframe hbytes
    rw [storeAligned, hstore]
    rfl
  case sdc1 =>
    obtain ⟨t, hstore, hframe, hbytes⟩ := State.store_of 8 (fprDword s ft) (by decide) ha hform.1 hat
    refine .of_stored ((needs_of hu).trans ?_) hframe hbytes
    rw [s.fpr64_eq_fprDword _ ((s.fprValid_iff ft).2 hvalid), storeAligned, hstore]
    rfl

end Sys2Proof.Machine
end

section
/-! SUPPORT. The floating-point operations: what they store and record, the formats they do not have, and the compares
(O55, O56, O57; 48_fpu.md R541 to R570; 10_state.md R31 to R45). -/

-- One proof at a time: proofs elaborated side by side hold more memory.
set_option Elab.async false

namespace Sys2Proof.Machine

/-! ## An FPR written in a format -/

section
variable (s : State) {f : FpRegNum}

theorem State.fprValid_congr {t : State} (h : t.cp0 = s.cp0) (f : FpRegNum) : t.fprValid f = s.fprValid f := by
  rw [State.fprValid, State.fprValid, State.fr_congr h]

/-- A word written to a valid FPR number reads back. -/
theorem State.fpr32_setFpr32 (v : Word) (u : FreeUse) (h : s.fprValid f = true) : (s.setFpr32 f v).fpr32 f u = v := by
  rw [State.fpr32, if_pos ((s.fprValid_congr (s.setFpr32_cp0 f v) f).trans h)]
  unfold State.setFpr32
  split
  · rw [State.fget_setFgr_same]
    exact BitVec.extractLsb'_append_eq_right
  · next hfr =>
    rw [s.fprValid_iff, or_iff_right hfr] at h
    rw [if_neg (by rw [h]; decide)]
    exact State.fget_setFgrLow_low ..

theorem State.fpr64_setFpr64 (v : DWord) (u : FreeUse) (h : s.fprValid f = true) : (s.setFpr64 f v).fpr64 f u = v := by
  rw [State.fpr64_eq_fprDword _ u ((s.fprValid_congr (s.setFpr64_cp0 f v) f).trans h), s.fprDword_setFpr64 v h]

/-- A word written to an FPR leaves every FGR outside it: outside the pair while FR = 0. -/
theorem State.fget_setFpr32_other {g : FpRegNum} (v : Word) (hne : g ≠ f) (h : s.fr = true ∨ fpEven g ≠ fpEven f) :
    (s.setFpr32 f v).fget g = s.fget g := by
  unfold State.setFpr32
  split
  · exact State.fget_setFgr_other _ _ hne
  · next hfr =>
    have hpair : fpEven g ≠ fpEven f := h.resolve_left hfr
    have hpartner : g ≠ fpPartner f := fun e => hpair (by rw [e, fpEven_partner])
    have heven : g ≠ fpEven f := fun e => hpair (by rw [e, fpEven_idem])
    split
    · rw [State.spoilPair, State.fget_setFgrLow_other _ hpartner, State.fget_setFgrLow_other _ heven]
    · rw [State.fget_setFgrLow_other _ hne, State.fget_setFgrLow_other _ hpartner]

theorem State.setFpr32_frame (f : FpRegNum) (v : Word) : s.setFpr32 f v = { s with fgr := (s.setFpr32 f v).fgr } := by
  unfold State.setFpr32
  split
  · rfl
  · split <;> rfl

/-- The width of a format's encodings. -/
def fmtBits (fmt : Fmt) : Nat := if fmt = .s ∨ fmt = .w then 32 else 64

theorem State.fpRead_lt (fmt : Fmt) (f : FpRegNum) (u : FreeUse) : s.fpRead fmt f u < 2 ^ fmtBits fmt := by
  cases fmt <;> exact BitVec.isLt _

theorem State.fpRead_fpStore (fmt : Fmt) (v : Nat) (u : FreeUse) (h : s.fprValid f = true) :
    (s.fpStore fmt f v).fpRead fmt f u = v % 2 ^ fmtBits fmt := by
  cases fmt with
  | s | w => exact (congrArg BitVec.toNat (s.fpr32_setFpr32 _ u h)).trans (BitVec.toNat_ofNat ..)
  | d | l | reserved => exact (congrArg BitVec.toNat (s.fpr64_setFpr64 _ u h)).trans (BitVec.toNat_ofNat ..)

theorem State.fget_fpStore_other (fmt : Fmt) {g : FpRegNum} (v : Nat) (hne : g ≠ f) (h : s.fr = true ∨ fpEven g ≠ fpEven f) :
    (s.fpStore fmt f v).fget g = s.fget g := by
  cases fmt with
  | s | w => exact s.fget_setFpr32_other _ hne h
  | d | l | reserved => exact State.fget_setFpr64_other _ hne h

theorem State.fpStore_frame (fmt : Fmt) (f : FpRegNum) (v : Nat) :
    s.fpStore fmt f v = { s with fgr := (s.fpStore fmt f v).fgr } := by
  cases fmt with
  | s | w => exact s.setFpr32_frame ..
  | d | l | reserved => exact s.setFpr64_frame ..

end

/-! ## FCR31 after an operation -/

theorem fcr31After_records (old : Word) (flags : FpFlags) : fcr31Records old (fcr31After old flags) flags := by
  have hcause : ∀ b : BitVec 5, (b.setWidth 32 <<< 2).extractLsb' 12 6 = 0#6 := by decide
  have hflags : ∀ b : BitVec 5, (b.setWidth 32 <<< 2).extractLsb' 2 5 = b := by decide
  have hrest : ∀ b : BitVec 5, (b.setWidth 32 <<< 2) &&& 0xFFFC0F83#32 = 0#32 := by decide
  refine ⟨?cause, ?flags, ?rest⟩
  case cause =>
    rw [fcr31After, BitVec.extractLsb'_or, extractLsb'_putBits _ _ (by decide), hcause, BitVec.or_zero]
  case flags =>
    have hkept := extractLsb'_putBits_other old 12 (0#1 ++ flags.bits) (start := 2) (len := 5) (by decide) (by decide)
    rw [fcr31After, BitVec.extractLsb'_or, hkept, hflags]
  case rest =>
    rw [fcr31After, BitVec.and_or_distrib_right, putBits_and_of_disjoint _ _ _ (by decide), hrest, BitVec.or_zero]

/-! ## The end of an operation: a trap or a result -/

section
variable {i : Instr} {s : State}

/-- A floating-point trap writes the Cause field of FCR31 alone. -/
theorem trapsWithCause_of_fpTrap {cause : BitVec 6} (hd : s.debugMode = false) (h : exec i s = fpTrap cause s) :
    TrapsWithCause i s cause :=
  ⟨putBits s.fcr31 12 cause, extractLsb'_putBits _ _ (by decide), putBits_and_of_disjoint _ _ _ (by decide),
    h.trans (raise_of hd)⟩

theorem fpFinish_of_noTrap {v : Nat} {flags : FpFlags} {store : Nat → State → State} (h : flags.bits &&& s.fpEnables = 0#5) :
    fpFinish (.value v flags) s store = .next (store v { s with fcr31 := fcr31After s.fcr31 flags }).advance :=
  if_neg (not_not_intro h)

theorem fpFinish_of_trap {v : Nat} {flags : FpFlags} {store : Nat → State → State} (h : flags.bits &&& s.fpEnables ≠ 0#5) :
    fpFinish (.value v flags) s store = fpTrap (0#1 ++ flags.bits) s :=
  if_pos h

/-- An instruction that ends in step 8 of the template, storing to an FPR, delivers what its operation gives. -/
theorem fpDelivers_of_fpFinish {out : FpOut} {fmt : Fmt} {fd : FpRegNum}
    (h : exec i s = fpFinish out s fun v t => t.fpStore fmt fd v) : FpDelivers i s out fmt fd := by
  refine ⟨?stored, fun hd => ⟨?trapped, ?unimplemented⟩⟩
  case stored =>
    rintro v flags rfl hno
    let u := { s with fcr31 := fcr31After s.fcr31 flags }
    have hframe : u.fpStore fmt fd v = { s with fgr := (u.fpStore fmt fd v).fgr, fcr31 := u.fcr31 } := u.fpStore_frame ..
    have hfcr31 : (u.fpStore fmt fd v).fcr31 = u.fcr31 := by rw [hframe]
    refine ⟨(u.fpStore fmt fd v).advance, h.trans (fpFinish_of_noTrap hno), fun hvalid => u.fpRead_fpStore fmt v _ hvalid,
      ?_, (advance_of_fprFrame hframe).1, sameButFpr_of_fprFrame hframe fun g => u.fget_fpStore_other fmt v⟩
    exact hfcr31 ▸ fcr31After_records s.fcr31 flags
  case trapped =>
    rintro v flags rfl htrap
    exact trapsWithCause_of_fpTrap hd (h.trans (fpFinish_of_trap htrap))
  case unimplemented =>
    rintro rfl
    exact trapsWithCause_of_fpTrap hd h

end

/-! ## The formats an operation does not have (R541, R548) -/

section
variable {s : State} {fmt : Fmt} (hu : s.usable 1#2 = true)

include hu

section
variable (hf : floatFormat fmt = none)

include hf

theorem fpBinary_of_noFormat (op : FpFormat → FpRound → FpVal → FpVal → FpOut) (fd fs ft : FpRegNum) :
    fpBinary op fmt fd fs ft s = fpUnimplemented s := by
  rw [fpBinary, needs_of hu, hf]

theorem fpUnary_of_noFormat (op : FpFormat → FpRound → Nat → FpVal → FpOut) (fd fs : FpRegNum) :
    fpUnary op fmt fd fs s = fpUnimplemented s := by
  rw [fpUnary, needs_of hu, hf]

theorem fpToWord_of_noFormat (mode : Rounding) (fd fs : FpRegNum) : fpToWord mode fmt fd fs s = fpUnimplemented s := by
  rw [fpToWord, needs_of hu, hf]

theorem fpToLong_of_noFormat (mode : Rounding) (fd fs : FpRegNum) : fpToLong mode fmt fd fs s = fpUnimplemented s := by
  rw [fpToLong, needs_of hu, hf]

theorem fpCompare_of_noFormat (cond : BitVec 4) (fs ft : FpRegNum) : fpCompare cond fmt fs ft s = fpUnimplemented s := by
  rw [fpCompare, needs_of hu, hf]

theorem execMovFmt_of_noFormat (fd fs : FpRegNum) : execMovFmt fmt fd fs s = fpUnimplemented s := by
  rw [execMovFmt, needs_of hu, hf]

end

/-- A conversion to L without 64-bit operations is Unimplemented, whatever the format. -/
theorem fpToLong_of_no64 (h64 : s.is64bitOps = false) (mode : Rounding) (fd fs : FpRegNum) :
    fpToLong mode fmt fd fs s = fpUnimplemented s := by
  rw [fpToLong, needs_of hu]
  split
  · rfl
  · exact if_neg (by rw [h64]; decide)

end

theorem State.convertTo_of_no64 {s : State} (h64 : s.is64bitOps = false) (f : FpFormat) (fs : FpRegNum) :
    s.convertTo f .l fs = .unimplemented :=
  if_neg (by rw [h64]; decide)

/-- Settles O56: each of the forms reaches Unimplemented Operation after its usability check. -/
theorem fpUnimplementedForms : Obligations.FpUnimplementedForms := by
  intro s fmt fd fs ft hu hd
  refine ⟨fun hf => ?formats, ?cvtS, ?cvtD, fun c => ⟨?reservedS, ?reservedD⟩, fun h64 => ?long⟩
  case formats =>
    have binary := fpBinary_of_noFormat hu hf
    have unary := fpUnary_of_noFormat hu hf
    have toWord := fpToWord_of_noFormat hu hf
    have toLong := fpToLong_of_noFormat hu hf
    have compare := fpCompare_of_noFormat hu hf
    refine fun i hi => trapsWithCause_of_fpTrap hd (?_ : exec i s = fpUnimplemented s)
    revert i
    simp only [List.forall_mem_cons]
    exact ⟨binary .., binary .., binary .., binary .., unary (fun f c _ a => f.sqrt c a) fd fs,
      unary (fun f _ x _ => .exact (f.abs x)) fd fs, execMovFmt_of_noFormat hu hf .., unary (fun f _ x _ => .exact (f.neg x)) fd fs,
      toLong .., toLong .., toLong .., toLong .., toWord .., toWord .., toWord .., toWord .., toWord .., toLong ..,
      compare .., compare .., compare .., compare .., compare .., compare .., compare .., compare ..,
      compare .., compare .., compare .., compare .., compare .., compare .., compare .., compare .., List.forall_mem_nil _⟩
  case cvtS => exact trapsWithCause_of_fpTrap hd (needs_of hu)
  case cvtD => exact trapsWithCause_of_fpTrap hd (needs_of hu)
  case reservedS => exact trapsWithCause_of_fpTrap hd (needs_of hu)
  case reservedD => exact trapsWithCause_of_fpTrap hd (needs_of hu)
  case long =>
    have toLong := fpToLong_of_no64 (fmt := fmt) hu h64
    have cvtS : execCvtSFmt .l fd fs s = fpUnimplemented s := by
      rw [execCvtSFmt, needs_of hu, if_neg (by decide), State.convertTo_of_no64 h64, fpFinish]
    have cvtD : execCvtDFmt .l fd fs s = fpUnimplemented s := by
      rw [execCvtDFmt, needs_of hu, if_neg (by decide), State.convertTo_of_no64 h64, fpFinish]
    refine fun i hi => trapsWithCause_of_fpTrap hd (?_ : exec i s = fpUnimplemented s)
    revert i
    simp only [List.forall_mem_cons]
    exact ⟨toLong .., toLong .., toLong .., toLong .., toLong .., cvtS, cvtD, List.forall_mem_nil _⟩

/-! ## The compares (R570) -/

/-- The condition bit does not take part in the record of an operation. -/
theorem fcr31Records_masked {old new : Word} {flags : FpFlags} (h : fcr31Records old new flags) :
    fcr31Records (old &&& 0xFF7FFFFF#32) (new &&& 0xFF7FFFFF#32) flags := by
  obtain ⟨hcause, hflags, hrest⟩ := h
  have hcauseMask : (0xFF7FFFFF#32).extractLsb' 12 6 = BitVec.allOnes 6 := by decide
  have hflagsMask : (0xFF7FFFFF#32).extractLsb' 2 5 = BitVec.allOnes 5 := by decide
  refine ⟨?_, ?_, ?_⟩
  · rw [BitVec.extractLsb'_and, hcauseMask, BitVec.and_allOnes, hcause]
  · rw [BitVec.extractLsb'_and, BitVec.extractLsb'_and, hflagsMask, BitVec.and_allOnes, BitVec.and_allOnes, hflags]
  · have hswap : ∀ x : Word, x &&& 0xFF7FFFFF#32 &&& 0xFFFC0F83#32 = x &&& 0xFFFC0F83#32 &&& 0xFF7FFFFF#32 := fun x => by ac_rfl
    rw [hswap, hswap, hrest]

theorem condHolds_eq (k : BitVec 4) (r : FpRelation) : condHolds k r = fpConditionHolds k.toNat r := by
  cases r <;> revert k <;> decide

theorem condInvalid_eq (k : BitVec 4) (a b : FpVal) :
    condInvalid k a b = decide (a = .nan true ∨ b = .nan true ∨ (8 ≤ k.toNat ∧ a.relation b = .unordered)) := by
  have hk : k.getLsbD 3 = decide (8 ≤ k.toNat) := by revert k; decide
  rw [condInvalid, hk]
  simp only [Bool.decide_or, Bool.decide_and, Bool.or_assoc, Bool.beq_eq_decide_eq]

/-- Invalid alone meets the Enables in its own bit. -/
theorem invalidBits_and_ne_zero_iff (invalid : Bool) (enables : BitVec 5) :
    { FpFlags.none with v := invalid }.bits &&& enables ≠ 0#5 ↔ invalid = true ∧ enables.getLsbD 4 = true := by
  revert invalid enables
  decide

/-- Each of the sixteen forms is the compare of its number. -/
theorem exec_eq_fpCompare (s : State) (fmt : Fmt) (fs ft : FpRegNum) :
    ∀ p ∈ [(0, Instr.cFFmt fmt fs ft), (1, .cUnFmt fmt fs ft), (2, .cEqFmt fmt fs ft), (3, .cUeqFmt fmt fs ft),
        (4, .cOltFmt fmt fs ft), (5, .cUltFmt fmt fs ft), (6, .cOleFmt fmt fs ft), (7, .cUleFmt fmt fs ft),
        (8, .cSfFmt fmt fs ft), (9, .cNgleFmt fmt fs ft), (10, .cSeqFmt fmt fs ft), (11, .cNglFmt fmt fs ft),
        (12, .cLtFmt fmt fs ft), (13, .cNgeFmt fmt fs ft), (14, .cLeFmt fmt fs ft), (15, .cNgtFmt fmt fs ft)],
      ∃ k : BitVec 4, k.toNat = p.1 ∧ exec p.2 s = fpCompare k fmt fs ft s := by
  simp only [List.forall_mem_cons]
  exact ⟨⟨0#4, rfl, rfl⟩, ⟨1#4, rfl, rfl⟩, ⟨2#4, rfl, rfl⟩, ⟨3#4, rfl, rfl⟩, ⟨4#4, rfl, rfl⟩, ⟨5#4, rfl, rfl⟩,
    ⟨6#4, rfl, rfl⟩, ⟨7#4, rfl, rfl⟩, ⟨8#4, rfl, rfl⟩, ⟨9#4, rfl, rfl⟩, ⟨10#4, rfl, rfl⟩, ⟨11#4, rfl, rfl⟩,
    ⟨12#4, rfl, rfl⟩, ⟨13#4, rfl, rfl⟩, ⟨14#4, rfl, rfl⟩, ⟨15#4, rfl, rfl⟩, List.forall_mem_nil _⟩

/-- Settles O57: each form is the compare of its number, which ends as the template says with Invalid as its one flag. -/
theorem fpCompares : Obligations.FpCompares := by
  intro s fmt f fs ft cond i hf hu hi a b invalid
  obtain ⟨k, rfl, hexec⟩ := exec_eq_fpCompare s fmt fs ft _ hi
  have hinvalid : condInvalid k a b = decide invalid := condInvalid_eq k a b
  have hfinish : exec i s = fpFinish (.value 0 { FpFlags.none with v := decide invalid }) s fun _ t =>
      { t with fcr31 := putBit t.fcr31 23 (condHolds k (a.relation b)) } := by
    rw [hexec, fpCompare, needs_of hu, hf, ← hinvalid]
  have htraps := invalidBits_and_ne_zero_iff (decide invalid) s.fpEnables
  rw [decide_eq_true_iff] at htraps
  constructor
  · intro hno
    refine ⟨_, hfinish.trans (fpFinish_of_noTrap (not_not.1 (mt htraps.1 hno))), ?_, ?_, ⟨rfl, rfl⟩,
      State.sameBytes_of rfl rfl, rfl⟩
    · exact (getLsbD_putBit_same _ _ (by decide)).trans (condHolds_eq k _)
    · have hmask := putBit_and_of_disjoint (fcr31After s.fcr31 { FpFlags.none with v := decide invalid }) 23
        (condHolds k (a.relation b)) (m := 0xFF7FFFFF#32) (by decide)
      exact hmask ▸ fcr31Records_masked (fcr31After_records s.fcr31 _)
  · intro hyes henable hd
    have htrap := trapsWithCause_of_fpTrap hd (hfinish.trans (fpFinish_of_trap (htraps.2 ⟨hyes, henable⟩)))
    rw [decide_eq_true hyes] at htrap
    exact htrap

/-! ## The screening of the operands (R544) -/

section
variable {f : FpFormat}

theorem isInvalid_invalid (hf : f = fpSingle ∨ f = fpDouble) : isInvalid f f.invalid := by
  rcases hf with rfl | rfl <;> rfl

theorem floatFormat_eq {fmt : Fmt} (h : floatFormat fmt = some f) : f = fpSingle ∨ f = fpDouble := by
  cases fmt <;> cases h
  · exact .inl rfl
  · exact .inr rfl

theorem FpFormat.one_lt_two_pow_expBits (hf : f = fpSingle ∨ f = fpDouble) : 1 < 2 ^ f.expBits := by
  rcases hf with rfl | rfl <;> decide

theorem FpFormat.unpack_unimplemented_iff (hf : f = fpSingle ∨ f = fpDouble) (x : Nat) :
    (f.unpack x).unimplemented = true ↔ isUnimplementedOperand f x := by
  have hexp := FpFormat.one_lt_two_pow_expBits hf
  simp only [isUnimplementedOperand, fpFields, FpFormat.unpack]
  split
  · next hmax =>
    rw [hmax]
    split
    · next hzero => simp [FpOperand.unimplemented, hzero]
    · next hfrac => simp [FpOperand.unimplemented, hfrac]; omega
  · next hmax =>
    split
    · next hzero => simp [FpOperand.unimplemented, hzero]; omega
    · next hzero => simp [FpOperand.unimplemented, hzero, hmax]

theorem FpFormat.unpack_signaling_iff (x : Nat) : (f.unpack x).signaling = true ↔ isSignalingOperand f x := by
  simp only [isSignalingOperand, fpFields, FpFormat.unpack]
  split
  · next hmax =>
    split
    · next hzero => simp [FpOperand.signaling, hzero]
    · next hfrac => simp [FpOperand.signaling, hmax]
  · next hmax => split <;> simp [FpOperand.signaling, hmax]

/-- The model's screening is the one of the statement. -/
theorem screened_screen {g : FpFormat} (hf : f = fpSingle ∨ f = fpDouble) (hg : g = fpSingle ∨ g = fpDouble)
    (operands : List Nat) (k : FpOut) : screened f g operands k (g.screen (operands.map f.unpack) k) := by
  have hunimplemented : (operands.map f.unpack).any FpOperand.unimplemented = true ↔
      ∃ x ∈ operands, isUnimplementedOperand f x := by
    simp only [List.any_map, List.any_eq_true, Function.comp, FpFormat.unpack_unimplemented_iff hf]
  have hsignaling : (operands.map f.unpack).any FpOperand.signaling = true ↔ ∃ x ∈ operands, isSignalingOperand f x := by
    simp only [List.any_map, List.any_eq_true, Function.comp, FpFormat.unpack_signaling_iff]
  unfold FpFormat.screen
  refine ⟨fun h => if_pos (hunimplemented.2 h), fun hno => ?_⟩
  rw [if_neg (mt hunimplemented.1 (by push Not; exact hno))]
  refine ⟨fun h => ?_, fun hnone => if_neg (mt hsignaling.1 (by push Not; exact hnone))⟩
  rw [if_pos (hsignaling.2 h)]
  exact isInvalid_invalid hg

/-- An operation that screens its operands and ends as the template says. -/
theorem fpDeliversScreened_of_fpFinish {i : Instr} {s : State} {g : FpFormat} {operands : List Nat} {k : FpOut} {fmt : Fmt}
    {fd : FpRegNum} (hf : f = fpSingle ∨ f = fpDouble) (hg : g = fpSingle ∨ g = fpDouble)
    (h : exec i s = fpFinish (g.screen (operands.map f.unpack) k) s fun v t => t.fpStore fmt fd v) :
    FpDeliversScreened i s f g operands k fmt fd :=
  ⟨_, screened_screen hf hg operands k, fpDelivers_of_fpFinish h⟩

end

/-! ## The operations (R550 to R569) -/

section
variable {s : State} {fmt : Fmt} {f : FpFormat} (hf : floatFormat fmt = some f) (hu : s.usable 1#2 = true)

include hf hu

theorem fpBinary_of_format (op : FpFormat → FpRound → FpVal → FpVal → FpOut) (fd fs ft : FpRegNum) :
    fpBinary op fmt fd fs ft s =
      fpFinish (f.screen ([s.fpRead fmt fs .operandA, s.fpRead fmt ft .operandB].map f.unpack)
        (op f s.fpRound (f.unpack (s.fpRead fmt fs .operandA)).val (f.unpack (s.fpRead fmt ft .operandB)).val)) s
        fun v t => t.fpStore fmt fd v := by
  rw [fpBinary, needs_of hu, hf]
  rfl

theorem fpUnary_of_format (op : FpFormat → FpRound → Nat → FpVal → FpOut) (fd fs : FpRegNum) :
    fpUnary op fmt fd fs s =
      fpFinish (f.screen ([s.fpRead fmt fs .operandA].map f.unpack)
        (op f s.fpRound (s.fpRead fmt fs .operandA) (f.unpack (s.fpRead fmt fs .operandA)).val)) s
        fun v t => t.fpStore fmt fd v := by
  rw [fpUnary, needs_of hu, hf]
  rfl

theorem fpToWord_of_format (mode : Rounding) (fd fs : FpRegNum) :
    fpToWord mode fmt fd fs s =
      fpFinish (toFixed 32 mode (f.unpack (s.fpRead fmt fs .operandA))) s fun v t => t.fpStore .w fd v := by
  rw [fpToWord, needs_of hu, hf]

theorem fpToLong_of_format (h64 : s.is64bitOps = true) (mode : Rounding) (fd fs : FpRegNum) :
    fpToLong mode fmt fd fs s =
      fpFinish (toFixed 64 mode (f.unpack (s.fpRead fmt fs .operandA))) s fun v t => t.fpStore .l fd v := by
  rw [fpToLong, needs_of hu, hf]
  exact if_pos h64

/-- MOV copies an FPR and leaves FCR31 (R556). -/
theorem execMovFmt_copies (fd fs : FpRegNum) :
    ∃ t, execMovFmt fmt fd fs s = .next t ∧
      (s.fprValid fd = true → t.fpRead fmt fd .operandA = s.fpRead fmt fs .operandA) ∧ t.fcr31 = s.fcr31 ∧ s.movedOn t ∧
      s.sameButFpr t fd := by
  let x := s.fpRead fmt fs .operandA
  have hexec : execMovFmt fmt fd fs s = .next (s.fpStore fmt fd x).advance := by
    rw [execMovFmt, needs_of hu, hf]
  have hframe : s.fpStore fmt fd x = { s with fgr := (s.fpStore fmt fd x).fgr, fcr31 := s.fcr31 } := s.fpStore_frame ..
  have hfcr31 : (s.fpStore fmt fd x).fcr31 = s.fcr31 := by rw [hframe]
  refine ⟨_, hexec, fun hvalid => ?_, hfcr31, (advance_of_fprFrame hframe).1,
    sameButFpr_of_fprFrame hframe fun g => s.fget_fpStore_other fmt x⟩
  exact (s.fpRead_fpStore fmt x _ hvalid).trans (Nat.mod_eq_of_lt (s.fpRead_lt ..))

end

theorem execCvtSFmt_of_ne {s : State} {fmt : Fmt} (hu : s.usable 1#2 = true) (h : fmt ≠ .s) (fd fs : FpRegNum) :
    execCvtSFmt fmt fd fs s = fpFinish (s.convertTo fpSingle fmt fs) s fun v t => t.fpStore .s fd v :=
  (needs_of hu).trans (if_neg h)

theorem execCvtDFmt_of_ne {s : State} {fmt : Fmt} (hu : s.usable 1#2 = true) (h : fmt ≠ .d) (fd fs : FpRegNum) :
    execCvtDFmt fmt fd fs s = fpFinish (s.convertTo fpDouble fmt fs) s fun v t => t.fpStore .d fd v :=
  (needs_of hu).trans (if_neg h)

theorem State.convertTo_long {s : State} (h64 : s.is64bitOps = true) (f : FpFormat) (fs : FpRegNum) :
    s.convertTo f .l fs = f.ofInt s.fpRound (s.fpr64 fs .operandA).toInt :=
  if_pos h64

/-- Settles O55: each operation is of one of the shapes of the template, with its operation on the operands. -/
theorem fpOperations : Obligations.FpOperations := by
  intro s fmt f fd fs ft hf hu x y a b sign modes
  have hformat := floatFormat_eq hf
  have single : fpSingle = fpSingle ∨ fpSingle = fpDouble := .inl rfl
  have double : fpDouble = fpSingle ∨ fpDouble = fpDouble := .inr rfl
  have binary := fun op => fpBinary_of_format hf hu op fd fs ft
  have unary := fun op => fpUnary_of_format hf hu op fd fs
  have toWord := fun mode => fpToWord_of_format hf hu mode fd fs
  have toLong := fun h64 mode => fpToLong_of_format hf hu h64 mode fd fs
  refine ⟨fpDeliversScreened_of_fpFinish hformat hformat (binary _), fpDeliversScreened_of_fpFinish hformat hformat (binary _),
    fpDeliversScreened_of_fpFinish hformat hformat (binary _), fpDeliversScreened_of_fpFinish hformat hformat (binary _),
    fpDeliversScreened_of_fpFinish hformat hformat (unary fun f c _ a => f.sqrt c a),
    fpDeliversScreened_of_fpFinish hformat hformat (unary fun f _ x _ => .exact (f.abs x)),
    fpDeliversScreened_of_fpFinish hformat hformat (unary fun f _ x _ => .exact (f.neg x)),
    execMovFmt_copies hf hu fd fs, ?toWord, fpDelivers_of_fpFinish (toWord _), fun h64 => ⟨?toLong,
    fpDelivers_of_fpFinish (toLong h64 _), ?longToSingle, ?longToDouble⟩,
    fpDelivers_of_fpFinish (execCvtSFmt_of_ne hu (by decide) fd fs), fpDelivers_of_fpFinish (execCvtDFmt_of_ne hu (by decide) fd fs),
    ?doubleToSingle, ?singleToDouble⟩
  case toWord =>
    simp only [modes, List.zip_cons_cons, List.zip_nil_right, List.forall_mem_cons]
    exact ⟨fpDelivers_of_fpFinish (toWord _), fpDelivers_of_fpFinish (toWord _), fpDelivers_of_fpFinish (toWord _),
      fpDelivers_of_fpFinish (toWord _), List.forall_mem_nil _⟩
  case toLong =>
    simp only [modes, List.zip_cons_cons, List.zip_nil_right, List.forall_mem_cons]
    exact ⟨fpDelivers_of_fpFinish (toLong h64 _), fpDelivers_of_fpFinish (toLong h64 _), fpDelivers_of_fpFinish (toLong h64 _),
      fpDelivers_of_fpFinish (toLong h64 _), List.forall_mem_nil _⟩
  case longToSingle =>
    rw [← State.convertTo_long h64]
    exact fpDelivers_of_fpFinish (execCvtSFmt_of_ne hu (by decide) fd fs)
  case longToDouble =>
    rw [← State.convertTo_long h64]
    exact fpDelivers_of_fpFinish (execCvtDFmt_of_ne hu (by decide) fd fs)
  case doubleToSingle =>
    rintro rfl
    cases hf
    exact fpDeliversScreened_of_fpFinish double single (execCvtSFmt_of_ne hu (by decide) fd fs)
  case singleToDouble =>
    rintro rfl
    cases hf
    exact fpDeliversScreened_of_fpFinish single double (execCvtDFmt_of_ne hu (by decide) fd fs)

end Sys2Proof.Machine
end

section
/-! SUPPORT. The floating-point operations against the real numbers (O58; 48_fpu.md R543 to R570): the real number of a signed
magnitude, each operation as a rounding of the real result, and the rounding itself in integers. -/

-- One proof at a time: proofs elaborated side by side hold more memory.
set_option Elab.async false

namespace Sys2Proof.Machine

/-! ## The real number of a signed magnitude -/

/-- The real number a finite value stands for, as `isReal` reads it. -/
noncomputable def finReal (neg : Bool) (m : Nat) (e : Int) : ℝ := (if neg then -1 else 1) * (m : ℝ) * (2 : ℝ) ^ e

section
variable (p q : Bool) (m n : Nat) (d e : Int)

theorem isReal_fin_iff (x : ℝ) : isReal (.fin p m d) x ↔ x = finReal p m d := by
  constructor
  · rintro ⟨_, _, _, ⟨⟩, h⟩
    exact h
  · exact fun h => ⟨p, m, d, rfl, h⟩

theorem abs_finReal : |finReal p m d| = m * (2 : ℝ) ^ d := by
  have hnonneg : 0 ≤ (m : ℝ) * (2 : ℝ) ^ d := by positivity
  cases p <;> simp [finReal, abs_of_nonneg hnonneg]

theorem finReal_eq_zero_iff : finReal p m d = 0 ↔ m = 0 := by
  have hpow : (2 : ℝ) ^ d ≠ 0 := by positivity
  rw [← abs_eq_zero, abs_finReal, mul_eq_zero, or_iff_left hpow, Nat.cast_eq_zero]

theorem signedInt_cast : ((signedInt p m : ℤ) : ℝ) = (if p then -1 else 1) * (m : ℝ) := by
  cases p <;> simp [signedInt]

theorem finReal_eq_signedInt : finReal p m d = (signedInt p m : ℤ) * (2 : ℝ) ^ d := by
  rw [signedInt_cast, finReal]

theorem finReal_lt_zero_iff : finReal p m d < 0 ↔ p = true ∧ m ≠ 0 := by
  have hpow : (0 : ℝ) < 2 ^ d := by positivity
  rw [finReal_eq_signedInt, mul_neg_iff, and_iff_left hpow, or_iff_right (fun h => hpow.not_gt h.2), Int.cast_lt_zero]
  cases p <;> simp [signedInt, Nat.pos_iff_ne_zero]

theorem finReal_mul : finReal p m d * finReal q n e = finReal (p ^^ q) (m * n) (d + e) := by
  rw [finReal, finReal, finReal, zpow_add₀ two_ne_zero]
  cases p <;> cases q <;> push_cast <;> simp <;> ring

theorem finReal_not : finReal (!p) m d = -finReal p m d := by
  cases p <;> simp [finReal]

variable {d}

/-- A signed magnitude in units of a lower power of two. -/
theorem finReal_eq_scaled {low : Int} (h : low ≤ d) :
    finReal p m d = ((signedInt p m * 2 ^ (d - low).toNat : ℤ) : ℝ) * (2 : ℝ) ^ low := by
  have hpow : (2 : ℝ) ^ d = 2 ^ (d - low).toNat * (2 : ℝ) ^ low := by
    rw [← zpow_natCast, ← zpow_add₀ two_ne_zero, Int.toNat_of_nonneg (by omega), sub_add_cancel]
  rw [finReal_eq_signedInt, hpow]
  push_cast
  ring

end

theorem finReal_natAbs (n : Int) (e : Int) : finReal (decide (n < 0)) n.natAbs e = n * (2 : ℝ) ^ e := by
  have hsigned : signedInt (decide (n < 0)) n.natAbs = n := by
    rw [signedInt]
    split
    · next h =>
      have := of_decide_eq_true h
      omega
    · next h =>
      have := of_decide_eq_false (Bool.eq_false_iff.2 h)
      omega
  rw [finReal_eq_signedInt, hsigned]

/-! ## Integer quotients and roots -/

/-- The bits found one at a time are those of the integer square root. -/
theorem sqrtBits_eq_sqrt (n : Nat) : ∀ (k r : Nat), r * r ≤ n → n < (r + 2 ^ k) * (r + 2 ^ k) → sqrtBits n k r = Nat.sqrt n
  | 0, r, hlow, hhigh => Nat.eq_sqrt.2 ⟨hlow, hhigh⟩
  | k + 1, r, hlow, hhigh => by
    unfold sqrtBits
    split
    · next h =>
      refine sqrtBits_eq_sqrt n k _ h (hhigh.trans_eq ?_)
      ring
    · next h => exact sqrtBits_eq_sqrt n k r hlow (not_le.1 h)

/-- An integer quotient against the real one: one less at most, and equal when nothing is left over. -/
theorem natDiv_bounds (a : Nat) {n : Nat} (hn : n ≠ 0) :
    ((a / n : ℕ) : ℝ) ≤ a / n ∧ (a : ℝ) / n < (a / n : ℕ) + 1 ∧ ((a % n != 0) = false ↔ (a : ℝ) / n = (a / n : ℕ)) := by
  have hpos : (0 : ℝ) < n := by positivity
  have hsplit : (a : ℝ) = (a / n : ℕ) * n + (a % n : ℕ) := by exact_mod_cast (Nat.div_add_mod' a n).symm
  have hrest : ((a % n : ℕ) : ℝ) < n := by exact_mod_cast Nat.mod_lt _ (Nat.pos_of_ne_zero hn)
  have hquot : (a : ℝ) / n = (a / n : ℕ) + (a % n : ℕ) / n := by
    conv_lhs => rw [hsplit, add_div, mul_div_cancel_right₀ _ hpos.ne']
  refine ⟨?_, ?_, ?_⟩
  · rw [hquot, le_add_iff_nonneg_right]
    positivity
  · rwa [hquot, add_lt_add_iff_left, div_lt_one hpos]
  · rw [hquot, add_eq_left, div_eq_zero_iff, or_iff_left hpos.ne', Nat.cast_eq_zero]
    simp

/-- An integer square root against the real one. -/
theorem natSqrt_bounds (n : Nat) : (Nat.sqrt n : ℝ) ≤ √n ∧ √n < Nat.sqrt n + 1 ∧
    ((Nat.sqrt n * Nat.sqrt n != n) = false ↔ √(n : ℝ) = Nat.sqrt n) := by
  refine ⟨Real.nat_sqrt_le_real_sqrt, Real.real_sqrt_lt_nat_sqrt_succ, ?_⟩
  rw [bne_eq_false_iff_eq, Real.sqrt_eq_iff_mul_self_eq (by positivity) (by positivity)]
  exact_mod_cast eq_comm

/-! ## Exact magnitudes rounded -/

section
variable {f : FpFormat} (hf : f = fpSingle ∨ f = fpDouble) (c : FpRound)

include hf

theorem FpFormat.round_delivers_finReal {neg : Bool} {m : Nat} (hm : m ≠ 0) (e : Int) :
    deliversReal f c (finReal neg m e) (f.round c neg m e false) := by
  have hpow : (0 : ℝ) < 2 ^ e := by positivity
  have hneg : neg = decide (finReal neg m e < 0) := by
    rw [Bool.eq_iff_iff, decide_eq_true_iff, finReal_lt_zero_iff, and_iff_left hm]
  have habs := abs_finReal neg m e
  refine round_delivers hf c (mt (finReal_eq_zero_iff ..).1 hm) hneg (Nat.pos_of_ne_zero hm) habs.ge ?_ (by simp [habs]) (by simp)
  rw [habs]
  exact mul_lt_mul_of_pos_right (by linarith) hpow

theorem FpFormat.roundExact_delivers (neg : Bool) (m : Nat) (e : Int) :
    deliversOrZero f c (finReal neg m e) neg (f.roundExact c neg m e) := by
  unfold FpFormat.roundExact
  constructor
  · intro hx
    have hm : m ≠ 0 := mt (finReal_eq_zero_iff neg m e).2 hx
    rw [if_neg hm]
    exact FpFormat.round_delivers_finReal hf c hm e
  · intro hx
    rw [if_pos ((finReal_eq_zero_iff neg m e).1 hx)]
    exact isZero_zero hf neg

/-- A conversion from an integer (R566, R567). -/
theorem FpFormat.ofInt_delivers (n : Int) : deliversOrZero f c n false (f.ofInt c n) := by
  have h := FpFormat.roundExact_delivers hf c (decide (n < 0)) n.natAbs 0
  rw [finReal_natAbs, zpow_zero, mul_one] at h
  refine ⟨h.1, fun hn => ?_⟩
  obtain rfl : n = 0 := by exact_mod_cast hn
  exact h.2 hn

/-! ## The operations on finite operands (R550 to R554) -/

section
variable (p q : Bool) (m n : Nat) (d e : Int)

theorem FpFormat.add_delivers : deliversOrZero f c (finReal p m d + finReal q n e) (if p = q then p else c.mode == .down)
    (f.add c (.fin p m d) (.fin q n e)) := by
  let low := min d e
  let sum := signedInt p m * 2 ^ (d - low).toNat + signedInt q n * 2 ^ (e - low).toNat
  have hreal : finReal p m d + finReal q n e = (sum : ℝ) * (2 : ℝ) ^ low := by
    rw [finReal_eq_scaled p m (min_le_left d e), finReal_eq_scaled q n (min_le_right d e), ← add_mul, ← Int.cast_add]
  have hzero : (sum : ℝ) * (2 : ℝ) ^ low = 0 ↔ sum = 0 := by
    rw [mul_eq_zero, or_iff_left (by positivity), Int.cast_eq_zero]
  have hadd : f.add c (.fin p m d) (.fin q n e) =
      if sum = 0 then .exact (f.zero (if p = q then p else c.mode = .down))
      else f.round c (decide (sum < 0)) sum.natAbs low false := rfl
  rw [hreal, hadd, deliversOrZero, Ne, hzero]
  constructor
  · intro hne
    rw [if_neg hne, ← finReal_natAbs]
    exact FpFormat.round_delivers_finReal hf c (Int.natAbs_ne_zero.2 hne) low
  · intro h0
    rw [if_pos h0, Bool.beq_eq_decide_eq]
    exact isZero_zero hf _

theorem FpFormat.sub_delivers : deliversOrZero f c (finReal p m d - finReal q n e) (if p ≠ q then p else c.mode == .down)
    (f.sub c (.fin p m d) (.fin q n e)) := by
  have h := FpFormat.add_delivers hf c p (!q) m n d e
  have hsign : p = !q ↔ p ≠ q := by cases p <;> cases q <;> decide
  simp only [finReal_not, ← sub_eq_add_neg, hsign] at h
  exact h

theorem FpFormat.mul_delivers : deliversOrZero f c (finReal p m d * finReal q n e) (p ^^ q)
    (f.mul c (.fin p m d) (.fin q n e)) := by
  rw [finReal_mul]
  exact FpFormat.roundExact_delivers hf c ..

/-- The quotient: `guardBits` more bits of it than the operands hold, and whether anything is left over (R553). -/
theorem FpFormat.div_delivers (hn0 : n ≠ 0) (hn : n < 2 ^ f.prec) :
    deliversOrZero f c (finReal p m d / finReal q n e) (p ^^ q) (f.div c (.fin p m d) (.fin q n e)) := by
  have hy0 : finReal q n e ≠ 0 := mt (finReal_eq_zero_iff ..).1 hn0
  have hzero : finReal p m d / finReal q n e = 0 ↔ m = 0 := by
    rw [div_eq_zero_iff, or_iff_left hy0, finReal_eq_zero_iff]
  let scaled := m * 2 ^ f.guardBits
  have hdiv : f.div c (.fin p m d) (.fin q n e) =
      if m = 0 then .exact (f.zero (p ^^ q))
      else f.round c (p ^^ q) (scaled / n) (d - e - f.guardBits) (scaled % n != 0) := if_neg hn0
  rw [hdiv]
  refine ⟨fun hx => ?_, fun hx => ?_⟩
  · have hm : m ≠ 0 := mt hzero.2 hx
    rw [if_neg hm]
    have hpow : (0 : ℝ) < 2 ^ (d - e - f.guardBits) := by positivity
    have habs : |finReal p m d / finReal q n e| = (scaled : ℝ) / n * (2 : ℝ) ^ (d - e - f.guardBits) := by
      have hguard : (2 : ℝ) ^ (d - e) = 2 ^ f.guardBits * (2 : ℝ) ^ (d - e - f.guardBits) := by
        rw [← zpow_natCast, ← zpow_add₀ two_ne_zero, add_sub_cancel]
      have hscaled : (scaled : ℝ) = m * 2 ^ f.guardBits := by exact_mod_cast rfl
      rw [abs_div, abs_finReal, abs_finReal, mul_div_mul_comm, ← zpow_sub₀ two_ne_zero, hguard, hscaled]
      ring
    obtain ⟨hlow, hhigh, hexact⟩ := natDiv_bounds scaled hn0
    have hlarge : 2 ^ (f.fracBits + 2) ≤ scaled / n := by
      rw [Nat.le_div_iff_mul_le (Nat.pos_of_ne_zero hn0)]
      calc 2 ^ (f.fracBits + 2) * n ≤ 2 ^ (f.fracBits + 2) * 2 ^ f.prec := Nat.mul_le_mul_left _ hn.le
        _ = 2 ^ (f.fracBits + 2 + f.prec) := (pow_add ..).symm
        _ ≤ 2 ^ f.guardBits := Nat.pow_le_pow_right (by decide) (by rw [FpFormat.guardBits, FpFormat.prec]; omega)
        _ ≤ scaled := Nat.le_mul_of_pos_left _ (Nat.pos_of_ne_zero hm)
    have hsign : (p ^^ q) = decide (finReal p m d / finReal q n e < 0) := by
      rw [Bool.eq_iff_iff, decide_eq_true_iff, div_neg_iff, ← mul_neg_iff, finReal_mul, finReal_lt_zero_iff,
        and_iff_left (mul_ne_zero hm hn0)]
    refine round_delivers hf c hx hsign (Nat.lt_of_lt_of_le (by positivity) hlarge) ?_ ?_ ?_ fun _ => hlarge
    · exact habs ▸ mul_le_mul_of_nonneg_right hlow hpow.le
    · exact habs ▸ mul_lt_mul_of_pos_right hhigh hpow
    · rw [habs, mul_left_inj' hpow.ne', hexact]
  · rw [if_pos (hzero.1 hx)]
    exact isZero_zero hf _

/-- The square root: of a magnitude with an even exponent, to twice the format's precision (R554). -/
theorem FpFormat.sqrt_delivers (hm : m < 2 ^ f.prec) (hnormal : m ≠ 0 → 2 ^ f.fracBits ≤ m) (hx : 0 ≤ finReal p m d) :
    deliversOrZero f c (√(finReal p m d)) p (f.sqrt c (.fin p m d)) := by
  have hzero : √(finReal p m d) = 0 ↔ m = 0 := by rw [Real.sqrt_eq_zero hx, finReal_eq_zero_iff]
  by_cases hm0 : m = 0
  · have hsqrt : f.sqrt c (.fin p m d) = .exact (f.zero p) := if_pos hm0
    rw [hsqrt]
    exact ⟨fun h => absurd (hzero.2 hm0) h, fun _ => isZero_zero hf p⟩
  obtain rfl : p = false := by
    by_contra hp
    exact hx.not_gt ((finReal_lt_zero_iff ..).2 ⟨by simpa using hp, hm0⟩)
  let odd := (d % 2).toNat
  let n := m * 2 ^ (odd + 2 * f.prec)
  let half := (d - odd) / 2 - f.prec
  have hodd : (odd : ℤ) = d % 2 := Int.toNat_of_nonneg (Int.emod_nonneg _ (by decide))
  have hn : n < (0 + 2 ^ (2 * f.prec)) * (0 + 2 ^ (2 * f.prec)) := by
    have hprec : 1 ≤ f.prec := by rw [FpFormat.prec]; omega
    calc n < 2 ^ f.prec * 2 ^ (odd + 2 * f.prec) := Nat.mul_lt_mul_of_pos_right hm (by positivity)
      _ = 2 ^ (f.prec + (odd + 2 * f.prec)) := (pow_add ..).symm
      _ ≤ 2 ^ (2 * f.prec + 2 * f.prec) := Nat.pow_le_pow_right (by decide) (by omega)
      _ = _ := by rw [zero_add, pow_add]
  have hsqrt : f.sqrt c (.fin false m d) = f.round c false (Nat.sqrt n) half (Nat.sqrt n * Nat.sqrt n != n) := by
    rw [← sqrtBits_eq_sqrt n (2 * f.prec) 0 (Nat.zero_le _) hn]
    exact if_neg hm0
  have hpow : (0 : ℝ) < 2 ^ half := by positivity
  have hreal : √(finReal false m d) = √n * (2 : ℝ) ^ half := by
    have hexp : (2 : ℝ) ^ d = 2 ^ (odd + 2 * f.prec) * ((2 : ℝ) ^ half * 2 ^ half) := by
      rw [← zpow_natCast, ← zpow_add₀ two_ne_zero, ← zpow_add₀ two_ne_zero]
      congr 1
      push_cast
      omega
    have hscaled : finReal false m d = n * ((2 : ℝ) ^ half * 2 ^ half) := by
      have hcast : (n : ℝ) = m * 2 ^ (odd + 2 * f.prec) := by exact_mod_cast rfl
      rw [finReal, hexp, hcast]
      simp only [Bool.false_eq_true, if_false]
      ring
    rw [hscaled, Real.sqrt_mul (by positivity), Real.sqrt_mul_self hpow.le]
  have hlarge : 2 ^ (f.fracBits + 2) ≤ Nat.sqrt n := by
    have hfrac : 2 ≤ f.fracBits := by rcases hf with rfl | rfl <;> decide
    rw [Nat.le_sqrt, ← pow_add]
    calc 2 ^ (f.fracBits + 2 + (f.fracBits + 2)) ≤ 2 ^ (f.fracBits + (odd + 2 * f.prec)) :=
          Nat.pow_le_pow_right (by decide) (by rw [FpFormat.prec]; omega)
      _ = 2 ^ f.fracBits * 2 ^ (odd + 2 * f.prec) := pow_add ..
      _ ≤ n := Nat.mul_le_mul_right _ (hnormal hm0)
  have hroot : 0 ≤ √(finReal false m d) := Real.sqrt_nonneg _
  obtain ⟨hlow, hhigh, hexact⟩ := natSqrt_bounds n
  refine ⟨fun h => ?_, fun h => absurd (hzero.1 h) hm0⟩
  rw [hsqrt]
  refine round_delivers hf c h (by simp) (Nat.lt_of_lt_of_le (by positivity) hlarge) ?_ ?_ ?_ fun _ => hlarge
  all_goals rw [abs_of_nonneg hroot, hreal]
  · exact mul_le_mul_of_nonneg_right hlow hpow.le
  · exact mul_lt_mul_of_pos_right hhigh hpow
  · rw [mul_left_inj' hpow.ne', hexact]

end
end

/-! ## Conversions to integers, comparisons and infinities (R548, R558 to R570) -/

section
variable (p q : Bool) (m n : Nat) (d e : Int)

/-- The integer of a conversion is the real value rounded to a multiple of 1, and the flag says whether they differ. -/
theorem roundToInt_rounds (mode : Rounding) :
    roundedTo mode 1 (finReal p m d) (roundToInt mode p m d).1 ∧
      ((roundToInt mode p m d).2 = true ↔ ((roundToInt mode p m d).1 : ℝ) ≠ finReal p m d) := by
  let k := (-d).toNat
  let a := m * 2 ^ d.toNat
  let t := ((a % 2 ^ k : ℕ) + (0 : ℝ)) / 2 ^ k
  have hmag : (m : ℝ) * (2 : ℝ) ^ d = (a / 2 ^ k : ℕ) + t := by
    have hpow : (2 : ℝ) ^ d = 2 ^ d.toNat / 2 ^ k := by
      rw [← zpow_natCast, ← zpow_natCast, ← zpow_sub₀ two_ne_zero]
      congr 1
      omega
    have hsplit : (a : ℝ) = (a / 2 ^ k : ℕ) * 2 ^ k + (a % 2 ^ k : ℕ) := by exact_mod_cast (Nat.div_add_mod' a (2 ^ k)).symm
    have hcast : (a : ℝ) = m * 2 ^ d.toNat := by exact_mod_cast rfl
    rw [hpow, mul_div_assoc', ← hcast, div_eq_iff (by positivity), hsplit, add_mul]
    simp [t]
  have hx : finReal p m d = (if p then -1 else 1) * (((a / 2 ^ k : ℕ) + t) * 1) := by
    rw [← hmag, mul_one, finReal, mul_assoc]
  obtain ⟨hround, hinexact⟩ := roundedTo_of (mode := mode) (neg := p) (sticky := false) (Nat.mod_lt _ (by positivity)) le_rfl
    one_pos (by simp) (fun _ => rfl) (rfl : t = _) one_pos hx
  have hint : ((roundToInt mode p m d).1 : ℝ) = (if p then -1 else 1) *
      (((if roundsUp mode p (a / 2 ^ k) (a % 2 ^ k) k false then a / 2 ^ k + 1 else a / 2 ^ k : ℕ) : ℝ) * 1) := by
    rw [mul_one]
    exact signedInt_cast p _
  have hflag : (roundToInt mode p m d).2 = (a % 2 ^ k != 0) := rfl
  rw [hint, hflag, ← hinexact]
  exact ⟨hround, by simp⟩

theorem toFixed_delivers (width : Nat) (mode : Rounding) :
    deliversInteger width mode (finReal p m d) (toFixed width mode { val := .fin p m d, denormal := false }) := by
  obtain ⟨hround, hinexact⟩ := roundToInt_rounds p m d mode
  refine ⟨_, hround, fun hrange => ?_, fun hrange => if_neg hrange⟩
  refine ⟨{ FpFlags.none with i := (roundToInt mode p m d).2 }, (if_pos hrange).trans ?_, hinexact, rfl⟩
  rw [BitVec.toNat_ofInt]
  push_cast
  rfl

/-- Only a number that is not denormalized is converted. -/
theorem toFixed_unimplemented {width : Nat} {mode : Rounding} {u : FpOperand}
    (h : u.denormal = true ∨ ∀ p m d, u.val ≠ .fin p m d) : toFixed width mode u = .unimplemented := by
  unfold toFixed
  split
  · next hdenormal hval =>
    rcases h with h | h
    · simp [hdenormal] at h
    · exact absurd hval (h _ _ _)
  · rfl

theorem relation_fin : (FpVal.fin p m d).relation (.fin q n e) =
    if finReal p m d < finReal q n e then .less else if finReal p m d = finReal q n e then .equal else .greater := by
  have hpow : (0 : ℝ) < 2 ^ min d e := by positivity
  rw [finReal_eq_scaled p m (min_le_left d e), finReal_eq_scaled q n (min_le_right d e)]
  simp only [mul_lt_mul_iff_left₀ hpow, mul_left_inj' hpow.ne', Int.cast_lt, Int.cast_inj]
  rfl

end

theorem relation_nan (z : Bool) (v : FpVal) : (FpVal.nan z).relation v = .unordered ∧ v.relation (.nan z) = .unordered :=
  ⟨rfl, by cases v <;> rfl⟩

theorem infiniteOperations_of {f : FpFormat} (hf : f = fpSingle ∨ f = fpDouble) (c : FpRound) (p : Bool) :
    infiniteOperations f c p := by
  have inf := fun neg => isInfinity_infinity hf neg .none
  have invalid := isInvalid_invalid hf
  refine ⟨fun q => ⟨?addSub, inf _, invalid, rfl⟩, ?fin, ?sqrt, inf _⟩
  case addSub =>
    cases p <;> cases q
    · exact ⟨inf _, invalid⟩
    · exact ⟨invalid, inf _⟩
    · exact ⟨invalid, inf _⟩
    · exact ⟨inf _, invalid⟩
  case sqrt =>
    cases p
    · exact inf _
    · exact invalid
  case fin =>
    intro q m e y a b hy
    obtain rfl := (isReal_fin_iff ..).1 hy
    have hswap := Bool.xor_comm p q
    refine ⟨inf _, inf _, inf _, inf _, fun hne => ?_, fun h0 => ?_, inf _, hswap ▸ isZero_zero hf _, rfl, rfl⟩
    · have hm : m ≠ 0 := mt (finReal_eq_zero_iff ..).2 hne
      have hab : f.mul c a b = .exact (f.infinity (p ^^ q)) := if_neg hm
      have hba : f.mul c b a = .exact (f.infinity (q ^^ p)) := if_neg hm
      rw [hab, hba, hswap]
      exact ⟨inf _, inf _⟩
    · have hm : m = 0 := (finReal_eq_zero_iff ..).1 h0
      have hab : f.mul c a b = f.invalid := if_pos hm
      have hba : f.mul c b a = f.invalid := if_pos hm
      rw [hab, hba]
      exact ⟨invalid, invalid⟩

/-! ## Operands taken from encodings -/

/-- The significand of a number fits the format, and is a full one unless the number is zero or denormalized. -/
theorem FpFormat.unpack_significand {f : FpFormat} {k : Nat} {p : Bool} {m : Nat} {d : Int} (h : (f.unpack k).val = .fin p m d) :
    m < 2 ^ f.prec ∧ ((f.unpack k).denormal = false → m ≠ 0 → 2 ^ f.fracBits ≤ m) := by
  have hfrac : k % 2 ^ f.fracBits < 2 ^ f.fracBits := Nat.mod_lt _ (by positivity)
  have hprec : 2 ^ f.prec = 2 ^ f.fracBits * 2 := pow_succ ..
  revert h
  simp only [FpFormat.unpack]
  split
  · split <;> rintro ⟨⟩
  · split
    · rintro ⟨⟩
      refine ⟨by omega, fun hd hm => absurd (bne_eq_false_iff_eq.1 hd) hm⟩
    · rintro ⟨⟩
      exact ⟨by omega, fun _ _ => by omega⟩

/-- The operations on two numbers that fit the format, the first not denormalized. -/
theorem realOperations_of {f : FpFormat} (hf : f = fpSingle ∨ f = fpDouble) (c : FpRound) (p q : Bool) {m n : Nat} (d e : Int)
    (hm : m < 2 ^ f.prec) (hn : n < 2 ^ f.prec) (hnormal : m ≠ 0 → 2 ^ f.fracBits ≤ m) :
    realOperations f c (.fin p m d) (.fin q n e) (finReal p m d) (finReal q n e) p q := by
  refine ⟨FpFormat.add_delivers hf c .., FpFormat.sub_delivers hf c .., FpFormat.mul_delivers hf c .., fun hy => ?div,
    fun hy hx => ?divZero, fun hy hx => ?zeroZero, fun hx => FpFormat.sqrt_delivers hf c p m d hm hnormal hx, fun hx => ?sqrtNeg⟩
  case div => exact FpFormat.div_delivers hf c p q m n d e (mt (finReal_eq_zero_iff ..).2 hy) hn
  case divZero =>
    have hdiv : f.div c (.fin p m d) (.fin q n e) = .value (f.infinity (p ^^ q)) { FpFlags.none with z := true } :=
      (if_pos ((finReal_eq_zero_iff ..).1 hy)).trans (if_neg (mt (finReal_eq_zero_iff ..).2 hx))
    rw [hdiv]
    exact isInfinity_infinity hf ..
  case zeroZero =>
    have hdiv : f.div c (.fin p m d) (.fin q n e) = f.invalid :=
      (if_pos ((finReal_eq_zero_iff ..).1 hy)).trans (if_pos ((finReal_eq_zero_iff ..).1 hx))
    rw [hdiv]
    exact isInvalid_invalid hf
  case sqrtNeg =>
    obtain ⟨rfl, hm0⟩ := (finReal_lt_zero_iff ..).1 hx
    have hsqrt : f.sqrt c (.fin true m d) = f.invalid := (if_neg hm0).trans (if_pos rfl)
    rw [hsqrt]
    exact isInvalid_invalid hf

/-! ## The rounding in integers (R543) -/

/-- The magnitude `b` is `a` rounded to units of `unit`; `even` says which of two nearest ones is taken. -/
def roundedMagnitude (mode : Rounding) (neg : Bool) (unit a b : ℝ) (even : Prop) : Prop :=
  match mode, neg with
  | .nearest, _ => 2 * |b - a| ≤ unit ∧ (2 * |b - a| = unit → even)
  | .zero, _ => b ≤ a ∧ a < b + unit
  | .up, true => b ≤ a ∧ a < b + unit
  | .down, false => b ≤ a ∧ a < b + unit
  | .up, false => a ≤ b ∧ b < a + unit
  | .down, true => a ≤ b ∧ b < a + unit

/-- What is rounded to a unit is rounded to twice the unit where it is a multiple of that. -/
theorem roundedMagnitude.double {mode : Rounding} {neg : Bool} {unit a b : ℝ} {even even' : Prop} (hunit : 0 < unit) (heven : even')
    (h : roundedMagnitude mode neg unit a b even) : roundedMagnitude mode neg (2 * unit) a b even' := by
  cases mode with
  | nearest => exact ⟨by linarith [h.1], fun _ => heven⟩
  | zero => exact ⟨h.1, by linarith [h.2]⟩
  | up => cases neg <;> exact ⟨h.1, by linarith [h.2]⟩
  | down => cases neg <;> exact ⟨h.1, by linarith [h.2]⟩

/-- Rounding a signed value rounds its magnitude. -/
theorem roundedMagnitude_of_roundedTo {mode : Rounding} {neg : Bool} {q m : Nat} {g e : Int}
    (h : roundedTo mode ((2 : ℝ) ^ g) (finReal neg m e) (finReal neg q g)) :
    roundedMagnitude mode neg ((2 : ℝ) ^ g) (m * (2 : ℝ) ^ e) (q * (2 : ℝ) ^ g) (q % 2 = 0) := by
  obtain ⟨n, hn, h⟩ := h
  have hpow : (2 : ℝ) ^ g ≠ 0 := by positivity
  have heven : n % 2 = 0 → q % 2 = 0 := by
    rw [finReal_eq_signedInt, mul_left_inj' hpow, Int.cast_inj] at hn
    intro hn2
    cases neg <;> simp only [signedInt, Bool.false_eq_true, if_false, if_true] at hn <;> omega
  have hpos : ∀ (k : Nat) (i : Int), finReal false k i = k * (2 : ℝ) ^ i := by simp [finReal]
  have hneg : ∀ (k : Nat) (i : Int), finReal true k i = -(k * (2 : ℝ) ^ i) := by simp [finReal]
  cases mode with
  | nearest =>
    have habs : |finReal neg q g - finReal neg m e| = |q * (2 : ℝ) ^ g - m * (2 : ℝ) ^ e| := by
      cases neg
      · rw [hpos, hpos]
      · rw [hneg, hneg, ← abs_neg, neg_sub_neg, neg_sub]
    exact ⟨habs ▸ h.1, fun htie => heven (h.2 (habs.symm ▸ htie))⟩
  | zero =>
    obtain ⟨hle, hlt, -⟩ := h
    rw [abs_finReal, abs_finReal] at hle hlt
    exact ⟨hle, hlt⟩
  | up =>
    obtain ⟨hle, hlt⟩ := h
    cases neg
    · rw [hpos, hpos] at hle hlt
      exact ⟨hle, hlt⟩
    · rw [hneg, hneg] at hle hlt
      exact ⟨by linarith, by linarith⟩
  | down =>
    obtain ⟨hle, hlt⟩ := h
    cases neg
    · rw [hpos, hpos] at hle hlt
      exact ⟨hle, hlt⟩
    · rw [hneg, hneg] at hle hlt
      exact ⟨by linarith, by linarith⟩

/-- The number packed from a rounded significand `q` in units of `2 ^ g`: where `q` fills its binade, the first of the next. -/
theorem FpFormat.unpack_pack_rounded {f : FpFormat} (hf : f = fpSingle ∨ f = fpDouble) (neg : Bool) {q frac : Nat} {g ex : Int}
    (hlow : 2 ^ f.fracBits ≤ q) (hhigh : q ≤ 2 ^ (f.fracBits + 1))
    (hex : ex = g + f.fracBits + if q == 2 ^ (f.fracBits + 1) then 1 else 0)
    (hfrac : frac = if q == 2 ^ (f.fracBits + 1) then 0 else q - 2 ^ f.fracBits) (hmin : ¬ex < 1 - (f.bias : Int))
    (hmax : ¬(f.bias : Int) < ex) :
    f.unpack (f.pack neg (ex + f.bias).toNat frac) =
      { val := if q = 2 ^ (f.fracBits + 1) then .fin neg (2 ^ f.fracBits) (g + 1) else .fin neg q g, denormal := false } := by
  obtain ⟨hbias, hbias0⟩ := bias_eq hf
  have hpow := Nat.pow_succ (n := 2) (m := f.fracBits)
  by_cases hcarry : q = 2 ^ (f.fracBits + 1)
  · rw [if_pos (beq_iff_eq.2 hcarry)] at hex hfrac
    rw [unpack_pack neg (by omega) (by omega) (hfrac ▸ by positivity), if_pos hcarry, hfrac]
    congr 2
    omega
  · rw [if_neg (mt beq_iff_eq.1 hcarry)] at hex hfrac
    rw [unpack_pack neg (by omega) (by omega) (by omega), if_neg hcarry, hfrac, Nat.add_sub_cancel' hlow]
    congr 2
    omega

/-- A result with neither overflow nor underflow: the rounded significand `q`, in units of the binade of the exact magnitude; where
it fills that binade the number is the first of the next. -/
theorem FpFormat.round_value {f : FpFormat} (hf : f = fpSingle ∨ f = fpDouble) {c : FpRound} {neg : Bool} {m : Nat} {e : Int}
    {bits : Nat} {flags : FpFlags} (hm : 0 < m) (h : f.round c neg m e false = .value bits flags) (ho : flags.o = false)
    (hu : flags.u = false) :
    ∃ (q : Nat) (g : Int), 2 ^ f.fracBits ≤ q ∧ q ≤ 2 ^ (f.fracBits + 1) ∧
      roundedTo c.mode ((2 : ℝ) ^ g) (finReal neg m e) (finReal neg q g) ∧
      (flags.i = true ↔ finReal neg q g ≠ finReal neg m e) ∧
      f.unpack bits = {
        val := if q = 2 ^ (f.fracBits + 1) then .fin neg (2 ^ f.fracBits) (g + 1) else .fin neg q g, denormal := false } := by
  have hpow : (0 : ℝ) < 2 ^ e := by positivity
  obtain ⟨d, t, hd0, hd1, hsd, hk, ht, hq1, hq2, hmag⟩ := significand (F := f.fracBits) (sticky := false) hm
    (le_refl ((m : ℝ) * (2 : ℝ) ^ e)) (mul_lt_mul_of_pos_right (by linarith) hpow) (by simp) (by simp)
  set k := m.log2 + 1 - (f.fracBits + 1)
  set q := if f.fracBits + 1 ≤ m.log2 + 1 then m / 2 ^ k else m * 2 ^ (f.fracBits + 1 - (m.log2 + 1))
  set g : Int := e + m.log2 - f.fracBits with hg
  have hx : finReal neg m e = (if neg then -1 else 1) * ((q + t) * (2 : ℝ) ^ g) := by rw [← hmag, finReal, mul_assoc]
  obtain ⟨hround, hinexact⟩ := roundedTo_of (mode := c.mode) (Nat.mod_lt _ (by positivity)) hd0 hd1 hsd hk ht (by positivity) hx
  set q' := if roundsUp c.mode neg q (m % 2 ^ k) k false then q + 1 else q with hq'
  have hy : finReal neg q' g = (if neg then -1 else 1) * (q' * (2 : ℝ) ^ g) := by rw [finReal, mul_assoc]
  have hq'1 : 2 ^ f.fracBits ≤ q' ∧ q' ≤ 2 ^ (f.fracBits + 1) := by
    rw [hq']
    split <;> omega
  refine ⟨q', g, hq'1.1, hq'1.2, hy ▸ hround, ?_⟩
  rw [hy, ← hinexact]
  let ex : Int := e + m.log2 + (if q' == 2 ^ (f.fracBits + 1) then 1 else 0)
  let frac := if q' == 2 ^ (f.fracBits + 1) then 0 else q' - 2 ^ f.fracBits
  have hunfold : f.round c neg m e false =
      if (f.bias : Int) < ex then .value (f.overflow c.mode neg) { FpFlags.none with o := true, i := true }
      else if ex < 1 - (f.bias : Int) then
        if c.flush then .value (f.flushed c.mode neg) { FpFlags.none with u := true, i := true } else .unimplemented
      else .value (f.pack neg (ex + f.bias).toNat frac) { FpFlags.none with i := m % 2 ^ k != 0 || false } := rfl
  rw [hunfold] at h
  split at h
  · cases h
    cases ho
  · next hhigh =>
    split at h
    · split at h
      · cases h
        cases hu
      · cases h
    · next hlow =>
      cases h
      exact ⟨by simp, FpFormat.unpack_pack_rounded hf neg hq'1.1 hq'1.2 (by simp only [ex, hg]; ring) rfl hlow hhigh⟩

/-- The magnitude of such a result is the exact one rounded in its own units. -/
theorem FpFormat.round_magnitude {f : FpFormat} (hf : f = fpSingle ∨ f = fpDouble) {c : FpRound} {neg : Bool} {m : Nat} {e : Int}
    {bits : Nat} {flags : FpFlags} (hm : 0 < m) (h : f.round c neg m e false = .value bits flags) (ho : flags.o = false)
    (hu : flags.u = false) :
    ∃ (q : Nat) (g : Int), f.unpack bits = { val := .fin neg q g, denormal := false } ∧ 2 ^ f.fracBits ≤ q ∧
      q < 2 ^ (f.fracBits + 1) ∧ (flags.i = true ↔ q * (2 : ℝ) ^ g ≠ m * (2 : ℝ) ^ e) ∧
      roundedMagnitude c.mode neg ((2 : ℝ) ^ g) (m * (2 : ℝ) ^ e) (q * (2 : ℝ) ^ g) (q % 2 = 0) := by
  obtain ⟨q, g, hlow, hhigh, hround, hinexact, hunpack⟩ := FpFormat.round_value hf hm h ho hu
  have hmagnitude := roundedMagnitude_of_roundedTo hround
  have hsign : (if neg then (-1 : ℝ) else 1) ≠ 0 := by cases neg <;> simp
  rw [finReal, finReal, mul_assoc, mul_assoc, Ne, mul_right_inj' hsign] at hinexact
  by_cases hcarry : q = 2 ^ (f.fracBits + 1)
  · rw [if_pos hcarry] at hunpack
    have hvalue : (q : ℝ) * 2 ^ g = (2 ^ f.fracBits : ℕ) * (2 : ℝ) ^ (g + 1) := by
      rw [hcarry, zpow_add_one₀ two_ne_zero]
      push_cast
      ring
    have heven : 2 ^ f.fracBits % 2 = 0 := by rcases hf with rfl | rfl <;> decide
    rw [hvalue] at hinexact hmagnitude
    have hdouble := hmagnitude.double (even' := 2 ^ f.fracBits % 2 = 0) (by positivity) heven
    rw [mul_comm 2, ← zpow_add_one₀ two_ne_zero] at hdouble
    exact ⟨_, _, hunpack, le_rfl, Nat.pow_lt_pow_right (by decide) (Nat.lt_succ_self _), hinexact, hdouble⟩
  · rw [if_neg hcarry] at hunpack
    exact ⟨q, g, hunpack, hlow, lt_of_le_of_ne hhigh hcarry, hinexact, hmagnitude⟩

/-- A rounding in common units of both magnitudes. -/
theorem roundedMagnitude.unscale {mode : Rounding} {neg : Bool} {unit a b w : ℝ} {even : Prop} (hw : 0 < w)
    (h : roundedMagnitude mode neg (unit * w) (a * w) (b * w) even) : roundedMagnitude mode neg unit a b even := by
  have hbelow : b * w ≤ a * w ∧ a * w < b * w + unit * w → b ≤ a ∧ a < b + unit := by
    rw [← add_mul, mul_le_mul_iff_left₀ hw, mul_lt_mul_iff_left₀ hw]
    exact id
  have habove : a * w ≤ b * w ∧ b * w < a * w + unit * w → a ≤ b ∧ b < a + unit := by
    rw [← add_mul, mul_le_mul_iff_left₀ hw, mul_lt_mul_iff_left₀ hw]
    exact id
  cases mode with
  | nearest =>
    have habs : 2 * |b * w - a * w| = 2 * |b - a| * w := by rw [← sub_mul, abs_mul, abs_of_pos hw, mul_assoc]
    obtain ⟨hle, htie⟩ := h
    rw [habs, mul_le_mul_iff_left₀ hw] at hle
    rw [habs, mul_left_inj' hw.ne'] at htie
    exact ⟨hle, htie⟩
  | zero => exact hbelow h
  | up =>
    cases neg
    · exact habove h
    · exact hbelow h
  | down =>
    cases neg
    · exact hbelow h
    · exact habove h

/-- A magnitude in units of a lower power of two. -/
theorem magnitude_eq_scaled (m : Nat) {low d : Int} (h : low ≤ d) :
    (m : ℝ) * (2 : ℝ) ^ d = ((m * 2 ^ (d - low).toNat : ℤ) : ℝ) * (2 : ℝ) ^ low := by
  have := finReal_eq_scaled false m h
  simpa only [finReal, signedInt, Bool.false_eq_true, if_false, one_mul] using this

/-- Settles O58: the rounding in the units both magnitudes have in common, and each operation by its rounding of the real result. -/
theorem roundingIsCorrect : Obligations.RoundingIsCorrect := by
  refine ⟨fun f c neg m e bits flags hf hm h ho hu => ?integers, fun f g c k l hf hg => ?reals⟩
  case integers =>
    obtain ⟨q, g, hunpack, hlow, hhigh, hinexact, hmagnitude⟩ := FpFormat.round_magnitude hf hm h ho hu
    refine ⟨q, g, hunpack, hlow, hhigh, ?_⟩
    intro low exact unit got
    have hpow : (0 : ℝ) < 2 ^ low := by positivity
    have hexact : (m : ℝ) * (2 : ℝ) ^ e = (exact : ℝ) * (2 : ℝ) ^ low := magnitude_eq_scaled m (min_le_left e g)
    have hgot : (q : ℝ) * (2 : ℝ) ^ g = (got : ℝ) * (2 : ℝ) ^ low := magnitude_eq_scaled q (min_le_right e g)
    have hunit : (2 : ℝ) ^ g = (unit : ℝ) * (2 : ℝ) ^ low := by
      simpa [unit, low] using magnitude_eq_scaled 1 (min_le_right e g)
    rw [hexact, hgot] at hinexact hmagnitude
    rw [hunit] at hmagnitude
    rw [Ne, mul_left_inj' hpow.ne', Int.cast_inj] at hinexact
    have hscaled := hmagnitude.unscale hpow
    refine ⟨hinexact, ?_⟩
    cases hmode : c.mode <;> rw [hmode] at hscaled
    case nearest => exact ⟨by exact_mod_cast hscaled.1, fun htie => hscaled.2 (by exact_mod_cast htie)⟩
    case zero => exact ⟨by exact_mod_cast hscaled.1, by exact_mod_cast hscaled.2⟩
    case up => cases neg <;> exact ⟨by exact_mod_cast hscaled.1, by exact_mod_cast hscaled.2⟩
    case down => cases neg <;> exact ⟨by exact_mod_cast hscaled.1, by exact_mod_cast hscaled.2⟩
  case reals =>
    intro u v
    refine ⟨fun x y p q m n d e hu hv hx hy => ?_, infiniteOperations_of hf c, fun z => relation_nan z _,
      fun width mode => toFixed_unimplemented, fun n _ _ => FpFormat.ofInt_delivers hf c n⟩
    obtain ⟨hm, hnormal⟩ := FpFormat.unpack_significand hu
    obtain ⟨hn, -⟩ := FpFormat.unpack_significand hv
    rw [hu, isReal_fin_iff] at hx
    rw [hv, isReal_fin_iff] at hy
    subst hx hy
    refine ⟨fun hud _ => ?operations, ?relation, fun hud => ⟨?convert, fun width _ => ?integer⟩⟩
    case operations =>
      rw [hu, hv]
      exact realOperations_of hf c p q d e hm hn (hnormal hud)
    case relation =>
      rw [hu, hv]
      exact relation_fin ..
    case convert =>
      rw [hu]
      exact FpFormat.roundExact_delivers hg c p m d
    case integer =>
      have hoperand : u = { val := .fin p m d, denormal := false } := by rw [← hu, ← hud]
      rw [hoperand]
      exact toFixed_delivers p m d width c.mode

end Sys2Proof.Machine
end
